-- ==== Sys2Proof/Word.lean ====
section
/-! DEFINITION. The byte, and the plainest arithmetic: saturating addition. -/

namespace Sys2Proof

/-- A byte of a frame, a record image or a tag payload. -/
abbrev Byte := BitVec 8

/-- The greatest 32-bit unsigned value, at which counts and the clock stay. -/
def max32 : Nat := 4294967295

/-- The greatest 64-bit unsigned value, at which totals stay (R10). -/
def max64 : Nat := 18446744073709551615

/-- The bound of a stock book field (Table 7-1). -/
def maxBook : Nat := 9223372036854775807

/-- The greatest machine number (R30). -/
def maxMachine : Nat := 281474976710655

/-- Addition that stays at `top` once it reaches it. -/
def satAdd (top a b : Nat) : Nat := min top (a + b)

/-- A value brought to the nearer end of a range. -/
def clampNat (lo hi v : Nat) : Nat := max lo (min hi v)

/-- A signed value brought to the nearer end of a range. -/
def clampInt (lo hi v : Int) : Int := max lo (min hi v)

end Sys2Proof
end

