-- ==== Sys2Proof/Syntax.lean ====
section
/-! DEFINITION. The names of the part's ports, hoses, compartments and meters, and the commands: one
constructor of `Instr` for each row of spec/opcode_table.json. A request's operands are the numbers its
frame carries (Table 13-10), in the order its rule lists them, after the port it arrives on; a field that
may be absent is an `Option`. Enumerated fields are their codes (R204), so that a code outside its list can
be sent and is refused BAD_VALUE by the owner. -/

namespace Sys2Proof

/-- The three ports (section 12.1). -/
inductive Port where
  | console | uplink | service
deriving DecidableEq, Repr

/-- The hoses; also their nozzles and tag readers (Table 0-3). -/
inductive Hose where
  | h1 | h2
deriving DecidableEq, Repr

/-- The compartments; also their pumps and level probes (Table 0-3). -/
inductive Comp where
  | c1 | c2
deriving DecidableEq, Repr

/-- The meters (Table 0-3). -/
inductive MeterId where
  | m1 | m2 | mi
deriving DecidableEq, Repr

/-- The two channels of a pulse pair (section 1.1). -/
inductive Channel where
  | a | b
deriving DecidableEq, Repr

/-- A sensor line or a probe line (Table 13-4). -/
inductive FieldLine where
  | sensor (m : MeterId)
  | probe (c : Comp)
deriving DecidableEq, Repr

/-- The commands the part takes: requests on its ports, and events of its field lines, timers and clock. -/
inductive Instr where
  -- chapter 1
  | readMeter (port : Port) (meter : Nat)
  | readSensors (port : Port)
  -- chapter 2
  | templatePut (port : Port) (index minLen maxLen : Nat) (offsets : List Nat) (check idOffset idLength : Nat)
      (hoursOffset : Option Nat)
  | templateClear (port : Port) (index : Nat)
  | tagSettingsPut (port : Port) (confirm : Nat)
  | templateRead (port : Port) (index : Nat)
  | tagSettingsRead (port : Port)
  | readTagDiagnostics (port : Port) (reader : Nat)
  -- chapter 3
  | machinePut (port : Port) (number status contractor comps : Nat) (capacity1 allowance1 capacity2 allowance2 : Option Nat)
      (manual tagRequired : Nat)
  | machineRemove (port : Port) (number : Nat)
  | openSitePut (port : Port) (mode contractor : Nat) (allowance1 allowance2 : Option Nat)
  | periodSettingsPut (port : Port) (dayStart : Nat)
  | groupRulePut (port : Port) (index state low high contractor comps : Nat) (allowance1 allowance2 : Option Nat)
      (interval : Nat)
  | contractorPut (port : Port) (index state : Nat) (adjustment : Int) (basis : Nat) (limit : Option Nat)
  | contractorSettle (port : Port) (index amount : Nat)
  | machineRead (port : Port) (number : Nat)
  | machineList (port : Port) (start : Nat)
  | openSiteRead (port : Port)
  | periodSettingsRead (port : Port)
  | groupRuleRead (port : Port) (index : Nat)
  | contractorRead (port : Port) (index : Nat)
  -- chapter 4
  | priceSet (port : Port) (comp product price : Nat) (effective : Option Nat)
  | pricePendingClear (port : Port) (comp : Nat)
  | priceRead (port : Port)
  -- chapter 5
  | authoriseManual (port : Port) (hose number : Nat) (hours : Option Nat)
  -- chapter 6
  | armHose (port : Port) (hose operator : Nat) (preset : Option Nat)
  | disarmHose (port : Port) (hose : Nat)
  | pauseHose (port : Port) (hose : Nat)
  | resumeHose (port : Port) (hose : Nat)
  | stopHose (port : Port) (hose : Nat)
  | clearHalt (port : Port) (hose : Nat)
  | clearLock (port : Port) (hose : Nat)
  | hoseSettingsPut (port : Port) (hose armed firstFlow noFlow grace pauseLimit slowDown hoseMax overrun : Nat)
  | deliverySettingsPut (port : Port) (minDelivery retries : Nat)
  | hoseSettingsRead (port : Port)
  | readHose (port : Port) (hose : Nat)
  -- chapter 7
  | stockSettingsPut (port : Port) (comp level hysteresis tolerance : Nat)
  | stockSettingsRead (port : Port)
  | readStock (port : Port)
  -- chapter 8
  | openReceipt (port : Port) (comp supplier : Nat) (docket : List Byte) (expected : Nat)
  | startReceipt (port : Port)
  | closeReceipt (port : Port)
  | clearInletHalt (port : Port)
  | clearInletLock (port : Port)
  | reconcile (port : Port) (comp mode : Nat)
  | readReceipt (port : Port)
  | readProbes (port : Port)
  | readReconcile (port : Port)
  | strappingRead (port : Port) (comp : Nat)
  -- chapter 9
  | exportRead (port : Port) (start : Option Nat)
  | exportRelease (port : Port) (number : Nat)
  | viewRecord (port : Port) (number : Nat)
  | readJournal (port : Port)
  -- chapter 10
  | enterCalibration (port : Port)
  | exitCalibration (port : Port)
  | calibrationWrite (port : Port) (param subject : Nat) (value : Int)
  | strappingWrite (port : Port) (comp : Nat) (points : List (Nat × Nat))
  | stockLoad (port : Port) (comp value : Nat)
  | proveHose (port : Port) (hose target : Nat)
  | applyProving (port : Port) (meter can : Nat)
  | readCalibration (port : Port)
  -- chapter 11
  | inputSettingsPut (port : Port) (input polarity debounce : Nat)
  | restart (port : Port)
  | readInputs (port : Port)
  | readTime (port : Port)
  | idleSettingsRead (port : Port)
  | setTime (port : Port) (time : Nat)
  | idleSettingsPut (port : Port) (interval sources : Nat)
  | enterStandby (port : Port)
  -- chapter 12
  | readEvents (port : Port)
  | ackEvents (port : Port) (kinds : Nat)
  | setEventMask (port : Port) (kinds : Nat)
  | readStatus (port : Port)
  /-- Frame bytes at a port (R196 to R198): one write transfer on the console and uplink, bytes of the line on
  the service port. -/
  | rejectedRequestFrame (port : Port) (bytes : List Byte)
  /-- A frame completing at a port that is not READY (R197). -/
  | busyPortFrame (port : Port)
  /-- A read transfer of `count` bytes on the console or uplink port (R196). -/
  | responseRead (port : Port) (count : Nat)
  | serviceResponseSent
  | serviceFrameGap
  -- the field side
  /-- A rising edge of a channel, with the level of the other channel at that edge (R4). -/
  | pulseArrival (meter : MeterId) (channel : Channel) (otherActive : Bool)
  | sensorFrame (meter : MeterId) (bytes : List Byte)
  | sensorTimeout (meter : MeterId)
  | probeFrame (comp : Comp) (bytes : List Byte)
  | probeTimeout (comp : Comp)
  | sensorFrameGap (line : FieldLine)
  /-- Bytes arriving on a reader's line (R25). -/
  | tagFrame (reader : Hose) (bytes : List Byte)
  | tagFrameTruncated (reader : Hose)
  | candidateLapse (reader : Hose)
  | presentIdentityGap (reader : Hose)
  | graceTimerExpiry (reader : Hose)
  -- timers
  | armedTimeout (hose : Hose)
  | firstFlowTimeout (hose : Hose)
  | noFlowTimeout (hose : Hose)
  | pauseLimit (hose : Hose)
  | settleEnd (hose : Hose)
  | attemptTimerExpiry (pump : Comp)
  | holdTimerExpiry
  | receiptSettleEnd
  | idleTimerExpiry
  -- the clock and its work
  | clockTick
  | rollover
  | watchExpiry (rule : Nat)
  | priceActivation (comp : Comp)
  | deferredEntryWrite
  -- the discrete inputs
  | estopActive
  | powerfailActive
  | powerfailInactive
  | earthBondInactive
  | earthBondActive
  | overfillActive
  | ignitionActive
  | supplyLowActive
  | supplyLowInactive
  | tiltActive
  | nozzleStowed (hose : Hose)
  | nozzleLifted (hose : Hose)
  | pumpRunActive (pump : Comp)
  | pumpRunInactive (pump : Comp)
  | calSwitchInactive
  /-- Hardware reset with the twelve line levels it finds (bit n is the input of position n in Table 11-1, set for
  a high level), whether the clock's battery kept time, and the seconds the clock counted without supply. -/
  | hardwareReset (levels : BitVec 12) (batteryKept : Bool) (downtime : Nat)
  | calSwitchActive
  | estopInactive
  | overfillInactive
  | tiltInactive
  | ignitionInactive
deriving DecidableEq, Repr

end Sys2Proof
end

