-- ==== Sys2Proof/Decode.lean ====
section
/-! DEFINITION. Reading a command from the bits of an opcode-table row. No row of spec/opcode_table.json gives bits,
so there is none to read (log entry 29); the frames that carry requests are decoded in Machine/Frames.lean. -/

namespace Sys2Proof

/-- The command a word of the table's bits spells: none, since the table gives no row any bits. -/
def decodeTableWord (_nbits _w : Nat) : Option Instr := none

end Sys2Proof
end

