-- ==== Sys2Proof/Machine/Arith.lean ====
section
/-! DEFINITION. The arithmetic of the manual: rounding (R1), volume, correction factor and standard volume (R7,
R15 to R17), prices and amounts (R69, R70), the site day (R53), seconds from milliseconds, and the CRC-16 (R26). -/

namespace Sys2Proof.Machine

/-- Division rounded to the nearest integer, halves away from zero (R1). -/
def roundNat (a b : Nat) : Nat := (2 * a + b) / (2 * b)

/-- The same for a signed dividend (R1). -/
def roundInt (a : Int) (b : Nat) : Int :=
  if a < 0 then -(roundNat a.natAbs b : Int) else (roundNat a.natAbs b : Int)

/-- The gross volume in mL of `p` counted pulses at a K factor and a meter factor (R7). -/
def grossOf (kFactor meterFactor p : Nat) : Nat := p * meterFactor / (kFactor * 1000)

/-- A temperature brought into the working range (R13). -/
def clampTemp (t : Int) : Int := clampInt (-400) 800 t

/-- The volume correction factor for an expansion coefficient and a temperature (R16). -/
def ctlOf (alpha : Nat) (t : Int) : Nat :=
  (clampInt 900000 1100000 (1000000 - roundInt ((alpha : Int) * (t - 150)) 10)).toNat

/-- The standard volume of a gross volume at a correction factor (R17). -/
def standardOf (gross ctl : Nat) : Nat := roundNat (gross * ctl) 1000000

/-- The gross figure of a standard limit at a correction factor (R82). -/
def grossFigure (standard ctl : Nat) : Nat := standard * 1000000 / ctl

/-- The adjusted price of a price and a tier adjustment in bp (R69). -/
def adjustedPrice (price : Nat) (adjustment : Int) : Nat :=
  (clampInt 0 99999 (roundInt ((price : Int) * (10000 + adjustment)) 10000)).toNat

/-- The amount in cents of a volume in mL at an adjusted price (R70). -/
def amountOf (volume price : Nat) : Nat := roundNat (volume * price) 10000

/-- The credit volume of a remaining credit at an adjusted price above 0 (R85). -/
def creditVolume (remaining price : Nat) : Nat := remaining * 10000 / price

/-- The site day number of a part time under a day start in minutes (R53). A time before the first day start gives
day 0, as natural subtraction does. -/
def siteDay (time dayStart : Nat) : Nat := (time - dayStart * 60) / 86400

/-- The sequence number after `n` (R159). -/
def nextNumber (n : Nat) : Nat := if n = max32 then 1 else n + 1

/-- The forward distance of a number from the oldest number (R159). -/
def forwardDistance (oldest n : Nat) : Nat := if oldest ≤ n then n - oldest else n + max32 - oldest

/-- A signed value given as the nearer end of the book's range (R125). -/
def clampBook (v : Int) : Int := clampInt (-(maxBook : Int)) maxBook v

/-- The debounce time nearest to a value, the higher where two are equally near (R187). -/
def nearestDebounce (ms : Nat) : Nat :=
  if ms < 10 then 0 else if ms < 135 then 20 else if ms < 625 then 250 else 1000

/-- One bit fed into the CRC-16 register (R26). -/
def crcBit (register : BitVec 16) (bit : Bool) : BitVec 16 :=
  let shifted := register <<< 1
  if (register.msb != bit) then shifted ^^^ 0x1021#16 else shifted

/-- One byte fed into the register, most significant bit first (R26). -/
def crcByte (register : BitVec 16) (b : Byte) : BitVec 16 :=
  [7, 6, 5, 4, 3, 2, 1, 0].foldl (fun r i => crcBit r (b.getLsbD i)) register

/-- The CRC-16 of a sequence of bytes (R26). -/
def crc16 (bytes : List Byte) : BitVec 16 := bytes.foldl crcByte 0xFFFF#16

/-- A value as `width` bytes, most significant first, modulo its range. -/
def bigEndian : (width value : Nat) → List Byte
  | 0, _ => []
  | w + 1, v => BitVec.ofNat 8 (v / 256 ^ w) :: bigEndian w v

/-- The unsigned value of bytes sent most significant first (R204). -/
def beValue (bytes : List Byte) : Nat := bytes.foldl (fun acc b => acc * 256 + b.toNat) 0

/-- The two's complement value of bytes sent most significant first (R204). -/
def beSigned (bytes : List Byte) : Int :=
  let v := beValue bytes
  if 2 * v < 256 ^ bytes.length then (v : Int) else (v : Int) - ((256 ^ bytes.length : Nat) : Int)

/-- The two bytes of a CRC-16, high byte first. -/
def crcBytes (bytes : List Byte) : List Byte := bigEndian 2 (crc16 bytes).toNat

end Sys2Proof.Machine
end

