-- ==== Sys2Proof/Config.lean ====
section
/-! DEFINITION. What the manual leaves open: free values, each an opaque constant with no body, so that
no proof can rest on one. A fresh value is had by applying one to the model's counter `State.fresh`. -/

namespace Sys2Proof.Config

/-- Whether H2 is taken before H1 where one event closes or faults both hoses and the manual gives
no order (R120, R123, R111; log entry 8). -/
opaque secondHoseFirst : Nat → Bool

/-- The residual volume, in mL, of a dispense that the power-fail warning closes outside ENDING: R109 measures it from
the gross at ending, which such a close does not have (log entry 18). -/
opaque openResidual : Nat → BitVec 32

/-- Whether CLEAR INLET HALT looks at the fault kind's class before it looks at the receipt, where the two give different
answers (R149; log entry 10). -/
opaque classFirst : Nat → Bool

/-- Whether a remaining time that is not a whole number of seconds is given as the next higher
second: the manual states the unit and no rounding (R122, R157, R191, R192; log entry 11).
The argument is the time in milliseconds. -/
opaque partialSecondUp : Nat → Bool

/-- Byte `i` of a field of `width` bytes whose value does not fit the width: Table 13-10 gives the
width and no rule for such a value (log entry 14). -/
opaque oversizeByte : (width : Nat) → (value : Int) → (i : Nat) → Byte

/-- The bytes that a read transfer returns past the last byte of the response it reads (R196 names
none; log entry 15). The arguments are the model's counter and the position past the end. -/
opaque overreadByte : Nat → Nat → Byte

/-- Which compartment READ RECONCILE reports as running while both run: the manual gives one running
reconcile in the response and lets two run (R157, R160; log entry 22). True is C2. -/
opaque reportsSecondReconcile : Nat → Bool

end Sys2Proof.Config
end

