-- ==== Sys2Proof/Machine/State.lean ====
section
/-! DEFINITION. Everything the part holds, block by block (Table 0-1), as plain data; the reasons a step can
stop; and the state right after a hardware reset of a part as it leaves the factory. -/

namespace Sys2Proof.Machine

/-! ## One value per item -/

/-- One value for each hose. -/
structure PerHose (α : Type) where
  h1 : α
  h2 : α
deriving DecidableEq, Repr

def PerHose.get {α : Type} (x : PerHose α) : Hose → α
  | .h1 => x.h1
  | .h2 => x.h2

def PerHose.set {α : Type} (x : PerHose α) (h : Hose) (v : α) : PerHose α :=
  match h with
  | .h1 => { x with h1 := v }
  | .h2 => { x with h2 := v }

/-- One value for each compartment. -/
structure PerComp (α : Type) where
  c1 : α
  c2 : α
deriving DecidableEq, Repr

def PerComp.get {α : Type} (x : PerComp α) : Comp → α
  | .c1 => x.c1
  | .c2 => x.c2

def PerComp.set {α : Type} (x : PerComp α) (c : Comp) (v : α) : PerComp α :=
  match c with
  | .c1 => { x with c1 := v }
  | .c2 => { x with c2 := v }

/-- One value for each meter. -/
structure PerMeter (α : Type) where
  m1 : α
  m2 : α
  mi : α
deriving DecidableEq, Repr

def PerMeter.get {α : Type} (x : PerMeter α) : MeterId → α
  | .m1 => x.m1
  | .m2 => x.m2
  | .mi => x.mi

def PerMeter.set {α : Type} (x : PerMeter α) (m : MeterId) (v : α) : PerMeter α :=
  match m with
  | .m1 => { x with m1 := v }
  | .m2 => { x with m2 := v }
  | .mi => { x with mi := v }

/-- One value for each port. -/
structure PerPort (α : Type) where
  console : α
  uplink : α
  service : α
deriving DecidableEq, Repr

def PerPort.get {α : Type} (x : PerPort α) : Port → α
  | .console => x.console
  | .uplink => x.uplink
  | .service => x.service

def PerPort.set {α : Type} (x : PerPort α) (p : Port) (v : α) : PerPort α :=
  match p with
  | .console => { x with console := v }
  | .uplink => { x with uplink := v }
  | .service => { x with service := v }

/-- The same change at every port. -/
def PerPort.map {α β : Type} (f : α → β) (x : PerPort α) : PerPort β :=
  ⟨f x.console, f x.uplink, f x.service⟩

/-! ## MTR: meters (Table 1-1) -/

/-- Four counts of classified pulse arrivals (Table 1-2). -/
structure Counts where
  aFwd : Nat := 0
  aRev : Nat := 0
  bFwd : Nat := 0
  bRev : Nat := 0
deriving DecidableEq, Repr

/-- The stored parameters of a meter (Table 1-5). -/
structure MeterParams where
  kFactor : Nat := 100
  meterFactor : Nat := 1000000
  window : Nat := 4
  leakThreshold : Nat := 10
deriving DecidableEq, Repr

/-- The parameters captured at the start of ownership (R3). -/
structure Captured where
  kFactor : Nat
  meterFactor : Nat
  window : Nat
deriving DecidableEq, Repr

/-- One meter. Its owner is NONE or the one context that can own it: H1 for M1, H2 for M2, the receipt for MI. -/
structure MeterState where
  owned : Bool := false
  counts : Counts := {}
  disagreed : Bool := false
  captured : Option Captured := none
  leaks : Counts := {}
  totalPulses : Nat := 0
  totalGross : Nat := 0
  params : MeterParams := {}
deriving DecidableEq, Repr

structure Mtr where
  meters : PerMeter MeterState
  inletComp : Comp
deriving DecidableEq, Repr

/-! ## TPI: sensors, probes and the reconcile contexts (sections 1.4, 8.7, 8.8) -/

/-- A good sensor frame: its reading and its arrival time in ms. -/
structure SensorReading where
  value : Int
  time : Nat
deriving DecidableEq, Repr

/-- One line temperature sensor, with the bytes of a frame in reception. -/
structure SensorState where
  latest : Option SensorReading := none
  valid : Bool := false
  rx : List Byte := []
  rxTime : Nat := 0
deriving DecidableEq, Repr

/-- A good probe frame: level, temperature and arrival time in ms. -/
structure ProbeReading where
  level : Nat
  temp : Int
  time : Nat
deriving DecidableEq, Repr

/-- One level probe, with the bytes of a frame in reception. -/
structure ProbeState where
  latest : Option ProbeReading := none
  valid : Bool := false
  rx : List Byte := []
  rxTime : Nat := 0
deriving DecidableEq, Repr

/-- The modes of a reconcile (R154). -/
inductive ReconcileMode where
  | check | set
deriving DecidableEq, Repr

/-- The outcomes of a RECONCILE record (R164). -/
inductive ReconcileOutcome where
  | complete | abortedTilt | probeFault | abortedReset
deriving DecidableEq, Repr

/-- A reconcile in collection (section 8.8); its compartment is the one it is held under. -/
structure ReconcileCtx where
  mode : ReconcileMode
  seq : Nat
  readings : Nat
  levelSum : Nat
  tempSum : Int
deriving DecidableEq, Repr

/-- The figures of a completed dip that its record holds (R156, step 6). -/
structure DipFigures where
  meanLevel : Nat
  probeTemp : Int
  dipGross : Nat
  dipStandard : Nat
  bookBefore : Int
  variance : Int
deriving DecidableEq, Repr

/-- The last reconcile result (R156): the figures that the record holds, and CTL_probe. -/
structure ReconcileResult where
  comp : Comp
  mode : ReconcileMode
  outcome : ReconcileOutcome
  figures : DipFigures
  ctlProbe : Nat
  above : Bool
deriving DecidableEq, Repr

structure Tpi where
  sensors : PerMeter SensorState
  probes : PerComp ProbeState
  reconciles : PerComp (Option ReconcileCtx)
  lastReconcile : Option ReconcileResult
deriving DecidableEq, Repr

/-! ## IDU: templates and readers (Tables 2-1, 2-2) -/

/-- An ACTIVE tag template; an UNUSED one is `none`. -/
structure Template where
  minLen : Nat
  maxLen : Nat
  offsets : List Nat
  check : Nat
  idOffset : Nat
  idLength : Nat
  hoursOffset : Option Nat
deriving DecidableEq, Repr

inductive RxPhase where
  | hunt | length | body | check
deriving DecidableEq, Repr

inductive Reception where
  | absent | confirming | present | grace
deriving DecidableEq, Repr

inductive BadCause where
  | none | length | truncated | crc | noMatch | zeroIdentity
deriving DecidableEq, Repr

/-- An identity as a reader holds it: machine number, template, engine hours, time of its last frame in ms. -/
structure Identity where
  machine : Nat
  template : Nat
  hours : Option Nat
  lastFrame : Nat
deriving DecidableEq, Repr

/-- A candidate: an identity and its count of good frames. -/
structure Candidate where
  ident : Identity
  count : Nat
deriving DecidableEq, Repr

/-- One tag reader (Table 2-1), with the bytes of the frame in reception. -/
structure Reader where
  enabled : Bool := false
  phase : RxPhase := .hunt
  rxLength : Nat := 0
  rxBytes : List Byte := []
  rxTime : Nat := 0
  reception : Reception := .absent
  present : Option Identity := none
  candidate : Option Candidate := none
  lost : Bool := false
  graceDeadline : Option Nat := none
  bound : Option Nat := none
  badFrames : Nat := 0
  lastBad : BadCause := .none
  goodFrames : Nat := 0
deriving DecidableEq, Repr

structure Idu where
  templates : List (Option Template)
  confirmCount : Nat
  readers : PerHose Reader
deriving DecidableEq, Repr

/-! ## MTB: machines and group rules (Tables 3-1, 3-3) -/

inductive MachineStatus where
  | active | barred | removing
deriving DecidableEq, Repr

inductive Origin where
  | listed | group (rule : Nat) | opened
deriving DecidableEq, Repr

/-- One machine table entry (Table 3-1). -/
structure MachineEntry where
  number : Nat
  status : MachineStatus
  origin : Origin
  contractor : Nat
  comps : PerComp Bool
  capacity : PerComp (Option Nat)
  allowance : PerComp (Option Nat)
  consumed : PerComp Nat := ⟨0, 0⟩
  manual : Bool
  tagRequired : Bool
  hours : Option Nat := none
  lastFill : Option Nat := none
  marker : PerComp (Option Hose) := ⟨none, none⟩
deriving DecidableEq, Repr

/-- The open-site settings (R52). -/
structure OpenSite where
  on : Bool := false
  contractor : Nat := 0
  allowance : PerComp (Option Nat) := ⟨none, none⟩
deriving DecidableEq, Repr

inductive Watch where
  | disarmed | armed (deadline : Nat) | overdue
deriving DecidableEq, Repr

/-- One group rule (Table 3-3). -/
structure GroupRule where
  active : Bool := false
  low : Nat := 0
  high : Nat := 0
  contractor : Nat := 0
  comps : PerComp Bool := ⟨false, false⟩
  allowance : PerComp (Option Nat) := ⟨none, none⟩
  interval : Nat := 0
  watch : Watch := .disarmed
deriving DecidableEq, Repr

structure Mtb where
  machines : List MachineEntry
  openSite : OpenSite
  dayStart : Nat
  periodDay : Nat
  rules : List GroupRule
deriving DecidableEq, Repr

/-! ## BIL: contractors and prices (Tables 3-4, 4-1) -/

inductive ContractorState where
  | unused | opened | hold
deriving DecidableEq, Repr

inductive Basis where
  | standard | gross
deriving DecidableEq, Repr

/-- One contractor entry (Table 3-4). -/
structure Contractor where
  state : ContractorState := .unused
  adjustment : Int := 0
  basis : Basis := .standard
  limit : Option Nat := none
  accrued : Nat := 0
  committed : Nat := 0
deriving DecidableEq, Repr

/-- A pending price with its effective time and origin port (Table 4-1). -/
structure PendingPrice where
  price : Nat
  effective : Nat
  origin : Port
deriving DecidableEq, Repr

/-- The price record of a compartment (Table 4-1). -/
structure PriceRecord where
  product : Nat := 1
  current : Option Nat := none
  pending : Option PendingPrice := none
deriving DecidableEq, Repr

structure Bil where
  contractors : List Contractor
  prices : PerComp PriceRecord
deriving DecidableEq, Repr

/-! ## HSC: hoses and pumps (Tables 6-1, 6-2, 6-4, 6-6) -/

inductive HoseState where
  | idle | armed | priming | ready | flowing | slowing | paused | ending | halted | locked
deriving DecidableEq, Repr

/-- Fault kinds, in the order of their codes (Table 13-6, note e). -/
inductive FaultKind where
  | pumpStart | channel | overrun | leak | sensor | clockLost
deriving DecidableEq, Repr

/-- A fault level; its kind is held exactly while it is not NONE. -/
inductive FaultLevel where
  | clear | halted (kind : FaultKind) | locked (kind : FaultKind)
deriving DecidableEq, Repr

/-- The refusal reasons, in the order of their codes from 01 hex (R206). -/
inductive Reason where
  | estop | calibration | supplyLow | timeInvalid | compartmentBusy | journalFull | unknownMachine | tableFull
  | barred | wrongProduct | machineBusy | contractorHold | noPrice | credit | presetTooSmall | tank | allowance
  | stock | hoseMax | busy | inletFault | earthRequired | overfill | noUllage | probeFault | tilted | switchOpen
  | pumpFailed
deriving DecidableEq, Repr

inductive IdMode where
  | tag | manual
deriving DecidableEq, Repr

inductive IdClass where
  | listed | group | opened
deriving DecidableEq, Repr

/-- The limiters, in the order of R86. -/
inductive Limiter where
  | requested | tank | allowance | stock | credit | hoseMax
deriving DecidableEq, Repr

/-- The outcomes of a DISPENSE record, in the order of Table 9-4. -/
inductive DispenseOutcome where
  | complete | preset | stopped | noFlow | tagLost | wrongMachine | expired | cancelled | fault | estop
  | interrupted | proving
deriving DecidableEq, Repr

/-- The end causes of a proving run (R181). -/
inductive EndCause where
  | preset | complete | cancelled | stopped | noFlow | expired
deriving DecidableEq, Repr

/-- The flags of a DISPENSE record, in the order of Table 9-5. -/
structure DispenseFlags where
  manual : Bool := false
  hoursBackward : Bool := false
  tempFallback : Bool := false
  channelLow : Bool := false
  tailUncertain : Bool := false
  remoteStop : Bool := false
  priceZero : Bool := false
deriving DecidableEq, Repr

/-- The sampling state of a transaction (R14). -/
structure Sampling where
  sum : Int := 0
  n : Nat := 0
  threshold : Nat := 0
deriving DecidableEq, Repr

/-- The pause cause set (R103). -/
structure Causes where
  tag : Bool := false
  pump : Bool := false
  operator : Bool := false
deriving DecidableEq, Repr

/-- A refusal note (R80). -/
structure RefusalNote where
  reason : Reason
  machine : Nat
  mode : IdMode
  time : Nat
deriving DecidableEq, Repr

/-- What a dispense granted to a machine carries of its authorisation record (R89). -/
structure Granted where
  machine : Nat
  mode : IdMode
  cls : IdClass
  template : Option Nat
  hours : Option Nat
  contractor : Nat
  price : Nat
  basis : Basis
  tagRequired : Bool
deriving DecidableEq, Repr

/-- The fields of a hose context filled at the grant or the start of a proving run (Table 6-2). -/
structure Dispense where
  comp : Comp
  granted : Option Granted
  preset : Nat
  limiter : Limiter
  committedVolume : Nat
  committedAmount : Nat
  seq : Nat
  counted : Nat := 0
  gross : Nat := 0
  sampling : Sampling := {}
  grossAtEnding : Option Nat := none
  causes : Causes := {}
  pauseCount : Nat := 0
  outcome : Option DispenseOutcome := none
  faultKind : Option FaultKind := none
  endCause : Option EndCause := none
  overrunMet : Bool := false
  flags : DispenseFlags := {}
  proving : Bool
deriving DecidableEq, Repr

/-- One hose context (Table 6-2), with the deadline of its hose timer in ms (Table 6-1). -/
structure HoseCtx where
  state : HoseState := .idle
  timer : Option Nat := none
  operator : Option Nat := none
  requested : Option Nat := none
  note : Option RefusalNote := none
  dispense : Option Dispense := none
deriving DecidableEq, Repr

/-- The identification held in a hose shadow (R96). -/
structure ShadowIdent where
  machine : Nat
  mode : IdMode
  cls : IdClass
  template : Option Nat
  hours : Option Nat
deriving DecidableEq, Repr

/-- The shadow of a dispense in the nonvolatile store (R96). -/
structure Shadow where
  opened : Bool := false
  seq : Nat := 0
  counted : Nat := 0
  tempSum : Int := 0
  samples : Nat := 0
  ident : Option ShadowIdent := none
  pauseCount : Nat := 0
  flags : DispenseFlags := {}
  faultKind : Option FaultKind := none
  proving : Bool := false
  powerFail : Bool := false
deriving DecidableEq, Repr

/-- A pump's state (Table 6-4): in STARTING, its retries left and the deadline of its attempt timer. -/
inductive PumpState where
  | stopped | starting (retries deadline : Nat) | running | failed
deriving DecidableEq, Repr

structure Pump where
  demand : PerHose Bool := ⟨false, false⟩
  state : PumpState := .stopped
  lastStartFailed : Bool := false
deriving DecidableEq, Repr

/-- The eight parameters of a hose (Table 6-6). -/
structure HoseParams where
  armed : Nat := 120
  firstFlow : Nat := 60
  noFlow : Nat := 30
  grace : Nat := 3
  pauseLimit : Nat := 60
  slowDown : Nat := 5000
  hoseMax : Nat := 3000000
  overrun : Nat := 2000
deriving DecidableEq, Repr

structure Hsc where
  hoses : PerHose HoseCtx
  faults : PerHose FaultLevel
  shadows : PerHose Shadow
  pumps : PerComp Pump
  map : PerHose Comp
  params : PerHose HoseParams
  minDelivery : Nat
  retries : Nat
deriving DecidableEq, Repr

/-! ## STK: compartments and books (Tables 7-1 to 7-3) -/

/-- A stock book (R125). -/
structure Book where
  base : Nat := 0
  receipts : Nat := 0
  dispensed : Nat := 0
  losses : Int := 0
  baseTime : Option Nat := none
deriving DecidableEq, Repr

inductive OpState where
  | free | drawn (count : Nat) | receiving | reconciling
deriving DecidableEq, Repr

/-- The parameters of a compartment (Table 7-2). -/
structure CompParams where
  capacity : Nat := 10000000
  heel : Nat := 0
  safeFill : Nat := 950000
  alpha : Nat := 830
  fallback : Int := 150
deriving DecidableEq, Repr

/-- The stock settings of a compartment (Table 7-3). -/
structure StockSettings where
  level : Nat := 0
  hysteresis : Nat := 100000
  tolerance : Nat := 20000
deriving DecidableEq, Repr

/-- One point of a strapping table (R153). -/
structure StrapPoint where
  level : Nat
  gross : Nat
deriving DecidableEq, Repr

structure Compartment where
  book : Book := {}
  notified : Bool := false
  op : OpState := .free
  committed : Nat := 0
  params : CompParams := {}
  settings : StockSettings := {}
  strapping : List StrapPoint := [⟨0, 0⟩, ⟨40000, 10000000⟩]
deriving DecidableEq, Repr

structure Stk where
  comps : PerComp Compartment
deriving DecidableEq, Repr

/-! ## RCP: the receipt (Tables 8-1, 8-2) -/

inductive ReceiptState where
  | idle | docketed | receiving | held | settling
deriving DecidableEq, Repr

/-- The outcomes of a RECEIPT record (R164). -/
inductive ReceiptOutcome where
  | complete | limit | overfill | earthLost | abandoned | fault | estop | interrupted
deriving DecidableEq, Repr

inductive StartSource where
  | probe | book
deriving DecidableEq, Repr

/-- What OPEN RECEIPT gives a receipt (R141). -/
structure Docket where
  comp : Comp
  supplier : Nat
  number : List Byte
  expected : Nat
  seq : Nat
deriving DecidableEq, Repr

/-- What START RECEIPT gives a receipt (R142). -/
structure Started where
  source : StartSource
  startLevel : Option Nat
  startGross : Nat
  limit : Nat
deriving DecidableEq, Repr

/-- The receipt context (Table 8-1), with TEMP_FALLBACK (R14) and the deadline of its hold or settle timer in ms. -/
structure Receipt where
  state : ReceiptState := .idle
  docket : Option Docket := none
  started : Option Started := none
  counted : Nat := 0
  gross : Nat := 0
  sampling : Sampling := {}
  tempFallback : Bool := false
  timer : Option Nat := none
  outcome : Option ReceiptOutcome := none
deriving DecidableEq, Repr

/-- The receipt shadow (R140); `started` is the phase STARTED. -/
structure ReceiptShadow where
  opened : Bool := false
  seq : Nat := 0
  started : Bool := false
  counted : Nat := 0
  tempSum : Int := 0
  samples : Nat := 0
  powerFail : Bool := false
deriving DecidableEq, Repr

structure Rcp where
  receipt : Receipt
  shadow : ReceiptShadow
  fault : FaultLevel
deriving DecidableEq, Repr

/-! ## JNL: the journal (Tables 9-1 to 9-6) -/

/-- The fault sources (R165). -/
inductive Source where
  | h1 | h2 | inlet | part
deriving DecidableEq, Repr

/-- The subjects of an ADJUST record, in the order of their codes (Table 13-7). -/
inductive Subject where
  | m1 | m2 | mi | c1 | c2 | h1 | h2
deriving DecidableEq, Repr

/-- The parameter identifiers, in the order of their codes from 01 hex (Table 13-8). -/
inductive ParamId where
  | kFactor | meterFactor | channelWindow | leakThreshold | hoseMap | capacity | heel | safeFill | alpha
  | fallbackTemp | productCode | strapping | initialLoad | price
deriving DecidableEq, Repr

/-- The figures a DISPENSE record takes at its close (Table 6-3). -/
structure DispenseFigures where
  counted : Nat
  pulsesA : Nat
  pulsesB : Nat
  reverse : Nat
  gross : Nat
  standard : Nat
  meanTemp : Int
  ctl : Nat
  amount : Nat
  residual : Nat
  pauseCount : Nat
deriving DecidableEq, Repr

/-- The fields of a DISPENSE record that a proving run's lacks (Table 9-3). -/
structure RecordIdent where
  machine : Nat
  mode : IdMode
  cls : IdClass
  template : Option Nat
  operator : Nat
  contractor : Nat
  price : Nat
  basis : Basis
deriving DecidableEq, Repr

structure DispenseRecord where
  hose : Hose
  comp : Comp
  ident : Option RecordIdent
  hours : Option Nat
  preset : Nat
  limiter : Limiter
  flags : DispenseFlags
  outcome : Option DispenseOutcome := none
  faultKind : Option FaultKind := none
  figures : Option DispenseFigures := none
deriving DecidableEq, Repr

/-- The figures a RECEIPT record takes at its close (R164). -/
structure ReceiptFigures where
  gross : Nat
  standard : Nat
  meanTemp : Int
  variance : Option Int
  endLevel : Option Nat
deriving DecidableEq, Repr

structure ReceiptRecord where
  comp : Comp
  supplier : Nat
  docket : List Byte
  expected : Nat
  startLevel : Option Nat := none
  varianceHigh : Bool := false
  outcome : Option ReceiptOutcome := none
  figures : Option ReceiptFigures := none
deriving DecidableEq, Repr

structure ReconcileRecord where
  comp : Comp
  mode : ReconcileMode
  varianceHigh : Bool := false
  outcome : Option ReconcileOutcome := none
  figures : Option DipFigures := none
deriving DecidableEq, Repr

structure AdjustRecord where
  param : ParamId
  subject : Subject
  old : Option Int
  new : Int
  origin : Port
deriving DecidableEq, Repr

structure FaultRecord where
  source : Source
  kind : FaultKind
  locked : Bool
  volume : Option Nat
  repeats : Option Nat
deriving DecidableEq, Repr

/-- The fields of a record's kind. -/
inductive Body where
  | dispense (d : DispenseRecord)
  | receipt (r : ReceiptRecord)
  | reconcile (r : ReconcileRecord)
  | adjust (a : AdjustRecord)
  | fault (f : FaultRecord)
deriving DecidableEq, Repr

/-- One record (Table 9-2); it is CLOSED exactly when it has a close time. -/
structure Record where
  seq : Nat
  openTime : Nat
  closeTime : Option Nat
  body : Body
deriving DecidableEq, Repr

/-- A HELD deferred fault entry (Table 9-6); an EMPTY one is `none`. -/
structure Deferred where
  kind : FaultKind
  locked : Bool
  volume : Option Nat
  repeats : Nat
  firstTime : Nat
deriving DecidableEq, Repr

/-- One value for each fault source. -/
structure PerSource (α : Type) where
  h1 : α
  h2 : α
  inlet : α
  part : α
deriving DecidableEq, Repr

def PerSource.get {α : Type} (x : PerSource α) : Source → α
  | .h1 => x.h1
  | .h2 => x.h2
  | .inlet => x.inlet
  | .part => x.part

def PerSource.set {α : Type} (x : PerSource α) (i : Source) (v : α) : PerSource α :=
  match i with
  | .h1 => { x with h1 := v }
  | .h2 => { x with h2 := v }
  | .inlet => { x with inlet := v }
  | .part => { x with part := v }

/-- The ring: its occupied slots' records in ring order from the release cursor (R158). Head, occupied count,
slot states and the slot of a record follow from the two (`Jnl.head`, `Jnl.slot`). -/
structure Jnl where
  ring : List Record
  cursor : Nat
  nextSeq : Nat
  deferred : PerSource (Option Deferred)
deriving DecidableEq, Repr

/-! ## CAL (Table 10-1) -/

/-- A proving result (R182). -/
structure ProvingResult where
  seq : Nat
  gross : Nat
  kFactor : Nat
  meterFactor : Nat
  endCause : EndCause
deriving DecidableEq, Repr

/-- Calibration mode; the results are those of M1 (under H1) and M2 (under H2). -/
structure Cal where
  on : Bool
  results : PerHose (Option ProvingResult)
deriving DecidableEq, Repr

/-! ## ITU: inputs, time and standby (Tables 11-1, 11-2) -/

/-- The twelve inputs, in the order of Table 11-1. -/
inductive Input where
  | estop | powerfail | earthBond | overfill | ignition | supplyLow | tilt | stowed1 | stowed2 | pumpRun1 | pumpRun2
  | calSwitch
deriving DecidableEq, Repr

/-- An input: its line level (true is high), debounced state, polarity and debounce time in ms, and, while the line
holds the level of the other state, the time on the monotonic base at which it will have held it for the debounce time
(R186). -/
structure InputState where
  level : Bool := false
  active : Bool := false
  activeLow : Bool := false
  debounce : Nat
  heldAt : Option Nat := none
deriving DecidableEq, Repr

/-- A line goes to a level, `wait` ms after the change before it. -/
structure LineChange where
  wait : Nat
  input : Input
  level : Bool
deriving DecidableEq, Repr

/-- One value for each input. -/
structure PerInput (α : Type) where
  estop : α
  powerfail : α
  earthBond : α
  overfill : α
  ignition : α
  supplyLow : α
  tilt : α
  stowed1 : α
  stowed2 : α
  pumpRun1 : α
  pumpRun2 : α
  calSwitch : α
deriving DecidableEq, Repr

def PerInput.get {α : Type} (x : PerInput α) : Input → α
  | .estop => x.estop
  | .powerfail => x.powerfail
  | .earthBond => x.earthBond
  | .overfill => x.overfill
  | .ignition => x.ignition
  | .supplyLow => x.supplyLow
  | .tilt => x.tilt
  | .stowed1 => x.stowed1
  | .stowed2 => x.stowed2
  | .pumpRun1 => x.pumpRun1
  | .pumpRun2 => x.pumpRun2
  | .calSwitch => x.calSwitch

def PerInput.set {α : Type} (x : PerInput α) (i : Input) (v : α) : PerInput α :=
  match i with
  | .estop => { x with estop := v }
  | .powerfail => { x with powerfail := v }
  | .earthBond => { x with earthBond := v }
  | .overfill => { x with overfill := v }
  | .ignition => { x with ignition := v }
  | .supplyLow => { x with supplyLow := v }
  | .tilt => { x with tilt := v }
  | .stowed1 => { x with stowed1 := v }
  | .stowed2 => { x with stowed2 := v }
  | .pumpRun1 => { x with pumpRun1 := v }
  | .pumpRun2 => { x with pumpRun2 := v }
  | .calSwitch => { x with calSwitch := v }

/-- The idle timer's sources, in the order of R192. -/
inductive IdleSource where
  | nozzle | tag | console | uplink | receipt | ignition
deriving DecidableEq, Repr

/-- `mono` is the monotonic time base in ms since the last hardware reset. The idle timer is RUNNING exactly
when it has a deadline. `lines` is the changes of line level that the outside has in store, first to come first (the
model's own field, log entry 6). -/
structure Itu where
  inputs : PerInput InputState
  latch : Bool
  clock : Nat
  clockValid : Bool
  mono : Nat
  idleInterval : Nat
  idleSources : BitVec 6
  idleDeadline : Option Nat
  standby : Bool
  lines : List LineChange
deriving DecidableEq, Repr

/-! ## PRT: ports, responses and events (Tables 12-0, 12-2, 12-3) -/

/-- The response statuses, in the order of their codes (Table 12-2, Table 13-2). -/
inductive Status where
  | ok | okClamped | refused | busy | busyPort | notPermitted | notFound | notClosed | notActive | full | badRequest
  | badValue | frameError | powerFail
deriving DecidableEq, Repr

/-- A field of a response payload: unsigned or signed in a width of bytes, present or absent, or bytes laid out
elsewhere (a record image, a docket number, a strapping image). -/
inductive Field where
  | nat (width value : Nat)
  | int (width : Nat) (value : Int)
  | optNat (width : Nat) (value : Option Nat)
  | optInt (width : Nat) (value : Option Int)
  | bytes (image : List Byte)
  | optBytes (width : Nat) (image : Option (List Byte))
deriving DecidableEq, Repr

structure Response where
  status : Status
  payload : List Field
deriving DecidableEq, Repr

/-- The event kinds, in the order of Table 12-3. -/
inductive Event where
  | h1Change | h2Change | authRefusedH1 | authRefusedH2 | dispenseClosed | receiptChange | receiptClosed
  | reconcileDone | restockDue | stockNegative | varianceHigh | fault | locked | estop | groupOverdue | groupResumed
  | journalLow | journalFull | priceChanged | periodRollover | idleExpired | supplyLow | calibration | startup
deriving DecidableEq, Repr

inductive PortPhase where
  | ready | executing | answered
deriving DecidableEq, Repr

/-- One port (Table 12-0). Its response queue is `answer` followed by one BUSY_PORT response when `refused` is
not 0. `rx` and `rxTime` are the bytes of a frame in reception on the service port and the time of the last of
them; `sent` is the bytes the last read transfer or transmission gave the master (the model's own field). -/
structure PortState where
  phase : PortPhase := .ready
  answer : Option Response := none
  refused : Nat := 0
  pending : BitVec 24 := 0
  mask : BitVec 24 := 0
  rx : List Byte := []
  rxTime : Nat := 0
  sent : List Byte := []
deriving DecidableEq, Repr

structure Prt where
  ports : PerPort PortState
deriving DecidableEq, Repr

/-! ## The part -/

/-- The state of the part, and the commands that wait (first in, first out). `fresh` is the model's own counter,
which free values are taken at. -/
structure State where
  mtr : Mtr
  tpi : Tpi
  idu : Idu
  mtb : Mtb
  bil : Bil
  hsc : Hsc
  stk : Stk
  rcp : Rcp
  jnl : Jnl
  cal : Cal
  itu : Itu
  prt : Prt
  fresh : Nat
  pending : List Instr
deriving DecidableEq, Repr

/-- The reasons a command can stop the part: the manual names none, every command is answered or has its effect,
so there is no constructor. -/
inductive Fault where
deriving DecidableEq, Repr

/-- The reasons the model gives no meaning to a command. -/
inductive Refusal where
  /-- Raised by an arm of `exec` whose command has no meaning yet; safe, since nothing is said of it. No arm
  raises it. -/
  | notModelled (mnemonic : String)
deriving DecidableEq, Repr

/-! ## Reset -/

/-- The input settings and levels of a new part, every line at its INACTIVE level (Table 11-1; log entry 4). -/
def State.factoryInputs : PerInput InputState where
  estop := { level := true, activeLow := true, debounce := 10 }
  powerfail := { level := true, activeLow := true, debounce := 10 }
  earthBond := { debounce := 250 }
  overfill := { debounce := 20 }
  ignition := { debounce := 1000 }
  supplyLow := { debounce := 1000 }
  tilt := { debounce := 1000 }
  stowed1 := { debounce := 250 }
  stowed2 := { debounce := 250 }
  pumpRun1 := { debounce := 250 }
  pumpRun2 := { debounce := 250 }
  calSwitch := { debounce := 250 }

/-- A part as it leaves the factory, right after a hardware reset that its clock's battery outlived (DESIGN CHOICE,
log entries 3 to 5). Every mask is enabled and every pending set is STARTUP alone (R203). -/
def State.reset : State where
  mtr := { meters := ⟨{}, {}, {}⟩, inletComp := .c1 }
  tpi := { sensors := ⟨{}, {}, {}⟩, probes := ⟨{}, {}⟩, reconciles := ⟨none, none⟩, lastReconcile := none }
  idu := { templates := List.replicate 8 none, confirmCount := 3, readers := ⟨{}, {}⟩ }
  mtb := { machines := [], openSite := {}, dayStart := 360, periodDay := 0, rules := List.replicate 8 {} }
  bil := { contractors := List.replicate 32 {}, prices := ⟨{}, {}⟩ }
  hsc := { hoses := ⟨{}, {}⟩, faults := ⟨.clear, .clear⟩, shadows := ⟨{}, {}⟩, pumps := ⟨{}, {}⟩, map := ⟨.c1, .c2⟩,
           params := ⟨{}, {}⟩, minDelivery := 2000, retries := 2 }
  stk := { comps := ⟨{}, {}⟩ }
  rcp := { receipt := {}, shadow := {}, fault := .clear }
  jnl := { ring := [], cursor := 0, nextSeq := 1, deferred := ⟨none, none, none, none⟩ }
  cal := { on := false, results := ⟨none, none⟩ }
  itu := { inputs := State.factoryInputs, latch := false, clock := 0, clockValid := true, mono := 0, idleInterval := 30,
           idleSources := 0x3F#6, idleDeadline := some 1800000, standby := false, lines := [] }
  prt := { ports := ⟨{ pending := 0x800000#24, mask := 0xFFFFFF#24 }, { pending := 0x800000#24, mask := 0xFFFFFF#24 },
                     { pending := 0x800000#24, mask := 0xFFFFFF#24 }⟩ }
  fresh := 0
  pending := []

end Sys2Proof.Machine
end

