-- ==== Sys2Proof/Machine/Flags.lean ====
section
/-! DEFINITION. The event kinds and their sets (Table 12-3, section 13.4), and the raising of an event (R200). -/

namespace Sys2Proof.Machine

/-- The position of a kind in Table 12-3, which is its bit in a set (section 13.4). -/
def Event.code (e : Event) : Nat := e.ctorIdx

/-- The set of one kind. -/
def Event.bit (e : Event) : BitVec 24 := 1#24 <<< e.code

/-- Whether a set holds a kind. -/
def hasEvent (set : BitVec 24) (e : Event) : Bool := set.getLsbD e.code

/-- The change event of a hose (R96). -/
def Event.ofHose : Hose → Event
  | .h1 => .h1Change
  | .h2 => .h2Change

/-- The refusal event of a hose (R80). -/
def Event.refusedOf : Hose → Event
  | .h1 => .authRefusedH1
  | .h2 => .authRefusedH2

/-- The set of several kinds. -/
def eventSet (es : List Event) : BitVec 24 := es.foldl (fun acc e => acc ||| e.bit) 0#24

/-- Adds a set of kinds to the pending set of each port (R200). -/
def raiseSet (set : BitVec 24) (s : State) : State :=
  { s with prt := { s.prt with ports := s.prt.ports.map fun p => { p with pending := p.pending ||| set } } }

/-- Raises one kind. -/
def raise (e : Event) (s : State) : State := raiseSet e.bit s

/-- Raises a kind when a condition holds. -/
def raiseIf (b : Bool) (e : Event) (s : State) : State := if b then raise e s else s

/-- The event line of a port (R200). -/
def eventLine (p : PortState) : Bool := p.pending &&& p.mask != 0#24

end Sys2Proof.Machine
end

