-- ==== Sys2Proof/Machine/Operands.lean ====
section
/-! DEFINITION. The codes by which frames and images carry enumerated values (R204, Tables 13-5 to 13-8), in both
directions: what a received code names, or nothing when it lies outside its list, and the code of a value sent. -/

namespace Sys2Proof.Machine

/-! ## Received codes -/

def hoseOf : Nat → Option Hose
  | 0 => some .h1
  | 1 => some .h2
  | _ => none

def compOf : Nat → Option Comp
  | 0 => some .c1
  | 1 => some .c2
  | _ => none

def meterOf : Nat → Option MeterId
  | 0 => some .m1
  | 1 => some .m2
  | 2 => some .mi
  | _ => none

/-- A yes-or-no field (R205). -/
def yesNoOf : Nat → Option Bool
  | 0 => some false
  | 1 => some true
  | _ => none

/-- A set of compartments that is not empty. -/
def compSetOf : Nat → Option (PerComp Bool)
  | 1 => some ⟨true, false⟩
  | 2 => some ⟨false, true⟩
  | 3 => some ⟨true, true⟩
  | _ => none

def basisOf : Nat → Option Basis
  | 0 => some .standard
  | 1 => some .gross
  | _ => none

def contractorStateOf : Nat → Option ContractorState
  | 0 => some .unused
  | 1 => some .opened
  | 2 => some .hold
  | _ => none

def reconcileModeOf : Nat → Option ReconcileMode
  | 0 => some .check
  | 1 => some .set
  | _ => none

/-- The settable inputs: every input of Table 11-1 but ESTOP and POWERFAIL (R187). -/
def settableInputOf : Nat → Option Input
  | 2 => some .earthBond
  | 3 => some .overfill
  | 4 => some .ignition
  | 5 => some .supplyLow
  | 6 => some .tilt
  | 7 => some .stowed1
  | 8 => some .stowed2
  | 9 => some .pumpRun1
  | 10 => some .pumpRun2
  | 11 => some .calSwitch
  | _ => none

/-- The parameter identifiers of Table 13-8. -/
def paramOf : Nat → Option ParamId
  | 1 => some .kFactor
  | 2 => some .meterFactor
  | 3 => some .channelWindow
  | 4 => some .leakThreshold
  | 5 => some .hoseMap
  | 6 => some .capacity
  | 7 => some .heel
  | 8 => some .safeFill
  | 9 => some .alpha
  | 10 => some .fallbackTemp
  | 11 => some .productCode
  | 12 => some .strapping
  | 13 => some .initialLoad
  | 14 => some .price
  | _ => none

def subjectOf : Nat → Option Subject
  | 0 => some .m1
  | 1 => some .m2
  | 2 => some .mi
  | 3 => some .c1
  | 4 => some .c2
  | 5 => some .h1
  | 6 => some .h2
  | _ => none

/-- The meter a subject names. -/
def Subject.meter : Subject → Option MeterId
  | .m1 => some .m1
  | .m2 => some .m2
  | .mi => some .mi
  | _ => none

/-- The compartment a subject names. -/
def Subject.comp : Subject → Option Comp
  | .c1 => some .c1
  | .c2 => some .c2
  | _ => none

/-- The hose a subject names. -/
def Subject.hose : Subject → Option Hose
  | .h1 => some .h1
  | .h2 => some .h2
  | _ => none

def Subject.ofMeter : MeterId → Subject
  | .m1 => .m1
  | .m2 => .m2
  | .mi => .mi

def Subject.ofComp : Comp → Subject
  | .c1 => .c1
  | .c2 => .c2

/-! ## Ranges that several requests share -/

/-- A volume field that may be absent lies outside 1..99,999,999. -/
def badCapacity (v : Option Nat) : Bool := (v.map fun n => n == 0 || decide (99999999 < n)).getD false

/-- An allowance lies above its range. -/
def badAllowance (v : Option Nat) : Bool := (v.map fun n => decide (max32 < n)).getD false

/-! ## Sent codes: the position in the list where the manual first gives the values, from 0, unless a table of
chapter 13 gives codes (R204; log entry 13) -/

def boolCode (b : Bool) : Nat := if b then 1 else 0

def hoseCode : Hose → Nat
  | .h1 => 0
  | .h2 => 1

def compCode : Comp → Nat
  | .c1 => 0
  | .c2 => 1

def meterCode : MeterId → Nat
  | .m1 => 0
  | .m2 => 1
  | .mi => 2

def portCode : Port → Nat
  | .console => 0
  | .uplink => 1
  | .service => 2

/-- A set of compartments as a bit field. -/
def compSetCode (x : PerComp Bool) : Nat := boolCode x.c1 + 2 * boolCode x.c2

/-- A set of hoses as a bit field. -/
def hoseSetCode (x : PerHose Bool) : Nat := boolCode x.h1 + 2 * boolCode x.h2

/-- The pause cause set as a bit field, in the order TAG, PUMP, OPERATOR (Table 6-2). -/
def causesCode (c : Causes) : Nat := boolCode c.tag + 2 * boolCode c.pump + 4 * boolCode c.operator

/-- The flags of a DISPENSE record as a bit field (Table 9-5). -/
def flagsCode (f : DispenseFlags) : Nat :=
  boolCode f.manual + 2 * boolCode f.hoursBackward + 4 * boolCode f.tempFallback + 8 * boolCode f.channelLow
    + 16 * boolCode f.tailUncertain + 32 * boolCode f.remoteStop + 64 * boolCode f.priceZero

/-- A set of signature offsets as a bit field. -/
def offsetsCode (offsets : List Nat) : Nat := (offsets.map (2 ^ ·)).sum

/-- NONE, HALTED or LOCKED. -/
def FaultLevel.code : FaultLevel → Nat
  | .clear => 0
  | .halted _ => 1
  | .locked _ => 2

/-- The kind of a fault level, while it is not NONE. -/
def FaultLevel.kind : FaultLevel → Option FaultKind
  | .clear => none
  | .halted k => some k
  | .locked k => some k

def Reason.code (r : Reason) : Nat := r.ctorIdx + 1

def ParamId.code (p : ParamId) : Nat := p.ctorIdx + 1

/-- The owner of a meter: NONE, H1, H2 or the receipt. -/
def ownerCode (m : MeterId) (owned : Bool) : Nat := if owned then meterCode m + 1 else 0

/-- An open marker: none, H1 or H2. -/
def markerCode : Option Hose → Nat
  | none => 0
  | some h => hoseCode h + 1

def Origin.code : Origin → Nat
  | .listed => 0
  | .group _ => 1
  | .opened => 2

def Origin.rule : Origin → Option Nat
  | .group i => some i
  | _ => none

def Watch.code : Watch → Nat
  | .disarmed => 0
  | .armed _ => 1
  | .overdue => 2

def Watch.deadline : Watch → Option Nat
  | .armed d => some d
  | _ => none

def OpState.code : OpState → Nat
  | .free => 0
  | .drawn _ => 1
  | .receiving => 2
  | .reconciling => 3

def OpState.count : OpState → Option Nat
  | .drawn n => some n
  | _ => none

def PumpState.code : PumpState → Nat
  | .stopped => 0
  | .starting _ _ => 1
  | .running => 2
  | .failed => 3

def PumpState.retries : PumpState → Option Nat
  | .starting r _ => some r
  | _ => none

/-- ACTIVE or INACTIVE (R186). -/
def activeCode (active : Bool) : Nat := if active then 0 else 1

/-- VALID or INVALID. -/
def validCode (valid : Bool) : Nat := if valid then 0 else 1

/-- The level in a FAULT record image: HALTED 0, LOCKED 1 (Table 13-7). -/
def lockedCode (locked : Bool) : Nat := boolCode locked

/-- The meter of a hose, and the stowed input of its nozzle (Table 0-3). -/
def hoseMeter : Hose → MeterId
  | .h1 => .m1
  | .h2 => .m2

def stowedInput : Hose → Input
  | .h1 => .stowed1
  | .h2 => .stowed2

/-- The run confirmation input of a pump (R110). -/
def pumpInput : Comp → Input
  | .c1 => .pumpRun1
  | .c2 => .pumpRun2

/-- The fault source of a hose. -/
def hoseSource : Hose → Source
  | .h1 => .h1
  | .h2 => .h2

end Sys2Proof.Machine
end

