-- ==== Sys2Proof/Machine/Ops.lean ====
section
/-! DEFINITION. The operations several blocks share: reading and changing one item of the state, time, the idle
timer and the wake from standby (R192, R194), and the journal's records (R158 to R168). -/

namespace Sys2Proof.Machine

/-! ## One item of the state -/

def modMtr (f : Mtr → Mtr) (s : State) : State := { s with mtr := f s.mtr }
def modTpi (f : Tpi → Tpi) (s : State) : State := { s with tpi := f s.tpi }
def modIdu (f : Idu → Idu) (s : State) : State := { s with idu := f s.idu }
def modMtb (f : Mtb → Mtb) (s : State) : State := { s with mtb := f s.mtb }
def modBil (f : Bil → Bil) (s : State) : State := { s with bil := f s.bil }
def modHsc (f : Hsc → Hsc) (s : State) : State := { s with hsc := f s.hsc }
def modStk (f : Stk → Stk) (s : State) : State := { s with stk := f s.stk }
def modRcp (f : Rcp → Rcp) (s : State) : State := { s with rcp := f s.rcp }
def modJnl (f : Jnl → Jnl) (s : State) : State := { s with jnl := f s.jnl }
def modCal (f : Cal → Cal) (s : State) : State := { s with cal := f s.cal }
def modItu (f : Itu → Itu) (s : State) : State := { s with itu := f s.itu }

def hoseCtx (s : State) (h : Hose) : HoseCtx := s.hsc.hoses.get h
def modHose (h : Hose) (f : HoseCtx → HoseCtx) (s : State) : State :=
  modHsc (fun x => { x with hoses := x.hoses.set h (f (x.hoses.get h)) }) s
/-- Changes the dispense in a hose context, when there is one. -/
def modDispense (h : Hose) (f : Dispense → Dispense) (s : State) : State :=
  modHose h (fun c => { c with dispense := c.dispense.map f }) s
def setFault (h : Hose) (l : FaultLevel) (s : State) : State :=
  modHsc (fun x => { x with faults := x.faults.set h l }) s
def setShadow (h : Hose) (w : Shadow) (s : State) : State :=
  modHsc (fun x => { x with shadows := x.shadows.set h w }) s
def modPump (c : Comp) (f : Pump → Pump) (s : State) : State :=
  modHsc (fun x => { x with pumps := x.pumps.set c (f (x.pumps.get c)) }) s
def modReader (h : Hose) (f : Reader → Reader) (s : State) : State :=
  modIdu (fun x => { x with readers := x.readers.set h (f (x.readers.get h)) }) s
def modMeter (m : MeterId) (f : MeterState → MeterState) (s : State) : State :=
  modMtr (fun x => { x with meters := x.meters.set m (f (x.meters.get m)) }) s
def modSensor (m : MeterId) (f : SensorState → SensorState) (s : State) : State :=
  modTpi (fun x => { x with sensors := x.sensors.set m (f (x.sensors.get m)) }) s
def modProbe (c : Comp) (f : ProbeState → ProbeState) (s : State) : State :=
  modTpi (fun x => { x with probes := x.probes.set c (f (x.probes.get c)) }) s
def compartment (s : State) (c : Comp) : Compartment := s.stk.comps.get c
def modComp (c : Comp) (f : Compartment → Compartment) (s : State) : State :=
  modStk (fun x => { x with comps := x.comps.set c (f (x.comps.get c)) }) s
def modReceipt (f : Receipt → Receipt) (s : State) : State :=
  modRcp (fun x => { x with receipt := f x.receipt }) s
def modPort (p : Port) (f : PortState → PortState) (s : State) : State :=
  { s with prt := { s.prt with ports := s.prt.ports.set p (f (s.prt.ports.get p)) } }

/-- The debounced state of an input. -/
def inputActive (s : State) (i : Input) : Bool := (s.itu.inputs.get i).active

/-- Whether the power-fail warning is active (R189). -/
def powerFail (s : State) : Bool := inputActive s .powerfail

/-- The compartment of a hose under the hose map (R121). -/
def hoseComp (s : State) (h : Hose) : Comp := s.hsc.map.get h

/-- Uses up one value of the model's counter (see `State.fresh`). -/
def spend (s : State) : State := { s with fresh := s.fresh + 1 }

/-- Runs a change for both hoses: where it concerns both, in the order of a free value, since the manual gives none
(log entry 8). -/
def forHoses (both : Bool) (f : Hose → State → State) (s : State) : State :=
  if both && Config.secondHoseFirst s.fresh then spend (f .h1 (f .h2 s))
  else if both then spend (f .h2 (f .h1 s))
  else f .h2 (f .h1 s)

/-! ## Time, idle timer, standby -/

/-- The monotonic time base has reached a deadline (log entry 2). -/
def reachTime (deadline : Nat) (s : State) : State :=
  modItu (fun x => { x with mono := max x.mono deadline }) s

/-- The idle timer runs with its full interval from now (R192). -/
def startIdle (s : State) : State :=
  modItu (fun x => { x with idleDeadline := some (x.mono + x.idleInterval * 60000) }) s

/-- The bit of a reload source. -/
def IdleSource.code (i : IdleSource) : Nat := i.ctorIdx

/-- A reload of the idle timer by one of its sources; in standby the timer stays STOPPED (R192). -/
def reloadIdle (src : IdleSource) (s : State) : State :=
  if s.itu.standby then s
  else if s.itu.idleSources.getLsbD src.code then startIdle s
  else s

/-- A wake event: standby ends and the idle timer starts (R194). It changes nothing in a part that is awake. -/
def wake (s : State) : State :=
  if s.itu.standby then startIdle (modItu (fun x => { x with standby := false }) s) else s

/-! ## The journal -/

/-- The free count (R158). -/
def freeSlots (j : Jnl) : Nat := 1024 - j.ring.length

/-- The slot the next record takes (R158). -/
def headSlot (j : Jnl) : Nat := (j.cursor + j.ring.length) % 1024

/-- The record of a slot; none for a FREE slot (R158). -/
def slotRecord (j : Jnl) (slot : Nat) : Option Record :=
  if slot < 1024 then j.ring[(slot + 1024 - j.cursor) % 1024]? else none

/-- The oldest number (R159). -/
def oldestNumber (j : Jnl) : Nat :=
  match j.ring with
  | [] => j.nextSeq
  | r :: _ => r.seq

/-- Whether a record is OPEN. -/
def Record.isOpen (r : Record) : Bool := r.closeTime.isNone

/-- Where a number stands against the ring (R159). -/
inductive Position where
  | inRing (index : Nat) | ahead | behind
deriving DecidableEq, Repr

def positionOf (j : Jnl) (n : Nat) : Position :=
  let d := forwardDistance (oldestNumber j) n
  if d < j.ring.length then .inRing d else if d ≤ 2147483647 then .ahead else .behind

/-- A new record takes the head slot and the next sequence number, and JOURNAL_LOW is raised when it leaves 64 or
fewer free slots (R158, R159, R161). -/
def takeSlot (body : Body) (openTime : Nat) (closeTime : Option Nat) (s : State) : State :=
  let s := modJnl (fun j => { j with
    ring := j.ring ++ [{ seq := j.nextSeq, openTime := openTime, closeTime := closeTime, body := body }]
    nextSeq := nextNumber j.nextSeq }) s
  raiseIf (freeSlots s.jnl ≤ 64) .journalLow s

/-- A reservation: an OPEN record with the part time as its open time (R166). -/
def reserve (body : Body) (s : State) : State := takeSlot body s.itu.clock none s

/-- A record closed at once (R162). -/
def writeClosed (body : Body) (s : State) : State := takeSlot body s.itu.clock (some s.itu.clock) s

/-- The OPEN record of a number. -/
def findOpen (j : Jnl) (seq : Nat) : Option Record := j.ring.find? fun r => r.seq == seq && r.isOpen

/-- Adds fields to an OPEN record (R162). -/
def amendRecord (seq : Nat) (f : Body → Body) (s : State) : State :=
  modJnl (fun j => { j with
    ring := j.ring.map fun r => if r.seq == seq && r.isOpen then { r with body := f r.body } else r }) s

/-- Closes an OPEN record: its closing fields, and the part time as its close time (R162, R166). -/
def closeRecord (seq : Nat) (f : Body → Body) (s : State) : State :=
  modJnl (fun j => { j with
    ring := j.ring.map fun r =>
      if r.seq == seq && r.isOpen then { r with closeTime := some s.itu.clock, body := f r.body } else r }) s

/-- A fault is held in its source's deferred entry (R167). -/
def holdFault (time : Nat) (kind : FaultKind) (locked : Bool) (volume : Option Nat) : Option Deferred → Deferred
  | none => { kind := kind, locked := locked, volume := volume, repeats := 0, firstTime := time }
  | some e =>
    { e with
      kind := kind
      locked := locked
      volume := match e.volume, volume with
        | some a, some b => some (satAdd max32 a b)
        | none, v => v
        | v, none => v
      repeats := satAdd 65535 e.repeats 1 }

/-- The FAULT record of a fault, or its deferral when no slot is free (R113, R148, R167), and the raising of FAULT. -/
def recordFault (src : Source) (kind : FaultKind) (locked : Bool) (volume : Option Nat) (s : State) : State :=
  let s :=
    if 0 < freeSlots s.jnl then
      writeClosed (.fault { source := src, kind := kind, locked := locked, volume := volume, repeats := none }) s
    else
      modJnl (fun j => { j with
        deferred := j.deferred.set src (some (holdFault s.itu.clock kind locked volume (j.deferred.get src))) }) s
  raise .fault s

/-- Whether any deferred entry is HELD: JOURNAL_SATURATED (R167). -/
def saturated (j : Jnl) : Bool :=
  j.deferred.h1.isSome || j.deferred.h2.isSome || j.deferred.inlet.isSome || j.deferred.part.isSome

/-- Writes the HELD entry of a source into a free slot, and empties it (R168). -/
def writeDeferred (src : Source) (s : State) : State :=
  match s.jnl.deferred.get src with
  | none => s
  | some e =>
    if freeSlots s.jnl = 0 then s
    else
      takeSlot (.fault { source := src, kind := e.kind, locked := e.locked, volume := e.volume,
                         repeats := if e.repeats = 0 then none else some e.repeats })
        e.firstTime (some s.itu.clock)
        (modJnl (fun j => { j with deferred := j.deferred.set src none }) s)

/-- Writes the HELD entries in source order while slots are free (R168). -/
def writeAllDeferred (s : State) : State :=
  writeDeferred .part (writeDeferred .inlet (writeDeferred .h2 (writeDeferred .h1 s)))

/-- An ADJUST record, closed at once (R165). -/
def recordAdjust (param : ParamId) (subject : Subject) (old : Option Int) (new : Int) (origin : Port) (s : State) : State :=
  writeClosed (.adjust { param := param, subject := subject, old := old, new := new, origin := origin }) s

end Sys2Proof.Machine
end

