-- ==== Sys2Proof/Machine/Billing.lean ====
section
/-! DEFINITION. BIL's operations: a contractor's commitment and accrual (R58, R71, R72), remaining credit (R85), and
the activation of pending prices (R67). -/

namespace Sys2Proof.Machine

/-- The contractor of an index; every index a table holds lies in 0..31. -/
def contractorOf (s : State) (index : Nat) : Contractor := (s.bil.contractors[index]?).getD {}

def modContractor (index : Nat) (f : Contractor → Contractor) (s : State) : State :=
  modBil (fun b => { b with contractors := b.contractors.modify index f }) s

/-- The commitment of a grant (R71). -/
def commitAmount (index amount : Nat) (s : State) : State :=
  modContractor index (fun k => { k with committed := k.committed + amount }) s

/-- The close of a billed dispense: the commitment is released and the amount accrued (R72). -/
def billingClose (index amount committed : Nat) (s : State) : State :=
  modContractor index (fun k => { k with
    committed := k.committed - committed, accrued := satAdd max32 k.accrued amount }) s

/-- The remaining credit, when the contractor has a limit (R85). -/
def remainingCredit (k : Contractor) : Option Int :=
  k.limit.map fun l => (l : Int) - k.accrued - k.committed

def priceRecord (s : State) (c : Comp) : PriceRecord := s.bil.prices.get c

def modPrice (c : Comp) (f : PriceRecord → PriceRecord) (s : State) : State :=
  modBil (fun b => { b with prices := b.prices.set c (f (b.prices.get c)) }) s

/-- The due pending price of a compartment (R67): its effective time is reached under a valid clock. -/
def dueFor (s : State) (c : Comp) : Option PendingPrice :=
  if s.itu.clockValid then
    (priceRecord s c).pending.filter fun p => p.effective ≤ s.itu.clock
  else none

/-- Whether a pending price is due and waits for its conditions (R67, R74). -/
def priceWaiting (s : State) (c : Comp) : Bool := (dueFor s c).isSome

/-- The conditions of an activation beside the clock's (R67). -/
def activationAllowed (s : State) : Bool :=
  !powerFail s && 0 < freeSlots s.jnl && !saturated s.jnl

/-- The activation of a compartment's pending price, when it is due and the conditions hold (R67). -/
def activatePrice (c : Comp) (s : State) : State :=
  match dueFor s c with
  | none => s
  | some p =>
    if activationAllowed s then
      let old := (priceRecord s c).current
      let s := recordAdjust .price (Subject.ofComp c) (old.map Int.ofNat) p.price p.origin s
      raise .priceChanged (modPrice c (fun r => { r with current := some p.price, pending := none }) s)
    else s

/-- The activation of both, C1 first (R67). -/
def activatePrices (s : State) : State := activatePrice .c2 (activatePrice .c1 s)

end Sys2Proof.Machine
end

