-- ==== Sys2Proof/Machine/Metering.lean ====
section
/-! DEFINITION. MTR's and TPI's operations: classification and counts (R4, R5, R18), ownership (R3), close figures and
totalisers (R8 to R10), current temperature and sampling (R13 to R16). -/

namespace Sys2Proof.Machine

/-- Counts one pulse arrival under Table 1-2; a count stays at its greatest value (R4, R5, R18). -/
def countPulse (ch : Channel) (otherActive : Bool) (c : Counts) : Counts :=
  match ch, otherActive with
  | .a, false => { c with aFwd := satAdd max32 c.aFwd 1 }
  | .a, true => { c with aRev := satAdd max32 c.aRev 1 }
  | .b, true => { c with bFwd := satAdd max32 c.bFwd 1 }
  | .b, false => { c with bRev := satAdd max32 c.bRev 1 }

/-- The net count of channel A; 0 when the reverse count is the greater (R5). -/
def netA (c : Counts) : Nat := c.aFwd - c.aRev

/-- The net count of channel B (R5). -/
def netB (c : Counts) : Nat := c.bFwd - c.bRev

/-- The counted pulses: the lower net count (R5). -/
def countedPulses (c : Counts) : Nat := min (netA c) (netB c)

/-- The leak counter: the higher net leak count (R18). -/
def leakCounter (c : Counts) : Nat := max (netA c) (netB c)

/-- The difference of the two net counts (R6). -/
def netDifference (c : Counts) : Nat := max (netA c) (netB c) - min (netA c) (netB c)

/-- The gross of a count under a meter's captured parameters; 0 while none are captured (R7, R21). -/
def runningGross (m : MeterState) : Nat :=
  match m.captured with
  | some k => grossOf k.kFactor k.meterFactor (countedPulses m.counts)
  | none => 0

/-- The preparation of a meter taken into ownership (R3). -/
def takeOwnership (m : MeterState) : MeterState :=
  { m with
    owned := true
    counts := {}
    disagreed := false
    captured := some { kFactor := m.params.kFactor, meterFactor := m.params.meterFactor, window := m.params.window }
    leaks := {} }

/-- An advance of the totaliser; a total stays at its greatest value (R10). -/
def totalise (pulses gross : Nat) (m : MeterState) : MeterState :=
  { m with totalPulses := satAdd max64 m.totalPulses pulses, totalGross := satAdd max64 m.totalGross gross }

/-- The close figures (Table 1-3). -/
structure CloseFigures where
  pulses : Nat
  pulsesA : Nat
  pulsesB : Nat
  reverse : Nat
  gross : Nat
  channelLow : Bool
deriving DecidableEq, Repr

/-- The close figures of a meter's transaction (R8, step 1). -/
def closeFigures (m : MeterState) : CloseFigures :=
  { pulses := countedPulses m.counts, pulsesA := netA m.counts, pulsesB := netB m.counts
    reverse := max m.counts.aRev m.counts.bRev, gross := runningGross m
    channelLow := netA m.counts != netB m.counts }

/-- The close request: the figures are totalised and the meter becomes unowned, its leak counts from 0 (R8). -/
def closeMeter (m : MeterState) : MeterState :=
  { totalise (countedPulses m.counts) (runningGross m) m with owned := false, leaks := {} }

/-- The close figures made at start-up from persisted counted pulses (R9). -/
def startupFigures (m : MeterState) (pulses : Nat) : CloseFigures :=
  { pulses := pulses, pulsesA := pulses, pulsesB := pulses, reverse := 0
    gross := grossOf m.params.kFactor m.params.meterFactor pulses, channelLow := false }

/-- The compartment of a meter (R13). -/
def meterComp (s : State) : MeterId → Comp
  | .m1 => hoseComp s .h1
  | .m2 => hoseComp s .h2
  | .mi =>
    if (s.mtr.meters.get .mi).owned then
      match s.rcp.receipt.docket with
      | some d => d.comp
      | none => s.mtr.inletComp
    else s.mtr.inletComp

/-- The current temperature of a meter, and whether it is a fallback (R13). -/
def currentTemp (s : State) (m : MeterId) : Int × Bool :=
  let sensor := s.tpi.sensors.get m
  let fallback := (compartment s (meterComp s m)).params.fallback
  match sensor.valid, sensor.latest with
  | true, some r => (clampTemp r.value, false)
  | _, _ => (fallback, true)

/-- Whether a count report takes a sample (R14). -/
def takesSample (x : Sampling) (pulses gross : Nat) : Bool :=
  if x.n = 0 then 1 ≤ pulses else 5000 * x.n ≤ gross

/-- One sample (R14). -/
def addSample (temp : Int) (x : Sampling) : Sampling :=
  { sum := x.sum + temp, n := x.n + 1, threshold := 5000 * (x.n + 1) }

/-- The mean temperature of a transaction, and whether it is a fallback (R15). -/
def meanTemp (s : State) (m : MeterId) (sum : Int) (n : Nat) : Int × Bool :=
  if n = 0 then currentTemp s m else (roundInt sum n, false)

/-- The correction factor of a compartment's product at a temperature (R16). -/
def ctlAt (s : State) (c : Comp) (t : Int) : Nat := ctlOf (compartment s c).params.alpha t

end Sys2Proof.Machine
end

