-- ==== Sys2Proof/Machine/Stock.lean ====
section
/-! DEFINITION. STK's operations: the book (R125), claims and releases (R128, R129), commitments (R130), the book
updates (R131 to R134) and the notices (R135, R136). -/

namespace Sys2Proof.Machine

/-- The book standard stock (R125). -/
def bookOf (b : Book) : Int := (b.base : Int) + b.receipts - b.dispensed - b.losses

/-- The stock available (R130, R84). -/
def availableOf (c : Compartment) : Nat := (bookOf c.book - c.params.heel - c.committed).toNat

/-- Whether the Draw claim is refused (R128). -/
def drawRefused : OpState → Bool
  | .free => false
  | .drawn n => 2 ≤ n
  | .receiving => true
  | .reconciling => true

/-- The Draw claim (R128). -/
def draw : OpState → OpState
  | .drawn n => .drawn (n + 1)
  | _ => .drawn 1

/-- The end of draw; a FREE compartment stays FREE (R129). -/
def endDraw : OpState → OpState
  | .drawn n => if n ≤ 1 then .free else .drawn (n - 1)
  | o => o

/-- The end of a receipt or of a reconcile; a FREE compartment stays FREE (R129). -/
def endUse (_ : OpState) : OpState := .free

/-- The return to ARMED (R136). -/
def evalReturn (c : Compartment) : Compartment :=
  if c.notified ∧ (c.settings.level + c.settings.hysteresis : Nat) ≤ bookOf c.book then { c with notified := false } else c

/-- Whether the reorder notice is due after a close of a standard volume (R136). A close of zero volume raises nothing
(R131), below a level raised since the last notice too (log entry 9). -/
def noticeDue (standard : Nat) (c : Compartment) : Bool :=
  standard != 0 && !c.notified && bookOf c.book < c.settings.level

/-- The compartment after a close's draw has ended and its volume is booked (R131, steps 1 to 3). -/
def bookClose (standard committed : Nat) (proving : Bool) (c : Compartment) : Compartment :=
  { c with
    committed := c.committed - committed
    op := endDraw c.op
    book := if proving then c.book else { c.book with dispensed := satAdd maxBook c.book.dispensed standard } }

/-- The close of a dispense or proving run (R131), with the notices of R135 and R136. -/
def stockClose (c : Comp) (standard committed : Nat) (proving : Bool) (s : State) : State :=
  let before := bookOf (compartment s c).book
  let s := modComp c (bookClose standard committed proving) s
  let k := compartment s c
  if proving then s
  else
    let s := raiseIf (decide (0 ≤ before) && decide (bookOf k.book < 0)) .stockNegative s
    if noticeDue standard k then raise .restockDue (modComp c (fun x => { x with notified := true }) s) else s

/-- The close of a receipt (R132). -/
def stockReceipt (c : Comp) (standard : Nat) (s : State) : State :=
  modComp c (fun x =>
    evalReturn { x with
      book := { x.book with receipts := satAdd maxBook x.book.receipts standard }
      op := endUse x.op }) s

/-- The change of losses_since by a leak: added for a hose leak, subtracted for an inlet leak (R133). -/
def stockLeak (c : Comp) (delta : Int) (s : State) : State :=
  let before := bookOf (compartment s c).book
  let s := modComp c (fun x => { x with book := { x.book with losses := clampBook (x.book.losses + delta) } }) s
  raiseIf (decide (0 ≤ before) && decide (bookOf (compartment s c).book < 0)) .stockNegative s

/-- A rebase (R134). -/
def rebase (c : Comp) (base : Nat) (s : State) : State :=
  modComp c (fun x =>
    evalReturn { x with
      book := { base := base, receipts := 0, dispensed := 0, losses := 0
                baseTime := if s.itu.clockValid then some s.itu.clock else none } }) s

end Sys2Proof.Machine
end

