-- ==== Sys2Proof/Machine/Tables.lean ====
section
/-! DEFINITION. MTB's operations: the ordered machine table (R43), admission (R38, R50, R51), open markers (R48), the
update at a dispense close (R49), the group watches (R56, R57) and rollover (R54). -/

namespace Sys2Proof.Machine

/-! ## The machine table -/

def lookup (table : List MachineEntry) (number : Nat) : Option MachineEntry :=
  table.find? fun e => e.number == number

/-- Places an entry at its ordered position, replacing one of the same number (R43). -/
def insertEntry (e : MachineEntry) : List MachineEntry → List MachineEntry
  | [] => [e]
  | x :: rest =>
    if e.number < x.number then e :: x :: rest
    else if e.number = x.number then e :: rest
    else x :: insertEntry e rest

/-- Takes a number out; the gap closes (R43). -/
def removeEntry (number : Nat) (table : List MachineEntry) : List MachineEntry :=
  table.filter fun e => e.number != number

def modEntry (number : Nat) (f : MachineEntry → MachineEntry) (s : State) : State :=
  modMtb (fun m => { m with machines := m.machines.map fun e => if e.number == number then f e else e }) s

/-- Whether an entry holds an open marker. -/
def hasMarker (e : MachineEntry) : Bool := e.marker.c1.isSome || e.marker.c2.isSome

/-! ## Classification and admission -/

/-- Whether a number lies in a rule's range (R50). -/
def inRange (r : GroupRule) (number : Nat) : Bool := r.low ≤ number && number ≤ r.high

/-- The lowest index of an ACTIVE rule whose range holds the number, with the rule (R38). -/
def ruleFor (number : Nat) : Nat → List GroupRule → Option (Nat × GroupRule)
  | _, [] => none
  | i, r :: rest => if r.active && inRange r number then some (i, r) else ruleFor number (i + 1) rest

/-- The entry a group rule admits (Table 3-2). -/
def groupEntry (number index : Nat) (r : GroupRule) : MachineEntry :=
  { number := number, status := .active, origin := .group index, contractor := r.contractor, comps := r.comps
    capacity := ⟨none, none⟩, allowance := r.allowance, manual := false, tagRequired := true }

/-- The entry open-site mode admits (Table 3-2). -/
def openEntry (number : Nat) (o : OpenSite) : MachineEntry :=
  { number := number, status := .active, origin := .opened, contractor := o.contractor, comps := ⟨true, true⟩
    capacity := ⟨none, none⟩, allowance := o.allowance, manual := false, tagRequired := true }

/-- Admits an entry when the table has room (R50). -/
def admitEntry (e : MachineEntry) (cls : IdClass) (s : State) : State × Except Reason (MachineEntry × IdClass) :=
  if 512 ≤ s.mtb.machines.length then (s, .error .tableFull)
  else (modMtb (fun m => { m with machines := insertEntry e m.machines }) s, .ok (e, cls))

/-- Check 7: the entry of a number and its class, admitting it in mode TAG (R38, R78). -/
def classify (number : Nat) (mode : IdMode) (s : State) : State × Except Reason (MachineEntry × IdClass) :=
  match lookup s.mtb.machines number with
  | some e => (s, .ok (e, .listed))
  | none =>
    match mode with
    | .manual => (s, .error .unknownMachine)
    | .tag =>
      match ruleFor number 0 s.mtb.rules with
      | some (i, r) => admitEntry (groupEntry number i r) .group s
      | none =>
        if s.mtb.openSite.on then admitEntry (openEntry number s.mtb.openSite) .opened s
        else (s, .error .unknownMachine)

/-- The grant's open marker (R48, R88 step 1). -/
def setMarker (number : Nat) (c : Comp) (h : Hose) (s : State) : State :=
  modEntry number (fun e => { e with marker := e.marker.set c (some h) }) s

/-! ## Watches -/

/-- Whether a close of this machine qualifies for a rule (R56). -/
def qualifies (r : GroupRule) (number : Nat) : Bool := r.active && 0 < r.interval && inRange r number

/-- The watch of a rule after a qualifying close (R56). -/
def reloadWatch (number time : Nat) (r : GroupRule) : GroupRule :=
  if qualifies r number then { r with watch := .armed (time + r.interval * 60) } else r

/-- Hands a close of gross above 0 to every rule, raising GROUP_RESUMED where one was OVERDUE (R56). -/
def watchClose (number time : Nat) (s : State) : State :=
  let resumed := s.mtb.rules.any fun r => qualifies r number && r.watch == .overdue
  raiseIf resumed .groupResumed (modMtb (fun m => { m with rules := m.rules.map (reloadWatch number time) }) s)

/-- Whether a watch has reached its deadline (R57). -/
def watchDue (s : State) (r : GroupRule) : Bool :=
  match r.watch with
  | .armed d => s.itu.clockValid && d ≤ s.itu.clock
  | _ => false

/-- The expiry of one rule's watch (R57); nothing when it is not due. -/
def expireWatch (index : Nat) (s : State) : State :=
  match s.mtb.rules[index]? with
  | some r =>
    if watchDue s r then
      raise .groupOverdue (modMtb (fun m => { m with rules := m.rules.set index { r with watch := .overdue } }) s)
    else s
  | none => s

/-- The expiry of every watch that is due. -/
def expireWatches (s : State) : State := (List.range 8).foldl (fun s i => expireWatch i s) s

/-! ## The close of a dispense -/

/-- The entry after a close, and whether the hours went backward (R49, steps 1 to 4). -/
def closeEntry (c : Comp) (standard gross time : Nat) (hours : Option Nat) (e : MachineEntry) : MachineEntry :=
  { e with
    consumed := e.consumed.set c (satAdd max32 (e.consumed.get c) standard)
    marker := e.marker.set c none
    lastFill := if 0 < gross then some time else e.lastFill
    hours := match hours, e.hours with
      | some n, some old => if old ≤ n then some n else some old
      | some n, none => some n
      | none, old => old }

/-- Whether handed-over hours are lower than an entry's last engine hours (R49, step 4). -/
def hoursBackward (hours : Option Nat) (e : MachineEntry) : Bool :=
  match hours, e.hours with
  | some n, some old => n < old
  | _, _ => false

/-- Removes a REMOVING entry that holds no marker (R49, step 6). -/
def dropRemoved (number : Nat) (s : State) : State :=
  match lookup s.mtb.machines number with
  | some e =>
    if e.status == .removing && !hasMarker e then
      modMtb (fun m => { m with machines := removeEntry number m.machines }) s
    else s
  | none => s

/-- MTB's update at a dispense close (R49), and its answer whether the hours went backward. -/
def machineClose (number : Nat) (c : Comp) (standard gross : Nat) (hours : Option Nat) (s : State) : State × Bool :=
  let backward := ((lookup s.mtb.machines number).map (hoursBackward hours)).getD false
  let s := modEntry number (closeEntry c standard gross s.itu.clock hours) s
  let s := if 0 < gross then watchClose number s.itu.clock s else s
  (dropRemoved number s, backward)

/-! ## Rollover -/

/-- The current site day number (R53). -/
def currentDay (s : State) : Nat := siteDay s.itu.clock s.mtb.dayStart

/-- Whether an evaluation now rolls over (R54). -/
def rolloverDue (s : State) : Bool := s.itu.clockValid && s.mtb.periodDay < currentDay s

/-- The evaluation of rollover (R54). -/
def evalRollover (s : State) : State :=
  if rolloverDue s then
    raise .periodRollover (modMtb (fun m => { m with
      machines := m.machines.map fun e => { e with consumed := ⟨0, 0⟩ }
      periodDay := siteDay s.itu.clock m.dayStart }) s)
  else s

end Sys2Proof.Machine
end

