-- ==== Sys2Proof/Machine/Hoses.lean ====
section
/-! DEFINITION. HSC: the hose state machine and its shadow (R94 to R108), the close (R109, R123), the pump manager
(R110 to R112), faults (R113 to R117), and the parts of emergency stop and power-fail that act on hoses (R119, R120). -/

namespace Sys2Proof.Machine

/-! ## States, reader, shadow, timer -/

/-- The states PRIMING to PAUSED, in which a hose is in its pump's demand set (Table 6-1). -/
def inDemand : HoseState → Bool
  | .priming | .ready | .flowing | .slowing | .paused => true
  | _ => false

/-- The states PRIMING to ENDING, in which a hose holds a dispense. -/
def hasDispense (st : HoseState) : Bool := inDemand st || st == .ending

/-- The states ARMED to ENDING. -/
def inUse (st : HoseState) : Bool := hasDispense st || st == .armed

/-- The state that a fault level gives a hose that is not in use (R109, R124). -/
def restState : FaultLevel → HoseState
  | .clear => .idle
  | .halted _ => .halted
  | .locked _ => .locked

/-- Whether a hose is in a proving run. -/
def inProving (c : HoseCtx) : Bool := (c.dispense.map (·.proving)).getD false

/-- Whether a reader should be enabled (R24, R42). -/
def readerWanted (s : State) (h : Hose) : Bool :=
  !inputActive s (stowedInput h) && inUse (hoseCtx s h).state && !inProving (hoseCtx s h) && !s.itu.standby

/-- A reader becoming enabled or disabled: its reception starts afresh (R24). -/
def resetReception (enabled : Bool) (r : Reader) : Reader :=
  { r with
    enabled := enabled, phase := .hunt, rxLength := 0, rxBytes := [], reception := .absent, present := none
    candidate := none, lost := false, graceDeadline := none }

/-- Brings a reader to the state R24 gives it now. -/
def refreshReader (h : Hose) (s : State) : State :=
  if (s.idu.readers.get h).enabled == readerWanted s h then s
  else modReader h (resetReception (readerWanted s h)) s

/-- The content of a shadow write (R96). -/
def shadowOf (d : Dispense) (powerFail : Bool) : Shadow :=
  { opened := true, seq := d.seq, counted := d.counted, tempSum := d.sampling.sum, samples := d.sampling.n
    ident := d.granted.map fun g =>
      { machine := g.machine, mode := g.mode, cls := g.cls, template := g.template, hours := g.hours }
    pauseCount := d.pauseCount, flags := d.flags, faultKind := d.faultKind, proving := d.proving
    powerFail := powerFail }

/-- Writes the shadow of a hose that holds a dispense, with or without the power-fail mark. -/
def saveShadow (powerFail : Bool) (h : Hose) (s : State) : State :=
  match (hoseCtx s h).dispense with
  | some d => setShadow h (shadowOf d powerFail) s
  | none => s

/-- The shadow write at a change of hose state, while the shadow is open (R96). -/
def touchShadow (h : Hose) (s : State) : State :=
  if (s.hsc.shadows.get h).opened then saveShadow (s.hsc.shadows.get h).powerFail h s else s

/-- A change of hose state, with its reader, its shadow write and its change event (R24, R96). -/
def enterState (h : Hose) (st : HoseState) (s : State) : State :=
  raise (Event.ofHose h) (touchShadow h (refreshReader h (modHose h (fun c => { c with state := st }) s)))

/-- Starts the hose timer for a duration in ms. -/
def startTimer (h : Hose) (ms : Nat) (s : State) : State :=
  modHose h (fun c => { c with timer := some (s.itu.mono + ms) }) s

def stopTimer (h : Hose) (s : State) : State := modHose h (fun c => { c with timer := none }) s

/-- The return from ARMED to IDLE (R98). -/
def returnIdle (h : Hose) (s : State) : State :=
  enterState h .idle (modHose h (fun c => { c with timer := none, operator := none, requested := none }) s)

/-! ## Pumps -/

/-- A hose in PRIMING whose pump runs enters READY (R99). -/
def enterReady (h : Hose) (s : State) : State :=
  enterState h .ready (startTimer h ((s.hsc.params.get h).firstFlow * 1000) s)

/-- Whether preset gross − running gross is within the slow-down volume (R101, R104). -/
def nearPreset (s : State) (h : Hose) (d : Dispense) : Bool := d.preset - d.gross ≤ (s.hsc.params.get h).slowDown

/-- Removes a pause cause; a hose whose set becomes empty leaves PAUSED (R104). -/
def removeCause (f : Causes → Causes) (h : Hose) (s : State) : State :=
  if (hoseCtx s h).state = .paused then
    let s := modDispense h (fun d => { d with causes := f d.causes }) s
    match (hoseCtx s h).dispense with
    | some d =>
      if d.causes = {} then
        enterState h (if nearPreset s h d then .slowing else .flowing)
          (startTimer h ((s.hsc.params.get h).noFlow * 1000) s)
      else s
    | none => s
  else s

/-- Adds a pause cause (R103). -/
def addCause (f : Causes → Causes) (h : Hose) (s : State) : State :=
  match (hoseCtx s h).state with
  | .flowing | .slowing =>
    let s := modDispense h (fun d => { d with causes := f d.causes, pauseCount := satAdd 255 d.pauseCount 1 }) s
    enterState h .paused (startTimer h ((s.hsc.params.get h).pauseLimit * 1000) s)
  | .paused => modDispense h (fun d => { d with causes := f d.causes }) s
  | _ => s

/-- What the run confirmation does to one hose of the pump (R110). -/
def confirmHose (c : Comp) (h : Hose) (s : State) : State :=
  if (s.hsc.pumps.get c).demand.get h then
    match (hoseCtx s h).state with
    | .priming => enterReady h s
    | .paused => removeCause (fun x => { x with pump := false }) h s
    | _ => s
  else s

/-- A STARTING pump whose run confirmation is active becomes RUNNING (R110). -/
def pumpRuns (c : Comp) (s : State) : State :=
  let s := modPump c (fun p => { p with state := .running, lastStartFailed := false }) s
  confirmHose c .h2 (confirmHose c .h1 s)

/-- The entry to STARTING; a run confirmation already active is taken at once (R110). -/
def startPump (c : Comp) (s : State) : State :=
  let s := modPump c (fun p => { p with state := .starting s.hsc.retries (s.itu.mono + 5000) }) s
  if inputActive s (pumpInput c) then pumpRuns c s else s

/-- A hose in PRIMING joins its pump's demand set (R110). -/
def joinDemand (c : Comp) (h : Hose) (s : State) : State :=
  let s := modPump c (fun p => { p with demand := p.demand.set h true }) s
  match (s.hsc.pumps.get c).state with
  | .stopped | .failed => startPump c s
  | .running => enterReady h s
  | .starting _ _ => s

/-- A hose leaves its pump's demand set; an empty set stops a STARTING or RUNNING pump (R110). -/
def leaveDemand (c : Comp) (h : Hose) (s : State) : State :=
  modPump c (fun p =>
    let demand := p.demand.set h false
    { p with
      demand := demand
      state := if demand.h1 || demand.h2 || p.state == .failed then p.state else .stopped }) s

/-- The requests on the pump outputs: asserted in STARTING and RUNNING (R110, R111). -/
def pumpAsks : PumpState → Bool
  | .starting _ _ | .running => true
  | _ => false

/-! ## Ending -/

/-- The outcome and end cause a proving run records for a cause of entry to ENDING (R181). -/
def provingEnd : DispenseOutcome → DispenseOutcome × Option EndCause
  | .preset => (.proving, some .preset)
  | .complete => (.proving, some .complete)
  | .cancelled => (.proving, some .cancelled)
  | .stopped => (.proving, some .stopped)
  | .tagLost => (.proving, some .stopped)
  | .noFlow => (.proving, some .noFlow)
  | .expired => (.proving, some .expired)
  | o => (o, none)

/-- Records an outcome in a dispense, as R181 maps it for a proving run. -/
def withOutcome (o : DispenseOutcome) (d : Dispense) : Dispense :=
  if d.proving then { d with outcome := some (provingEnd o).1, endCause := (provingEnd o).2 }
  else { d with outcome := some o }

/-- The entry to ENDING (R108). -/
def enterEnding (o : DispenseOutcome) (h : Hose) (s : State) : State :=
  match (hoseCtx s h).dispense with
  | some d =>
    let s := modDispense h (fun d => { withOutcome o d with grossAtEnding := some d.gross }) s
    enterState h .ending (startTimer h 2000 (leaveDemand d.comp h s))
  | none => s

/-- The entry to ENDING of a hose in PRIMING to PAUSED. -/
def endIf (o : DispenseOutcome) (h : Hose) (s : State) : State :=
  if inDemand (hoseCtx s h).state then enterEnding o h s else s

/-! ## Close -/

/-- What the close of a dispense is made from (R109, R123). -/
structure Closing where
  hose : Hose
  seq : Nat
  comp : Comp
  /-- Machine number and engine hours, for MTB. -/
  machine : Option (Nat × Option Nat)
  /-- Contractor, adjusted price and basis, for BIL. -/
  bill : Option (Nat × Nat × Basis)
  figures : CloseFigures
  mean : Int × Bool
  committedVolume : Nat
  committedAmount : Nat
  residual : Nat
  pauseCount : Nat
  outcome : DispenseOutcome
  faultKind : Option FaultKind
  flags : DispenseFlags
  proving : Bool
deriving DecidableEq, Repr

/-- The amount of a close (R70, R73). -/
def closeAmount (k : Closing) (standard : Nat) : Nat :=
  match k.bill with
  | some (_, price, .standard) => amountOf standard price
  | some (_, price, .gross) => amountOf k.figures.gross price
  | none => 0

/-- Steps 2 to 7 of the close: volumes and amount, MTB, BIL, STK and JNL (R109). -/
def bookDispense (k : Closing) (s : State) : State :=
  let ctl := ctlAt s k.comp k.mean.1
  let standard := standardOf k.figures.gross ctl
  let amount := closeAmount k standard
  let (s, backward) :=
    match k.machine with
    | some (number, hours) => machineClose number k.comp standard k.figures.gross hours s
    | none => (s, false)
  let s :=
    match k.bill with
    | some (index, _, _) => billingClose index amount k.committedAmount s
    | none => s
  let s := stockClose k.comp standard k.committedVolume k.proving s
  let flags := { k.flags with
    hoursBackward := backward, channelLow := k.figures.channelLow, tempFallback := k.flags.tempFallback || k.mean.2 }
  let figures : DispenseFigures :=
    { counted := k.figures.pulses, pulsesA := k.figures.pulsesA, pulsesB := k.figures.pulsesB
      reverse := k.figures.reverse, gross := k.figures.gross, standard := standard, meanTemp := k.mean.1, ctl := ctl
      amount := amount, residual := k.residual, pauseCount := k.pauseCount }
  closeRecord k.seq (fun b =>
    match b with
    | .dispense d =>
      .dispense { d with
        flags := flags, outcome := some k.outcome, figures := some figures
        faultKind := if k.outcome = .fault ∨ k.outcome = .interrupted then k.faultKind else none }
    | b => b) s

/-- The proving result of a closed run (R182). -/
def provingResult (d : Dispense) (m : MeterState) (gross : Nat) : Option ProvingResult :=
  match d.proving && d.outcome == some .proving && decide (0 < gross), d.endCause, m.captured with
  | true, some e, some k =>
    some { seq := d.seq, gross := gross, kFactor := k.kFactor, meterFactor := k.meterFactor, endCause := e }
  | _, _, _ => none

/-- The residual volume of a close (R109, step 3). A close that the power-fail warning makes outside ENDING has no gross
at ending to measure it from, and its residual is a free value (log entry 18). -/
def residualOf (d : Dispense) (closeGross fresh : Nat) : Nat :=
  match d.grossAtEnding with
  | some g => closeGross - g
  | none => (Config.openResidual fresh).toNat

/-- The close of a hose's dispense (R109), with the outcome its context holds. -/
def closeDispense (h : Hose) (s : State) : State :=
  match (hoseCtx s h).dispense with
  | none => s
  | some d =>
    let m := s.mtr.meters.get (hoseMeter h)
    let figures := closeFigures m
    let mean := meanTemp s (hoseMeter h) d.sampling.sum d.sampling.n
    let s := modMeter (hoseMeter h) closeMeter (if d.grossAtEnding.isNone then spend s else s)
    let s := bookDispense
      { hose := h, seq := d.seq, comp := d.comp
        machine := d.granted.map fun g => (g.machine, g.hours)
        bill := d.granted.map fun g => (g.contractor, g.price, g.basis)
        figures := figures, mean := mean, committedVolume := d.committedVolume, committedAmount := d.committedAmount
        residual := residualOf d figures.gross s.fresh, pauseCount := d.pauseCount
        outcome := d.outcome.getD .interrupted, faultKind := d.faultKind, flags := d.flags, proving := d.proving } s
    let s := setShadow h { s.hsc.shadows.get h with opened := false } s
    let s :=
      match provingResult d m figures.gross with
      | some r => modCal (fun c => { c with results := c.results.set h (some r) }) s
      | none => s
    let s := modReader h (fun r => { r with bound := none }) s
    let s := modHose h (fun c => { note := c.note, state := c.state }) s
    raise .dispenseClosed (enterState h (restState (s.hsc.faults.get h)) s)

/-! ## Faults -/

/-- Sets a hose's fault level with the FAULT record, and raises LOCKED when the level becomes LOCKED (R113). -/
def setHoseFault (h : Hose) (kind : FaultKind) (locked : Bool) (volume : Option Nat) (s : State) : State :=
  let becomes := locked && (s.hsc.faults.get h).code != 2
  raiseIf becomes .locked
    (recordFault (hoseSource h) kind locked volume (setFault h (if locked then .locked kind else .halted kind) s))

/-- A fault detected on a hose, by its state (R114 to R117). -/
def hoseFault (h : Hose) (kind : FaultKind) (volume : Option Nat) (s : State) : State :=
  match (hoseCtx s h).state with
  | .priming | .ready | .flowing | .slowing | .paused =>
    enterEnding .fault h
      (modDispense h (fun d => { d with faultKind := some kind }) (setHoseFault h kind false volume s))
  | .ending =>
    if (hoseCtx s h).dispense.bind (·.outcome) = some .fault then
      closeDispense h (setHoseFault h kind true volume s)
    else
      modDispense h (fun d => { d with outcome := some .fault, faultKind := some kind, endCause := none })
        (setHoseFault h kind false volume s)
  | .idle | .armed =>
    enterState h .halted
      (modHose h (fun c => { c with timer := none, operator := none, requested := none })
        (setHoseFault h kind false volume s))
  | .halted => enterState h .locked (setHoseFault h kind true volume s)
  | .locked => setHoseFault h kind true volume s

/-- A CHANNEL report reaches a hose in PRIMING to ENDING (Table 6-5). -/
def hoseChannel (h : Hose) (s : State) : State :=
  if hasDispense (hoseCtx s h).state then hoseFault h .channel none s else s

/-- A LEAK report reaches a hose whose meter is unowned (R117). -/
def hoseLeak (h : Hose) (volume : Nat) (s : State) : State :=
  if hasDispense (hoseCtx s h).state then s else hoseFault h .leak (some volume) s

/-- A pump's attempt runs out: a further attempt, or FAILED with its PUMP_START faults (R111). -/
def attemptExpires (c : Comp) (s : State) : State :=
  match (s.hsc.pumps.get c).state with
  | .starting (retries + 1) deadline =>
    let s := reachTime deadline s
    modPump c (fun p => { p with state := .starting retries (s.itu.mono + 5000) }) s
  | .starting 0 deadline =>
    let s := reachTime deadline s
    let hit (h : Hose) : Bool :=
      (s.hsc.pumps.get c).demand.get h &&
        ((hoseCtx s h).state == .priming ||
          ((hoseCtx s h).state == .paused && ((hoseCtx s h).dispense.map (·.causes.pump)).getD false))
    let s := modPump c (fun p => { p with state := .failed, lastStartFailed := true }) s
    forHoses (hit .h1 && hit .h2) (fun h s => if hit h then hoseFault h .pumpStart none s else s) s
  | _ => s

/-- Loss of run confirmation at one hose of the pump (R112). -/
def lostRunHose (c : Comp) (h : Hose) (s : State) : State :=
  if (s.hsc.pumps.get c).demand.get h then
    match (hoseCtx s h).state with
    | .flowing | .slowing | .paused => addCause (fun x => { x with pump := true }) h s
    | .ready => enterState h .priming (stopTimer h s)
    | _ => s
  else s

/-- Run confirmation becoming active (R110). -/
def runConfirmed (c : Comp) (s : State) : State :=
  match (s.hsc.pumps.get c).state with
  | .starting _ _ => pumpRuns c s
  | _ => s

/-- Run confirmation becoming inactive (R112). -/
def runLost (c : Comp) (s : State) : State :=
  match (s.hsc.pumps.get c).state with
  | .running =>
    let s := modPump c (fun p => { p with state := .starting s.hsc.retries (s.itu.mono + 5000) }) s
    lostRunHose c .h2 (lostRunHose c .h1 s)
  | _ => s

/-! ## Count reports -/

/-- Takes a count report into a dispense: counted pulses, running gross and a sample (R5, R14). -/
def takeCount (temp : Int × Bool) (pulses gross : Nat) (d : Dispense) : Dispense :=
  let d := { d with counted := pulses, gross := gross }
  if takesSample d.sampling pulses gross then
    { d with
      sampling := addSample temp.1 d.sampling
      flags := { d.flags with tempFallback := d.flags.tempFallback || temp.2 } }
  else d

/-- The shadow write at a multiple of 100 counted pulses (R96). -/
def shadowHundred (h : Hose) (pulses : Nat) (s : State) : State :=
  if (s.hsc.shadows.get h).opened && (s.hsc.shadows.get h).counted / 100 < pulses / 100 then touchShadow h s else s

/-- The overrun test, until the dispense has met an OVERRUN fault (R101). -/
def overrunTest (h : Hose) (s : State) : State :=
  match (hoseCtx s h).dispense with
  | some d =>
    if hasDispense (hoseCtx s h).state && !d.overrunMet && decide (d.preset + (s.hsc.params.get h).overrun < d.gross) then
      hoseFault h .overrun none (modDispense h (fun d => { d with overrunMet := true }) s)
    else s
  | none => s

/-- The preset test (R101, R104). -/
def presetTest (h : Hose) (s : State) : State :=
  match (hoseCtx s h).dispense with
  | some d => if d.preset ≤ d.gross then endIf .preset h s else s
  | none => s

/-- The slow-down test (R101). -/
def slowTest (h : Hose) (s : State) : State :=
  match (hoseCtx s h).state, (hoseCtx s h).dispense with
  | .flowing, some d => if nearPreset s h d then enterState h .slowing s else s
  | _, _ => s

/-- A count report at the hose that owns the meter (R99 to R104, R108). -/
def hoseCount (h : Hose) (pulses gross : Nat) (s : State) : State :=
  let temp := currentTemp s (hoseMeter h)
  let s := modDispense h (takeCount temp pulses gross) s
  let s := shadowHundred h pulses s
  let noFlow := (s.hsc.params.get h).noFlow * 1000
  match (hoseCtx s h).state with
  | .ready => slowTest h (presetTest h (overrunTest h (enterState h .flowing (startTimer h noFlow s))))
  | .flowing | .slowing => slowTest h (presetTest h (overrunTest h (startTimer h noFlow s)))
  | .paused => presetTest h (overrunTest h s)
  | .ending => overrunTest h s
  | _ => s

/-! ## Tag reports, stow, stops -/

/-- Whether TAG applies to a hose (R101). -/
def tagApplies (s : State) (h : Hose) : Bool :=
  match (hoseCtx s h).dispense.bind (·.granted) with
  | some g => g.mode == .tag && g.tagRequired
  | none => false

/-- LOST at a hose (R102). -/
def hoseLost (h : Hose) (s : State) : State :=
  if tagApplies s h then
    match (hoseCtx s h).state with
    | .priming | .ready => enterEnding .tagLost h s
    | .flowing | .slowing | .paused => addCause (fun x => { x with tag := true }) h s
    | _ => s
  else s

/-- RETURNED at a hose (R102, R104). -/
def hoseReturned (h : Hose) (s : State) : State := removeCause (fun x => { x with tag := false }) h s

/-- REPLACED at a hose (R102). -/
def hoseReplaced (h : Hose) (s : State) : State := endIf .wrongMachine h s

/-- A nozzle being stowed (R107). -/
def stowNozzle (h : Hose) (s : State) : State :=
  let s :=
    match (hoseCtx s h).state with
    | .armed => returnIdle h s
    | .priming | .ready => enterEnding .cancelled h s
    | .flowing | .slowing | .paused => enterEnding .complete h s
    | _ => s
  refreshReader h s

/-- The emergency stop at a hose (R119). -/
def stopHoseNow (h : Hose) (s : State) : State :=
  if (hoseCtx s h).state = .armed then returnIdle h s else endIf .estop h s

/-- The power-fail warning at a hose (R120, steps 1 and 2). -/
def interruptHose (h : Hose) (s : State) : State :=
  if hasDispense (hoseCtx s h).state then
    let s := saveShadow true h (stopTimer h s)
    closeDispense h (modDispense h (fun d => { d with outcome := some .interrupted, endCause := none }) s)
  else if (hoseCtx s h).state = .armed then returnIdle h s
  else s

/-- The power-fail warning at every hose and pump (R120). -/
def interruptHoses (s : State) : State :=
  let both := hasDispense (hoseCtx s .h1).state && hasDispense (hoseCtx s .h2).state
  let s := forHoses both interruptHose s
  modHsc (fun x => { x with
    pumps := ⟨{ x.pumps.c1 with state := .stopped, demand := ⟨false, false⟩ },
              { x.pumps.c2 with state := .stopped, demand := ⟨false, false⟩ }⟩ }) s

/-! ## Start-up -/

/-- The start-up close of a dispense found open in a hose shadow (R123, R9, R75). -/
def startupClose (h : Hose) (s : State) : State :=
  let w := s.hsc.shadows.get h
  if w.opened then
    let s :=
      match (findOpen s.jnl w.seq).map (·.body) with
      | some (.dispense d) =>
        let m := s.mtr.meters.get (hoseMeter h)
        let figures := startupFigures m w.counted
        let mean := meanTemp s (hoseMeter h) w.tempSum w.samples
        let ident := if w.proving then none else d.ident
        let s := modMeter (hoseMeter h) (totalise figures.pulses figures.gross) s
        bookDispense
          { hose := h, seq := w.seq, comp := d.comp
            machine := if w.proving then none else w.ident.map fun i => (i.machine, i.hours)
            bill := ident.map fun i => (i.contractor, i.price, i.basis)
            figures := figures, mean := mean, committedVolume := 0, committedAmount := 0, residual := 0
            pauseCount := w.pauseCount, outcome := .interrupted, faultKind := w.faultKind
            flags := { w.flags with
              tailUncertain := !w.powerFail, priceZero := (ident.map fun i => i.price == 0).getD false }
            proving := w.proving } s
      | _ => s
    raise .dispenseClosed (setShadow h { w with opened := false } s)
  else s

end Sys2Proof.Machine
end

