-- ==== Sys2Proof/Machine/Auth.lean ====
section
/-! DEFINITION. AUT: the chain of checks (R77 to R86), the commitments (R87), the refusal (R80) and the grant (R88,
R89, R99). -/

namespace Sys2Proof.Machine

/-- What a trigger hands over (R76). -/
structure Trigger where
  machine : Nat
  mode : IdMode
  template : Option Nat
  hours : Option Nat
deriving DecidableEq, Repr

/-- Checks 1 to 4, made at ARM HOSE and at each authorisation (R79). -/
def commonRefusal (s : State) : Option Reason :=
  if s.itu.latch then some .estop
  else if s.cal.on then some .calibration
  else if inputActive s .supplyLow then some .supplyLow
  else if !s.itu.clockValid then some .timeInvalid
  else none

/-- Checks 1 to 6 (Table 5-2). -/
def siteRefusal (h : Hose) (s : State) : Option Reason :=
  match commonRefusal s with
  | some r => some r
  | none =>
    match (compartment s (hoseComp s h)).op with
    | .receiving | .reconciling => some .compartmentBusy
    | _ => if freeSlots s.jnl ≤ 4 then some .journalFull else none

/-- Checks 8 to 13 against an entry (Table 5-2, R78, R85). -/
def entryRefusal (c : Comp) (mode : IdMode) (e : MachineEntry) (s : State) : Option Reason :=
  let k := contractorOf s e.contractor
  if e.status != .active || (mode == .manual && !e.manual) then some .barred
  else if !e.comps.get c then some .wrongProduct
  else if (e.marker.get c).isSome then some .machineBusy
  else if k.state != .opened then some .contractorHold
  else if (priceRecord s c).current.isNone then some .noPrice
  else
    match remainingCredit k with
    | some r => if r ≤ 0 then some .credit else none
    | none => none

/-- A present limit's gross figure: a standard limit is converted at the CTL at authorisation (R82). -/
def limitFigure (ctl : Nat) (standard : Bool) (value : Nat) : Nat := if standard then grossFigure value ctl else value

/-- The figure of the CREDIT limit, when the limit is present (R85). -/
def creditFigure (k : Contractor) (price ctl : Nat) : Option Nat :=
  match remainingCredit k with
  | some r => if 0 < price then some (limitFigure ctl (k.basis == .standard) (creditVolume r.toNat price)) else none
  | none => none

/-- The figures of the present limits, in the order of R86 (Table 5-3). -/
def limitFigures (h : Hose) (e : MachineEntry) (price ctl : Nat) (s : State) : List (Limiter × Nat) :=
  let c := hoseComp s h
  let of (l : Limiter) (v : Option Nat) : List (Limiter × Nat) := (v.map fun x => (l, x)).toList
  of .requested (hoseCtx s h).requested
    ++ of .tank (e.capacity.get c)
    ++ of .allowance ((e.allowance.get c).map fun a => limitFigure ctl true (a - e.consumed.get c))
    ++ of .stock (some (limitFigure ctl true (availableOf (compartment s c))))
    ++ of .credit (creditFigure (contractorOf s e.contractor) price ctl)
    ++ of .hoseMax (some (s.hsc.params.get h).hoseMax)

/-- The least figure, with the first limit that has it (R86). -/
def leastFigure : List (Limiter × Nat) → Limiter × Nat → Limiter × Nat
  | [], best => best
  | x :: rest, best => leastFigure rest (if x.2 < best.2 then x else best)

/-- The reason a limiter names when the preset is too small (R86). -/
def Limiter.reason : Limiter → Reason
  | .requested => .presetTooSmall
  | .tank => .tank
  | .allowance => .allowance
  | .stock => .stock
  | .credit => .credit
  | .hoseMax => .hoseMax

/-- What the checks of a passed authorisation leave in the record (Table 5-1). -/
structure Grant where
  granted : Granted
  comp : Comp
  preset : Nat
  limiter : Limiter
  standard : Nat
  amount : Nat
deriving DecidableEq, Repr

/-- Check 14, and the commitments when it passes (R81 to R87). -/
def presetCheck (h : Hose) (t : Trigger) (e : MachineEntry) (cls : IdClass) (s : State) : Except Reason Grant :=
  let c := hoseComp s h
  let k := contractorOf s e.contractor
  let price := adjustedPrice ((priceRecord s c).current.getD 0) k.adjustment
  let ctl := ctlAt s c (currentTemp s (hoseMeter h)).1
  let figures := limitFigures h e price ctl s
  let (limiter, preset) := leastFigure figures (figures.headD (.hoseMax, (s.hsc.params.get h).hoseMax))
  if preset < s.hsc.minDelivery ∨ preset = 0 then .error limiter.reason
  else
    let standard := standardOf preset ctl
    .ok
      { granted :=
          { machine := t.machine, mode := t.mode, cls := cls, template := t.template, hours := t.hours
            contractor := e.contractor, price := price, basis := k.basis, tagRequired := e.tagRequired }
        comp := c, preset := preset, limiter := limiter, standard := standard
        amount := amountOf (if k.basis = .gross then preset else standard) price }

/-- The fourteen checks (R77), with the admission that check 7 may make. -/
def runChecks (h : Hose) (t : Trigger) (s : State) : State × Except Reason Grant :=
  match siteRefusal h s with
  | some r => (s, .error r)
  | none =>
    match classify t.machine t.mode s with
    | (s, .error r) => (s, .error r)
    | (s, .ok (e, cls)) =>
      match entryRefusal (hoseComp s h) t.mode e s with
      | some r => (s, .error r)
      | none => (s, presetCheck h t e cls s)

/-- The refusal of an authorisation: the note, the return to IDLE and the events (R80). -/
def refuse (h : Hose) (t : Trigger) (r : Reason) (s : State) : State :=
  let note : RefusalNote := { reason := r, machine := t.machine, mode := t.mode, time := s.itu.clock }
  let s := modHose h (fun c => { c with note := some note }) s
  raiseIf (r == .journalFull) .journalFull (raise (Event.refusedOf h) (returnIdle h s))

/-- A hose begins a dispense or a proving run: its context, its meter, its shadow, PRIMING and its pump (R99). -/
def beginDispense (h : Hose) (d : Dispense) (s : State) : State :=
  let s := modHose h (fun c => { c with dispense := some d, timer := none }) s
  let s := modMeter (hoseMeter h) takeOwnership s
  let s := saveShadow false h s
  let s :=
    match d.granted with
    | some g => modReader h (fun r => { r with bound := some g.machine }) s
    | none => s
  joinDemand d.comp h (enterState h .priming s)

/-- The OPEN DISPENSE record of a grant (R89). -/
def grantRecord (h : Hose) (operator : Nat) (g : Grant) : DispenseRecord :=
  { hose := h, comp := g.comp
    ident := some
      { machine := g.granted.machine, mode := g.granted.mode, cls := g.granted.cls, template := g.granted.template
        operator := operator, contractor := g.granted.contractor, price := g.granted.price
        basis := g.granted.basis }
    hours := g.granted.hours, preset := g.preset, limiter := g.limiter
    flags := { manual := g.granted.mode == .manual } }

/-- The dispense context of a grant (R89, R99). -/
def grantDispense (seq : Nat) (g : Grant) : Dispense :=
  { comp := g.comp, granted := some g.granted, preset := g.preset, limiter := g.limiter, committedVolume := g.standard
    committedAmount := g.amount, seq := seq
    flags := { manual := g.granted.mode == .manual, priceZero := g.granted.price == 0 }, proving := false }

/-- The grant and its reservations, in the order of R88. -/
def grant (h : Hose) (g : Grant) (s : State) : State :=
  let seq := s.jnl.nextSeq
  let operator := (hoseCtx s h).operator.getD 0
  let s := setMarker g.granted.machine g.comp h s
  let s := reserve (.dispense (grantRecord h operator g)) s
  let s := modComp g.comp (fun c => { c with committed := c.committed + g.standard, op := draw c.op }) s
  let s := commitAmount g.granted.contractor g.amount s
  beginDispense h (grantDispense seq g) s

/-- An authorisation of an ARMED hose: its refusal reason, or the sequence number, preset and limiter of its grant
(R77). -/
def authorise (h : Hose) (t : Trigger) (s : State) : State × Except Reason (Nat × Nat × Limiter) :=
  match runChecks h t s with
  | (s, .error r) => (refuse h t r s, .error r)
  | (s, .ok g) => (grant h g s, .ok (s.jnl.nextSeq, g.preset, g.limiter))

/-- An IDENTIFIED report at a hose (R76, R102). -/
def hoseIdentified (h : Hose) (machine template : Nat) (hours : Option Nat) (s : State) : State :=
  if (hoseCtx s h).state = .armed then
    (authorise h { machine := machine, mode := .tag, template := some template, hours := hours } s).1
  else s

end Sys2Proof.Machine
end

