-- ==== Sys2Proof/Machine/Ident.lean ====
section
/-! DEFINITION. IDU: the receiver (R25), judgement of a frame (R26 to R30), confirmation and presence (R31 to R36) and
the reports to the hose (R37). -/

namespace Sys2Proof.Machine

/-! ## Judging a frame -/

/-- The signature bytes of a payload, in ascending order of offset (R29). -/
def signatureBytes (t : Template) (payload : List Byte) : List Byte :=
  ((List.range 64).filter fun i => t.offsets.contains i).map fun i => payload.getD i 0

/-- Whether a template matches a payload (R29). -/
def templateMatches (t : Template) (payload : List Byte) : Bool :=
  t.minLen ≤ payload.length && payload.length ≤ t.maxLen && t.offsets.all (· < payload.length)
    && (crc16 (signatureBytes t payload)).toNat == t.check

/-- The first matching template in ascending index order (R29). -/
def matchTemplate (payload : List Byte) : Nat → List (Option Template) → Option (Nat × Template)
  | _, [] => none
  | i, none :: rest => matchTemplate payload (i + 1) rest
  | i, some t :: rest => if templateMatches t payload then some (i, t) else matchTemplate payload (i + 1) rest

/-- The unsigned value of a field of a payload (R30). -/
def payloadField (payload : List Byte) (offset length : Nat) : Nat := beValue ((payload.drop offset).take length)

/-- What a good frame carries (R30). -/
structure GoodFrame where
  machine : Nat
  template : Nat
  hours : Option Nat
deriving DecidableEq, Repr

/-- The judgement of a complete frame: its bad cause, or what it carries (R26, R29, R30). -/
def judgeFrame (templates : List (Option Template)) (length : Nat) (payload crc : List Byte) : Except BadCause GoodFrame :=
  if (crc16 (BitVec.ofNat 8 length :: payload)).toNat ≠ beValue crc then .error .crc
  else
    match matchTemplate payload 0 templates with
    | none => .error .noMatch
    | some (i, t) =>
      let number := payloadField payload t.idOffset t.idLength
      if number = 0 then .error .zeroIdentity
      else
        .ok { machine := number, template := i
              hours := (t.hoursOffset.map fun o => payloadField payload o 3).filter (· ≤ 9999999) }

/-- A bad frame (R27). -/
def countBad (cause : BadCause) (r : Reader) : Reader :=
  { r with badFrames := satAdd 255 r.badFrames 1, lastBad := cause }

/-! ## Confirmation and presence -/

/-- The reports of a reader, with what each carries (Table 2-4). -/
inductive Report where
  | identified (machine template : Nat) (hours : Option Nat)
  | lost (machine : Nat)
  | returned (machine : Nat)
  | replaced (machine template : Nat) (hours : Option Nat)
deriving DecidableEq, Repr

/-- The comparison identity (R31). -/
def comparison (r : Reader) : Option Nat :=
  match r.bound with
  | some n => some n
  | none => r.present.map Identity.machine

/-- The completion of a confirmation and its report (R33). -/
def confirm (id : Identity) (r : Reader) : Reader × Option Report :=
  let report :=
    match comparison r with
    | none => some (.identified id.machine id.template id.hours)
    | some n => if n = id.machine then (if r.lost then some (.returned id.machine) else none)
      else some (.replaced id.machine id.template id.hours)
  ({ r with reception := .present, present := some id, candidate := none, lost := false, graceDeadline := none }, report)

/-- A further good frame of an identity: template and time are the frame's, hours when it carries them (R32, R35). -/
def renew (g : GoodFrame) (now : Nat) (id : Identity) : Identity :=
  { id with
    template := g.template, lastFrame := now
    hours := match g.hours with
      | some n => some n
      | none => id.hours }

/-- The candidate after a good frame that is not of the present identity (R32). -/
def growCandidate (g : GoodFrame) (now : Nat) (held : Option Candidate) : Candidate :=
  match held with
  | some k =>
    if k.ident.machine = g.machine then { ident := renew g now k.ident, count := k.count + 1 }
    else { ident := { machine := g.machine, template := g.template, hours := g.hours, lastFrame := now }, count := 1 }
  | none => { ident := { machine := g.machine, template := g.template, hours := g.hours, lastFrame := now }, count := 1 }

/-- A good frame of the present identity (R35, R36). -/
def renewPresent (g : GoodFrame) (now : Nat) (id : Identity) (r : Reader) : Reader × Option Report :=
  ({ r with reception := .present, present := some (renew g now id), lost := false, graceDeadline := none },
   if r.reception = .grace && r.lost then some (.returned id.machine) else none)

/-- A good frame that builds a candidate, and the confirmation it may complete (R32, R33). -/
def buildCandidate (confirmCount : Nat) (g : GoodFrame) (now : Nat) (r : Reader) : Reader × Option Report :=
  let k := growCandidate g now r.candidate
  if confirmCount ≤ k.count then confirm k.ident r
  else
    ({ r with
       candidate := some k
       reception := if r.reception = .absent then .confirming else r.reception }, none)

/-- A good frame at an enabled reader (R32). -/
def goodFrame (confirmCount : Nat) (g : GoodFrame) (now : Nat) (r : Reader) : Reader × Option Report :=
  let r := { r with goodFrames := satAdd 65535 r.goodFrames 1 }
  match r.present with
  | some id =>
    if id.machine = g.machine then renewPresent g now id r else buildCandidate confirmCount g now r
  | none => buildCandidate confirmCount g now r

/-- A report reaches the hose of the same number (R37, R102). Of what it carries the hose uses the identification of
IDENTIFIED alone: the effects of the others in R102 are the same for every machine. -/
def sendReport (h : Hose) (report : Option Report) (s : State) : State :=
  match report with
  | some (.identified machine template hours) => hoseIdentified h machine template hours s
  | some (.lost _) => hoseLost h s
  | some (.returned _) => hoseReturned h s
  | some (.replaced _ _ _) => hoseReplaced h s
  | none => s

/-! ## Reception -/

/-- A complete frame is judged and taken (R26 to R32); a good frame reloads the idle timer (R192). -/
def completeFrame (h : Hose) (length : Nat) (payload crc : List Byte) (s : State) : State :=
  let s := modReader h (fun r => { r with phase := .hunt, rxBytes := [], rxLength := 0 }) s
  match judgeFrame s.idu.templates length payload crc with
  | .error cause => modReader h (countBad cause) s
  | .ok g =>
    let (r, report) := goodFrame s.idu.confirmCount g s.itu.mono (s.idu.readers.get h)
    sendReport h report (reloadIdle .tag (modReader h (fun _ => r) s))

/-- A byte arrival at a reader (R25). -/
def tagByte (h : Hose) (b : Byte) (s : State) : State :=
  let r := s.idu.readers.get h
  if !r.enabled then s
  else
    let store (f : Reader → Reader) : State := modReader h (fun r => f { r with rxTime := s.itu.mono }) s
    match r.phase with
    | .hunt => if b = 0xA5#8 then store fun r => { r with phase := .length } else s
    | .length =>
      if 8 ≤ b.toNat ∧ b.toNat ≤ 64 then store fun r => { r with phase := .body, rxLength := b.toNat, rxBytes := [] }
      else store fun r => countBad .length { r with phase := .hunt }
    | .body =>
      let bytes := r.rxBytes ++ [b]
      store fun r => { r with rxBytes := bytes, phase := if r.rxLength ≤ bytes.length then .check else .body }
    | .check =>
      let bytes := r.rxBytes ++ [b]
      if r.rxLength + 2 ≤ bytes.length then
        completeFrame h r.rxLength (bytes.take r.rxLength) (bytes.drop r.rxLength) (store fun r => r)
      else store fun r => { r with rxBytes := bytes }

/-- The gap of more than 20 ms within a frame (R25). -/
def truncateFrame (h : Hose) (s : State) : State :=
  let r := s.idu.readers.get h
  if r.enabled && r.phase != .hunt then
    modReader h (fun r => countBad .truncated { r with phase := .hunt, rxBytes := [], rxLength := 0 })
      (reachTime (r.rxTime + 21) s)
  else s

/-- The lapse of a candidate (R34). -/
def lapseCandidate (h : Hose) (s : State) : State :=
  match (s.idu.readers.get h).candidate with
  | some k =>
    modReader h (fun r => { r with
      candidate := none, reception := if r.reception = .confirming then .absent else r.reception })
      (reachTime (k.ident.lastFrame + 501) s)
  | none => s

/-- The gap of the present identity: the entry to GRACE (R35). -/
def enterGrace (h : Hose) (s : State) : State :=
  match (s.idu.readers.get h).reception, (s.idu.readers.get h).present with
  | .present, some id =>
    let s := reachTime (id.lastFrame + 501) s
    modReader h (fun r => { r with
      reception := .grace, graceDeadline := some (s.itu.mono + (s.hsc.params.get h).grace * 1000) }) s
  | _, _ => s

/-- The grace timer runs out: LOST, with the present identity's machine number (R36). A reader in GRACE has one. -/
def loseTag (h : Hose) (s : State) : State :=
  match (s.idu.readers.get h).graceDeadline with
  | some d =>
    sendReport h (some (.lost (((s.idu.readers.get h).present.map Identity.machine).getD 0)))
      (modReader h (fun r => { r with lost := true, graceDeadline := none }) (reachTime d s))
  | none => s

end Sys2Proof.Machine
end

