-- ==== Sys2Proof/Machine/Receipts.lean ====
section
/-! DEFINITION. RCP: the receipt, its shadow, close and inlet faults (R140 to R151); and the dip of TPI: the strapping
volume (R153) and the reconcile (R154 to R156). -/

namespace Sys2Proof.Machine

/-! ## The receipt's states -/

/-- RECEIVING or HELD: the states in which MI is owned and the receipt is not settling. -/
def receiptRuns : ReceiptState → Bool
  | .receiving | .held => true
  | _ => false

/-- The content of a receipt shadow write (R140). -/
def receiptShadowOf (r : Receipt) (seq : Nat) (powerFail : Bool) : ReceiptShadow :=
  { opened := true, seq := seq, started := r.started.isSome, counted := r.counted, tempSum := r.sampling.sum
    samples := r.sampling.n, powerFail := powerFail }

/-- Writes the receipt shadow. -/
def saveReceiptShadow (powerFail : Bool) (s : State) : State :=
  match s.rcp.receipt.docket with
  | some d => modRcp (fun x => { x with shadow := receiptShadowOf x.receipt d.seq powerFail }) s
  | none => s

/-- The shadow write while the shadow is open. -/
def touchReceiptShadow (s : State) : State :=
  if s.rcp.shadow.opened then saveReceiptShadow s.rcp.shadow.powerFail s else s

/-- A change of receipt state: its shadow write, RECEIPT_CHANGE and the idle timer's reload (R140, R192). -/
def enterReceipt (st : ReceiptState) (s : State) : State :=
  reloadIdle .receipt (raise .receiptChange (touchReceiptShadow (modReceipt (fun r => { r with state := st }) s)))

def receiptTimer (ms : Nat) (s : State) : State :=
  modReceipt (fun r => { r with timer := some (s.itu.mono + ms) }) s

/-- The entry to SETTLING (R146). -/
def enterSettling (o : ReceiptOutcome) (s : State) : State :=
  enterReceipt .settling (receiptTimer 20000 (modReceipt (fun r => { r with outcome := some o }) s))

/-- The entry to SETTLING of a receipt in RECEIVING or HELD (R143). -/
def settleIf (o : ReceiptOutcome) (s : State) : State :=
  if receiptRuns s.rcp.receipt.state then enterSettling o s else s

/-! ## The close -/

/-- The close of a receipt from its figures (R146, steps 2 to 7), with VARIANCE_HIGH under R147. `figures` is absent
for a close from DOCKETED, which carries no variance. -/
def bookReceipt (seq : Nat) (c : Comp) (expected : Nat) (gross : Option Nat) (mean : Int) (endLevel : Option Nat)
    (o : ReceiptOutcome) (s : State) : State :=
  let volume := gross.getD 0
  let standard := standardOf volume (ctlAt s c mean)
  let variance : Option Int := gross.map fun _ => (standard : Int) - expected
  let high := (variance.map fun v => decide ((compartment s c).settings.tolerance < v.natAbs)).getD false
  let s := stockReceipt c standard s
  let s := closeRecord seq (fun b =>
    match b with
    | .receipt r =>
      .receipt { r with
        varianceHigh := high, outcome := some o
        figures := some { gross := volume, standard := standard, meanTemp := mean, variance := variance
                          endLevel := endLevel } }
    | b => b) s
  raiseIf high .varianceHigh (raise .receiptClosed
    (modRcp (fun x => { x with shadow := { x.shadow with opened := false } }) s))

/-- The end level: the latest level of a VALID probe (R146, step 4). -/
def endLevel (s : State) (c : Comp) : Option Nat :=
  let p := s.tpi.probes.get c
  if p.valid then p.latest.map (·.level) else none

/-- The close of the receipt in progress with an outcome (R146, R150). -/
def closeReceiptNow (o : ReceiptOutcome) (s : State) : State :=
  match s.rcp.receipt.docket with
  | none => s
  | some d =>
    let started := s.rcp.receipt.started.isSome
    let m := s.mtr.meters.get .mi
    let mean := (meanTemp s .mi s.rcp.receipt.sampling.sum s.rcp.receipt.sampling.n).1
    let level := endLevel s d.comp
    let s := if started then modMeter .mi closeMeter s else s
    let s := bookReceipt d.seq d.comp d.expected (if started then some (closeFigures m).gross else none) mean level o s
    reloadIdle .receipt (raise .receiptChange (modReceipt (fun _ => {}) s))

/-- The close at the end of SETTLING, with the outcome the context holds. -/
def closeSettled (s : State) : State := closeReceiptNow (s.rcp.receipt.outcome.getD .interrupted) s

/-! ## Inlet faults -/

/-- Sets the inlet fault level with the FAULT record, and raises LOCKED when the level becomes LOCKED (R148). -/
def setInletFault (kind : FaultKind) (locked : Bool) (volume : Option Nat) (s : State) : State :=
  let becomes := locked && s.rcp.fault.code != 2
  raiseIf becomes .locked
    (recordFault .inlet kind locked volume
      (modRcp (fun x => { x with fault := if locked then .locked kind else .halted kind }) s))

/-- An inlet fault, by the receipt's state (R148). -/
def inletFault (kind : FaultKind) (volume : Option Nat) (s : State) : State :=
  match s.rcp.receipt.state with
  | .receiving | .held => enterSettling .fault (setInletFault kind false volume s)
  | .settling =>
    if s.rcp.receipt.outcome = some .fault then closeSettled (setInletFault kind true volume s)
    else modReceipt (fun r => { r with outcome := some .fault }) (setInletFault kind false volume s)
  | .idle | .docketed => setInletFault kind (s.rcp.fault.code != 0) volume s

/-- A CHANNEL report of MI reaches a receipt in RECEIVING, HELD or SETTLING (Table 8-3). -/
def inletChannel (s : State) : State :=
  match s.rcp.receipt.state with
  | .receiving | .held | .settling => inletFault .channel none s
  | _ => s

/-- A LEAK report of MI reaches a receipt in IDLE or DOCKETED (Table 8-3). -/
def inletLeak (volume : Nat) (s : State) : State :=
  match s.rcp.receipt.state with
  | .idle | .docketed => inletFault .leak (some volume) s
  | _ => s

/-! ## Count reports -/

/-- Takes a count report into the receipt context (R143, R14). -/
def takeReceiptCount (temp : Int × Bool) (pulses gross : Nat) (r : Receipt) : Receipt :=
  let r := { r with counted := pulses, gross := gross }
  if takesSample r.sampling pulses gross then
    { r with sampling := addSample temp.1 r.sampling, tempFallback := r.tempFallback || temp.2 }
  else r

/-- A count report of MI at the receipt (R143, R144, R146). -/
def receiptCount (pulses gross : Nat) (s : State) : State :=
  let temp := currentTemp s .mi
  let s := modReceipt (takeReceiptCount temp pulses gross) s
  let s := if s.rcp.shadow.opened && s.rcp.shadow.counted / 100 < pulses / 100 then touchReceiptShadow s else s
  match s.rcp.receipt.started with
  | some t => if t.limit ≤ gross then settleIf .limit s else s
  | none => s

/-! ## Earth bond, power-fail, start-up -/

/-- The earth bond is lost (R144). -/
def loseBond (s : State) : State :=
  if s.rcp.receipt.state = .receiving then enterReceipt .held (receiptTimer 300000 s) else s

/-- The earth bond returns (R144). -/
def regainBond (s : State) : State :=
  if s.rcp.receipt.state = .held then enterReceipt .receiving (modReceipt (fun r => { r with timer := none }) s) else s

/-- The power-fail warning at the receipt (R150). -/
def interruptReceipt (s : State) : State :=
  match s.rcp.receipt.state with
  | .idle => s
  | .docketed => closeReceiptNow .interrupted s
  | _ => closeReceiptNow .interrupted (saveReceiptShadow true s)

/-- The start-up close of a receipt found open in its shadow (R151, R9). -/
def startupReceipt (s : State) : State :=
  let w := s.rcp.shadow
  if w.opened then
    match (findOpen s.jnl w.seq).map Record.body with
    | some (.receipt r) =>
      if w.started then
        let figures := startupFigures (s.mtr.meters.get .mi) w.counted
        let mean := (meanTemp s .mi w.tempSum w.samples).1
        bookReceipt w.seq r.comp r.expected (some figures.gross) mean none .interrupted
          (modMeter .mi (totalise figures.pulses figures.gross) s)
      else bookReceipt w.seq r.comp r.expected none (currentTemp s .mi).1 none .abandoned s
    | _ => raise .receiptClosed (modRcp (fun x => { x with shadow := { x.shadow with opened := false } }) s)
  else s

/-! ## Strapping and the reconcile -/

/-- The strapping volume of a level above the level of a point, along the points that follow it (R153). -/
def strapFrom (level : Nat) : StrapPoint → List StrapPoint → Nat × Bool
  | p, [] => (p.gross, p.level < level)
  | p, q :: rest =>
    if level < q.level then (p.gross + (level - p.level) * (q.gross - p.gross) / (q.level - p.level), false)
    else strapFrom level q rest

/-- The strapping volume of a level, and its ABOVE_TABLE mark (R153). A level below point 0 has its volume, as the
truncated subtraction gives it. -/
def strapVolume (table : List StrapPoint) (level : Nat) : Nat × Bool :=
  match table with
  | [] => (0, false)
  | p :: rest => strapFrom (max level p.level) p rest

/-- The temperature of a probe arrival as the dip uses it (R152). -/
def dipTemp (s : State) (c : Comp) (t : Int) : Int :=
  if -500 ≤ t ∧ t ≤ 1000 then clampTemp t else (compartment s c).params.fallback

/-- Ends a reconcile: the record, the release and RECONCILE_DONE (R155, R156, R129). -/
def endReconcile (c : Comp) (k : ReconcileCtx) (o : ReconcileOutcome) (figures : Option DipFigures) (high : Bool)
    (s : State) : State :=
  let s := closeRecord k.seq (fun b =>
    match b with
    | .reconcile r => .reconcile { r with outcome := some o, figures := figures, varianceHigh := high }
    | b => b) s
  let s := modComp c (fun x => { x with op := endUse x.op }) s
  raise .reconcileDone (modTpi (fun t => { t with reconciles := t.reconciles.set c none, lastReconcile := none }) s)

/-- The early end of a reconcile in collection on a compartment, if one runs (R155). -/
def abortReconcile (c : Comp) (o : ReconcileOutcome) (s : State) : State :=
  match s.tpi.reconciles.get c with
  | some k => endReconcile c k o none false s
  | none => s

/-- The result of a dip (R156, steps 1 to 4). -/
def dipResult (s : State) (c : Comp) (k : ReconcileCtx) : ReconcileResult :=
  let level := roundNat k.levelSum 10
  let temp := roundInt k.tempSum 10
  let (gross, above) := strapVolume (compartment s c).strapping level
  let ctl := ctlAt s c temp
  let standard := standardOf gross ctl
  let book := bookOf (compartment s c).book
  { comp := c, mode := k.mode, outcome := .complete, ctlProbe := ctl, above := above
    figures :=
      { meanLevel := level, probeTemp := temp, dipGross := gross, dipStandard := standard
        bookBefore := clampBook book, variance := (standard : Int) - book } }

/-- The completion of a reconcile (R156). -/
def completeReconcile (c : Comp) (k : ReconcileCtx) (s : State) : State :=
  let r := dipResult s c k
  let high := decide ((compartment s c).settings.tolerance < r.figures.variance.natAbs)
  let s :=
    match k.mode with
    | .set => rebase c r.figures.dipStandard s
    | .check => modComp c evalReturn s
  let s := endReconcile c k .complete (some r.figures) high s
  raiseIf high .varianceHigh (modTpi (fun t => { t with lastReconcile := some r }) s)

/-- A probe arrival adds a reading to a reconcile; the tenth completes it (R155, R156). -/
def addReading (c : Comp) (level : Nat) (temp : Int) (s : State) : State :=
  match s.tpi.reconciles.get c with
  | none => s
  | some k =>
    let k := { k with
      readings := k.readings + 1, levelSum := k.levelSum + level, tempSum := k.tempSum + dipTemp s c temp }
    if 10 ≤ k.readings then completeReconcile c k s
    else modTpi (fun t => { t with reconciles := t.reconciles.set c (some k) }) s

/-- A VALID probe becomes INVALID: it ends a reconcile in collection, and is a SENSOR fault of a receipt that started
from it (R148, R155). -/
def probeLost (c : Comp) (s : State) : State :=
  let s := modProbe c (fun p => { p with valid := false }) s
  let s := abortReconcile c .probeFault s
  if receiptRuns s.rcp.receipt.state && s.rcp.receipt.started.map Started.source == some .probe
      && s.rcp.receipt.docket.map Docket.comp == some c then
    inletFault .sensor none s
  else s

/-- Closes an OPEN RECONCILE record found at start-up (R156). The operation state is FREE already. -/
def startupReconcile (r : Record) (s : State) : State :=
  match r.isOpen, r.body with
  | true, .reconcile _ =>
    raise .reconcileDone (closeRecord r.seq (fun b =>
      match b with
      | .reconcile x => .reconcile { x with outcome := some .abortedReset }
      | b => b) s)
  | _, _ => s

/-- Closes every OPEN RECONCILE record found at start-up. -/
def startupReconciles (s : State) : State := s.jnl.ring.foldl (fun s r => startupReconcile r s) s

end Sys2Proof.Machine
end

