-- ==== Sys2Proof/Machine/Pulses.lean ====
section
/-! DEFINITION. What arrives on the meter, sensor and probe lines: pulse arrivals (R4 to R6, R18 to R20) and the bytes
of sensor and probe frames (R12, R152, R206). -/

namespace Sys2Proof.Machine

/-! ## Pulse arrivals -/

/-- A count report reaches the owner of a meter (R5). -/
def sendCount (m : MeterId) (pulses gross : Nat) (s : State) : State :=
  match m with
  | .m1 => hoseCount .h1 pulses gross s
  | .m2 => hoseCount .h2 pulses gross s
  | .mi => receiptCount pulses gross s

/-- A CHANNEL report reaches the owner of a meter (R6). -/
def sendChannel (m : MeterId) (s : State) : State :=
  match m with
  | .m1 => hoseChannel .h1 s
  | .m2 => hoseChannel .h2 s
  | .mi => inletChannel s

/-- Whether an arrival sends a CHANNEL report: the meter was AGREED, and its net counts now differ by more than the
captured window (R6). -/
def disagrees (m : MeterState) : Bool :=
  match m.captured with
  | some k => !m.disagreed && decide (k.window < netDifference m.counts)
  | none => false

/-- A pulse arrival at an owned meter: the count report, then the CHANNEL report (R5, R6). -/
def ownedPulse (m : MeterId) (ch : Channel) (other : Bool) (s : State) : State :=
  let before := countedPulses (s.mtr.meters.get m).counts
  let s := modMeter m (fun x => { x with counts := countPulse ch other x.counts }) s
  let x := s.mtr.meters.get m
  let report := disagrees x
  let s := if report then modMeter m (fun x => { x with disagreed := true }) s else s
  let s := if countedPulses x.counts = before then s else sendCount m (countedPulses x.counts) (runningGross x) s
  if report then sendChannel m s else s

/-- A LEAK report reaches its fault source, which takes its volume into the stock book (R19, R133). A hose leak adds
to the losses and an inlet leak subtracts. -/
def sendLeak (m : MeterId) (c : Comp) (standard : Nat) (s : State) : State :=
  match m with
  | .m1 => hoseLeak .h1 standard (stockLeak c standard s)
  | .m2 => hoseLeak .h2 standard (stockLeak c standard s)
  | .mi => inletLeak standard (stockLeak c (-(standard : Int)) s)

/-- The LEAK report of an unowned meter (R19); it wakes the part (R194). -/
def reportLeak (m : MeterId) (s : State) : State :=
  let x := s.mtr.meters.get m
  let c := meterComp s m
  let gross := grossOf x.params.kFactor x.params.meterFactor (leakCounter x.leaks)
  let standard := standardOf gross (ctlAt s c (currentTemp s m).1)
  let s := modMeter m (fun x => { totalise (leakCounter x.leaks) gross x with leaks := {} }) s
  sendLeak m c standard (wake s)

/-- A pulse arrival at an unowned meter (R18, R19). -/
def unownedPulse (m : MeterId) (ch : Channel) (other : Bool) (s : State) : State :=
  let s := modMeter m (fun x => { x with leaks := countPulse ch other x.leaks }) s
  let x := s.mtr.meters.get m
  if x.params.leakThreshold < leakCounter x.leaks then reportLeak m s else s

/-- A pulse arrival; while POWERFAIL is active it is discarded (R20). -/
def pulse (m : MeterId) (ch : Channel) (other : Bool) (s : State) : State :=
  if powerFail s then s
  else if (s.mtr.meters.get m).owned then ownedPulse m ch other s
  else unownedPulse m ch other s

/-! ## Sensor frames -/

/-- A good sensor frame (R12). -/
def takeSensor (m : MeterId) (value : Int) (s : State) : State :=
  modSensor m (fun x => { x with
    latest := some { value := value, time := s.itu.mono }, valid := decide (-500 ≤ value ∧ value ≤ 1000) }) s

/-- The five bytes of a sensor frame are checked (R12, Table 13-4). -/
def judgeSensor (m : MeterId) (frame : List Byte) (s : State) : State :=
  let reading := (frame.drop 1).take 2
  let s := modSensor m (fun x => { x with rx := [] }) s
  if (crc16 reading).toNat = beValue (frame.drop 3) then takeSensor m (beSigned reading) s else s

/-- A byte on a sensor line (R206); discarded in standby (R20). -/
def sensorByte (m : MeterId) (b : Byte) (s : State) : State :=
  let rx := (s.tpi.sensors.get m).rx
  if s.itu.standby then s
  else if rx = [] ∧ b ≠ 0x5A#8 then s
  else
    let s := modSensor m (fun x => { x with rx := x.rx ++ [b], rxTime := s.itu.mono }) s
    if 5 ≤ rx.length + 1 then judgeSensor m (rx ++ [b]) s else s

/-- 3 s without a good frame (R12). -/
def ageSensor (m : MeterId) (s : State) : State :=
  match (s.tpi.sensors.get m).valid, (s.tpi.sensors.get m).latest with
  | true, some r => modSensor m (fun x => { x with valid := false }) (reachTime (r.time + 3000) s)
  | _, _ => s

/-! ## Probe frames -/

/-- A good probe frame: a probe arrival (R152), which a reconcile takes as a reading (R155). -/
def takeProbe (c : Comp) (level : Nat) (temp : Int) (s : State) : State :=
  let s := modProbe c (fun x => { x with latest := some { level := level, temp := temp, time := s.itu.mono } }) s
  if level ≤ 40000 then addReading c level temp (modProbe c (fun x => { x with valid := true }) s)
  else if (s.tpi.probes.get c).valid then probeLost c s
  else s

/-- The seven bytes of a probe frame are checked (R152, Table 13-4). -/
def judgeProbe (c : Comp) (frame : List Byte) (s : State) : State :=
  let level := (frame.drop 1).take 2
  let temp := (frame.drop 3).take 2
  let s := modProbe c (fun x => { x with rx := [] }) s
  if (crc16 (level ++ temp)).toNat = beValue (frame.drop 5) then takeProbe c (beValue level) (beSigned temp) s else s

/-- A byte on a probe line (R206); discarded in standby (R152). -/
def probeByte (c : Comp) (b : Byte) (s : State) : State :=
  let rx := (s.tpi.probes.get c).rx
  if s.itu.standby then s
  else if rx = [] ∧ b ≠ 0x5B#8 then s
  else
    let s := modProbe c (fun x => { x with rx := x.rx ++ [b], rxTime := s.itu.mono }) s
    if 7 ≤ rx.length + 1 then judgeProbe c (rx ++ [b]) s else s

/-- 3 s without a good frame (R152). -/
def ageProbe (c : Comp) (s : State) : State :=
  match (s.tpi.probes.get c).valid, (s.tpi.probes.get c).latest with
  | true, some r => probeLost c (reachTime (r.time + 3000) s)
  | _, _ => s

/-! ## The gap within a frame (R206) -/

def sensorGap (m : MeterId) (s : State) : State :=
  let x := s.tpi.sensors.get m
  if x.rx = [] then s else modSensor m (fun x => { x with rx := [] }) (reachTime (x.rxTime + 21) s)

def probeGap (c : Comp) (s : State) : State :=
  let x := s.tpi.probes.get c
  if x.rx = [] then s else modProbe c (fun x => { x with rx := [] }) (reachTime (x.rxTime + 21) s)

end Sys2Proof.Machine
end

