-- ==== Sys2Proof/Machine/Site.lean ====
section
/-! DEFINITION. ITU: the input events (R186 to R190), the end of calibration mode (R175), standby (R193) and start-up
(R195, with R23, R42, R62, R75, R124, R139, R151, R173, R184, R203). -/

namespace Sys2Proof.Machine

/-! ## Calibration mode ends -/

/-- The end of calibration mode by request or by the switch (R175). -/
def endCalibration (s : State) : State :=
  let s := modCal (fun c => { c with on := false }) s
  let stopRun (h : Hose) (s : State) : State := if inProving (hoseCtx s h) then endIf .stopped h s else s
  raise .calibration (stopRun .h2 (stopRun .h1 s))

/-! ## Input events -/

/-- The leak counts of every meter become 0 (R20). -/
def clearLeaks (s : State) : State :=
  let clear (m : MeterState) : MeterState := { m with leaks := {} }
  modMtr (fun x => { x with meters := ⟨clear x.meters.m1, clear x.meters.m2, clear x.meters.mi⟩ }) s

/-- The emergency stop (R188); nothing when the latch is set already. -/
def emergencyStop (s : State) : State :=
  if s.itu.latch then s
  else
    let s := modItu (fun x => { x with latch := true }) s
    raise .estop (settleIf .estop (stopHoseNow .h2 (stopHoseNow .h1 s)))

/-- The power-fail warning (R189). -/
def powerFailStarts (s : State) : State :=
  let s := interruptReceipt (interruptHoses s)
  clearLeaks (abortReconcile .c2 .abortedReset (abortReconcile .c1 .abortedReset s))

/-- The end of the power-fail warning (R189, R184, R67). -/
def powerFailEnds (s : State) : State :=
  let s := clearLeaks s
  let s := if s.cal.on && !inputActive s .calSwitch then endCalibration s else s
  let s := activatePrices s
  if s.itu.standby then s else startIdle s

/-- The calibration switch opens (R175, R184). -/
def switchOpens (s : State) : State := if s.cal.on && !powerFail s then endCalibration s else s

/-- What an input event does, by input and by the state it has changed to (R186, Table 11-1). -/
def inputEvent (i : Input) (active : Bool) (s : State) : State :=
  match i, active with
  | .estop, true => emergencyStop s
  | .estop, false => s
  | .powerfail, true => powerFailStarts s
  | .powerfail, false => powerFailEnds s
  | .earthBond, true => regainBond s
  | .earthBond, false => loseBond s
  | .overfill, true => settleIf .overfill s
  | .overfill, false => s
  | .ignition, true => reloadIdle .ignition (wake s)
  | .ignition, false => s
  | .supplyLow, true => raise .supplyLow s
  | .supplyLow, false => s
  | .tilt, true => abortReconcile .c2 .abortedTilt (abortReconcile .c1 .abortedTilt s)
  | .tilt, false => s
  | .stowed1, true => stowNozzle .h1 s
  | .stowed1, false => refreshReader .h1 (reloadIdle .nozzle (wake s))
  | .stowed2, true => stowNozzle .h2 s
  | .stowed2, false => refreshReader .h2 (reloadIdle .nozzle (wake s))
  | .pumpRun1, true => runConfirmed .c1 s
  | .pumpRun1, false => runLost .c1 s
  | .pumpRun2, true => runConfirmed .c2 s
  | .pumpRun2, false => runLost .c2 s
  | .calSwitch, true => s
  | .calSwitch, false => switchOpens s

def modInput (i : Input) (f : InputState → InputState) (s : State) : State :=
  modItu (fun x => { x with inputs := x.inputs.set i (f (x.inputs.get i)) }) s

/-- The debounced state a line level gives under a polarity (R186). -/
def levelState (activeLow level : Bool) : Bool := level != activeLow

/-- An input's debounced state changes: its line stands at the level of the new state, the measurement is over, and the
change is an input event (R186; log entry 6). An input that is in that state already has no event. -/
def changeInput (i : Input) (active : Bool) (s : State) : State :=
  if inputActive s i == active then s
  else
    inputEvent i active
      (modInput i (fun x => { x with active := active, level := active != x.activeLow, heldAt := none }) s)

/-- A line changes its level (R186): to the level of the other state it starts the measurement of the debounce time that
is stored now, with debounce 0 it changes the state at once, and its return ends the measurement. -/
def driveLine (i : Input) (level : Bool) (s : State) : State :=
  let x := s.itu.inputs.get i
  let now := levelState x.activeLow level
  if x.level == level then s
  else if now == x.active then modInput i (fun x => { x with level := level, heldAt := none }) s
  else if x.debounce = 0 then changeInput i now s
  else modInput i (fun x => { x with level := level, heldAt := some (s.itu.mono + x.debounce) }) s

/-- The debounced state taken afresh from the line level; a difference is an input event at once (R187). -/
def retakeInput (i : Input) (s : State) : State :=
  let x := s.itu.inputs.get i
  let now := levelState x.activeLow x.level
  let s := modInput i (fun x => { x with active := now, heldAt := none }) s
  if x.active == now then s else inputEvent i now s

/-! ## Standby -/

/-- Whether something is in use, so that standby, RESTART and calibration mode are not entered (R174, R193, R195). -/
def partInUse (s : State) : Bool :=
  inUse (hoseCtx s .h1).state || inUse (hoseCtx s .h2).state || s.rcp.receipt.state != .idle
    || (compartment s .c1).op == .reconciling || (compartment s .c2).op == .reconciling

/-- The entry to standby (R193, R42, R20, R152). -/
def enterStandbyNow (s : State) : State :=
  let s := modItu (fun x => { x with standby := true, idleDeadline := none }) s
  let s := modTpi (fun x => { x with sensors := ⟨{}, {}, {}⟩, probes := ⟨{}, {}⟩, lastReconcile := none }) s
  refreshReader .h2 (refreshReader .h1 s)

/-! ## Start-up -/

/-- The twelve inputs, in the order of Table 11-1. -/
def allInputs : List Input :=
  [.estop, .powerfail, .earthBond, .overfill, .ignition, .supplyLow, .tilt, .stowed1, .stowed2, .pumpRun1, .pumpRun2,
   .calSwitch]

def Input.code (i : Input) : Nat := i.ctorIdx

/-- The line levels that a hardware reset finds. -/
def setLevels (levels : BitVec 12) (s : State) : State :=
  allInputs.foldl (fun s i => modInput i (fun x => { x with level := levels.getLsbD i.code }) s) s

/-- The debounced states taken from the line levels without waiting, which is no input event (R186). -/
def takeLevels (s : State) : State :=
  allInputs.foldl (fun s i => modInput i (fun x => { x with active := levelState x.activeLow x.level, heldAt := none }) s) s

/-- A meter after reset (Table 1-7). -/
def resetMeter (m : MeterState) : MeterState :=
  { totalPulses := m.totalPulses, totalGross := m.totalGross, params := m.params }

/-- A compartment after reset (Table 7-4). -/
def resetComp (c : Compartment) : Compartment := { c with op := .free, committed := 0 }

/-- A port after reset (R203). -/
def resetPort (_ : PortState) : PortState := { pending := Event.startup.bit, mask := 0xFFFFFF#24 }

/-- Every block's volatile state after hardware reset and RESTART, but for ITU's and for the events that start-up
raises (Tables 1-7, 2-5, 3-5, 6-7, 7-4, 8-4, 10-3; R157, R203). -/
def volatileReset (s : State) : State :=
  { s with
    mtr := { s.mtr with
      meters := ⟨resetMeter s.mtr.meters.m1, resetMeter s.mtr.meters.m2, resetMeter s.mtr.meters.mi⟩ }
    tpi := { sensors := ⟨{}, {}, {}⟩, probes := ⟨{}, {}⟩, reconciles := ⟨none, none⟩, lastReconcile := none }
    idu := { s.idu with readers := ⟨{}, {}⟩ }
    bil := { s.bil with contractors := s.bil.contractors.map fun k => { k with committed := 0 } }
    hsc := { s.hsc with
      hoses := ⟨{ state := restState s.hsc.faults.h1 }, { state := restState s.hsc.faults.h2 }⟩
      pumps := ⟨{}, {}⟩ }
    stk := { comps := ⟨resetComp s.stk.comps.c1, resetComp s.stk.comps.c2⟩ }
    rcp := { s.rcp with receipt := {} }
    cal := { on := false, results := ⟨none, none⟩ }
    prt := { ports := s.prt.ports.map resetPort } }

/-- Start-up once the inputs are taken and the latch and the clock stand as they should, in the order of R195: the
tables, the hoses, the receipt and the journal (R62, R123, R151, R173), then the CLOCK_LOST record where one is due and
the idle timer (R191, R192). -/
def startUp (clockLost : Bool) (s : State) : State :=
  let s := raiseIf (inputActive s .supplyLow) .supplyLow s
  let s := expireWatches (evalRollover s)
  let both := s.hsc.shadows.h1.opened && s.hsc.shadows.h2.opened
  let s := forHoses both startupClose s
  let s := writeAllDeferred (startupReconciles (startupReceipt s))
  let s := activatePrices s
  let s := if clockLost then recordFault .part .clockLost false none s else s
  startIdle (modItu (fun x => { x with standby := false }) s)

/-- A hardware reset (R195, R188, R191): the levels of the twelve lines, whether the clock kept time on its battery, and
the seconds it counted without supply. -/
def hardwareReset (levels : BitVec 12) (batteryKept : Bool) (downtime : Nat) (s : State) : State :=
  let s := takeLevels (setLevels levels (volatileReset s))
  let s := modItu (fun x => { x with
    latch := x.inputs.estop.active
    clock := if batteryKept then satAdd max32 x.clock downtime else 0
    clockValid := batteryKept
    mono := 0 }) s
  startUp (!batteryKept) (raiseIf s.itu.latch .estop s)

/-- The start-up of RESTART (R195). -/
def restartNow (s : State) : State := startUp false (takeLevels (volatileReset s))

end Sys2Proof.Machine
end

