-- ==== Sys2Proof/Machine/Wire.lean ====
section
/-! DEFINITION. The byte layouts the part sends (chapter 13): fields and payloads (R204, R205), response frames (Table
13-2), record images (Tables 13-5 to 13-7) and the strapping image (Table 13-9). -/

namespace Sys2Proof.Machine

/-! ## Fields and payloads -/

/-- An unsigned value in a width; the bytes of one that does not fit are free (log entry 14). -/
def natBytes (width value : Nat) : List Byte :=
  if value < 256 ^ width then bigEndian width value else (List.range width).map (Config.oversizeByte width value)

/-- A signed value in a width, in two's complement (R204). -/
def intBytes (width : Nat) (value : Int) : List Byte :=
  if -((256 ^ width : Nat) : Int) ≤ 2 * value ∧ 2 * value < ((256 ^ width : Nat) : Int) then
    bigEndian width (value % ((256 ^ width : Nat) : Int)).toNat
  else (List.range width).map (Config.oversizeByte width value)

/-- Bytes of 00 hex. -/
def zeros (n : Nat) : List Byte := List.replicate n 0

/-- The bytes of a field (R204); an absent one is sent as bytes of 00 hex. -/
def fieldBytes : Field → List Byte
  | .nat w v => natBytes w v
  | .int w v => intBytes w v
  | .optNat w (some v) => natBytes w v
  | .optNat w none => zeros w
  | .optInt w (some v) => intBytes w v
  | .optInt w none => zeros w
  | .bytes image => image
  | .optBytes _ (some image) => image
  | .optBytes w none => zeros w

/-- The presence of each optional field, in the order in which the fields stand (R205). -/
def presence : List Field → List Bool
  | [] => []
  | .optNat _ v :: rest => v.isSome :: presence rest
  | .optInt _ v :: rest => v.isSome :: presence rest
  | .optBytes _ v :: rest => v.isSome :: presence rest
  | _ :: rest => presence rest

/-- The number whose bit n is the n-th of a list. -/
def bitsValue : List Bool → Nat
  | [] => 0
  | b :: rest => boolCode b + 2 * bitsValue rest

/-- The presence field of a payload: as many bytes as its optional fields need, the first at bit 0 of the last byte
(R205). -/
def presenceBytes (fields : List Field) : List Byte :=
  let bits := presence fields
  bigEndian ((bits.length + 7) / 8) (bitsValue bits)

/-- A payload (R205). -/
def payloadBytes (fields : List Field) : List Byte := presenceBytes fields ++ fields.flatMap fieldBytes

/-- A list of repeated items, preceded by its one-byte count (R205). -/
def counted (items : List (List Field)) : List Field := .nat 1 items.length :: items.flatten

/-- A response frame (Table 13-2). -/
def responseFrame (r : Response) : List Byte :=
  let payload := payloadBytes r.payload
  let body := natBytes 2 (payload.length + 5) ++ [BitVec.ofNat 8 r.status.ctorIdx] ++ payload
  body ++ crcBytes body

/-! ## Responses -/

/-- A response without a payload. -/
def plain (st : Status) : Response := { status := st, payload := [] }

def okWith (fields : List Field) : Response := { status := .ok, payload := fields }

/-- REFUSED with its reason (Table 12-2). -/
def refusedFor (r : Reason) : Response := { status := .refused, payload := [.nat 1 r.code] }

/-- The answer to a PUT of operational settings: OK, or OK_CLAMPED with the stored values (Table 12-2). -/
def settingsAnswer (clamped : Bool) (stored : List Field) : Response :=
  if clamped then { status := .okClamped, payload := stored } else plain .ok

def yesNo (b : Bool) : Field := .nat 1 (boolCode b)

/-- A duration in ms as whole seconds; which way a part of a second goes is free (log entry 11). -/
def wholeSeconds (ms : Nat) : Nat :=
  if ms % 1000 ≠ 0 ∧ Config.partialSecondUp ms then ms / 1000 + 1 else ms / 1000

/-- The seconds left to a deadline. -/
def secondsTo (s : State) (deadline : Nat) : Nat := wholeSeconds (deadline - s.itu.mono)

/-- A fault level with its kind. -/
def faultFields (l : FaultLevel) : List Field := [.nat 1 l.code, .optNat 1 (l.kind.map (·.ctorIdx))]

/-! ## Record images -/

/-- Kind code, presence bits, flags, outcome and the bytes from offset 16 of a record's kind (Tables 13-5 to 13-7). -/
structure ImageParts where
  kind : Nat
  presence : List Bool
  flags : Nat
  outcome : Nat
  fields : List Byte
deriving DecidableEq, Repr

/-- An optional field of an image, absent as bytes of 00 hex (R204). -/
def imageNat (width : Nat) (v : Option Nat) : List Byte := fieldBytes (.optNat width v)

def imageInt (width : Nat) (v : Option Int) : List Byte := fieldBytes (.optInt width v)

def dispenseImage (d : DispenseRecord) : ImageParts :=
  let i := d.ident
  let f := d.figures
  { kind := 0
    presence := [i.isSome, (i.bind (·.template)).isSome, d.hours.isSome, d.faultKind.isSome]
    flags := flagsCode d.flags
    outcome := (d.outcome.map (·.ctorIdx)).getD 0
    fields :=
      natBytes 1 (hoseCode d.hose) ++ natBytes 1 (compCode d.comp) ++ imageNat 6 (i.map (·.machine))
        ++ imageNat 1 (i.map (·.mode.ctorIdx)) ++ imageNat 1 (i.map (·.cls.ctorIdx)) ++ imageNat 1 (i.bind (·.template))
        ++ imageNat 2 (i.map (·.operator)) ++ imageNat 1 (i.map (·.contractor)) ++ imageNat 4 d.hours
        ++ natBytes 4 d.preset ++ natBytes 1 d.limiter.ctorIdx
        ++ imageNat 4 (f.map (·.counted)) ++ imageNat 4 (f.map (·.pulsesA)) ++ imageNat 4 (f.map (·.pulsesB))
        ++ imageNat 4 (f.map (·.reverse)) ++ imageNat 4 (f.map (·.gross)) ++ imageNat 4 (f.map (·.standard))
        ++ imageInt 2 (f.map (·.meanTemp)) ++ imageNat 4 (f.map (·.ctl)) ++ imageNat 3 (i.map (·.price))
        ++ imageNat 1 (i.map (·.basis.ctorIdx)) ++ imageNat 4 (f.map (·.amount)) ++ imageNat 4 (f.map (·.residual))
        ++ imageNat 1 (f.map (·.pauseCount)) ++ imageNat 1 (d.faultKind.map (·.ctorIdx)) ++ zeros 1 }

/-- The bytes of a docket number, filled with 00 hex (R204). -/
def docketBytes (number : List Byte) : List Byte := number.take 12 ++ zeros (12 - number.length)

def receiptImage (r : ReceiptRecord) : ImageParts :=
  let f := r.figures
  { kind := 1
    presence := [(f.bind (·.variance)).isSome, r.startLevel.isSome, (f.bind (·.endLevel)).isSome]
    flags := boolCode r.varianceHigh
    outcome := (r.outcome.map (·.ctorIdx)).getD 0
    fields :=
      natBytes 1 (compCode r.comp) ++ natBytes 2 r.supplier ++ docketBytes r.docket ++ natBytes 4 r.expected
        ++ imageNat 4 (f.map (·.gross)) ++ imageNat 4 (f.map (·.standard)) ++ imageInt 2 (f.map (·.meanTemp))
        ++ imageInt 4 (f.bind (·.variance)) ++ imageNat 2 r.startLevel ++ imageNat 2 (f.bind (·.endLevel)) ++ zeros 4 }

def reconcileImage (r : ReconcileRecord) : ImageParts :=
  let f := r.figures
  { kind := 2
    presence := [f.isSome]
    flags := boolCode r.varianceHigh
    outcome := (r.outcome.map (·.ctorIdx)).getD 0
    fields :=
      natBytes 1 (compCode r.comp) ++ natBytes 1 r.mode.ctorIdx ++ imageNat 2 (f.map (·.meanLevel))
        ++ imageInt 2 (f.map (·.probeTemp)) ++ imageNat 4 (f.map (·.dipGross)) ++ imageNat 4 (f.map (·.dipStandard))
        ++ imageInt 8 (f.map (·.bookBefore)) ++ imageInt 6 (f.map (·.variance)) }

def adjustImage (a : AdjustRecord) : ImageParts :=
  { kind := 3, presence := [a.old.isSome], flags := 0, outcome := 0
    fields :=
      natBytes 1 a.param.code ++ natBytes 1 a.subject.ctorIdx ++ imageInt 8 a.old ++ intBytes 8 a.new
        ++ natBytes 1 (portCode a.origin) }

def faultImage (f : FaultRecord) : ImageParts :=
  { kind := 4, presence := [f.volume.isSome, f.repeats.isSome], flags := 0, outcome := 0
    fields :=
      natBytes 1 f.source.ctorIdx ++ natBytes 1 f.kind.ctorIdx ++ natBytes 1 (lockedCode f.locked)
        ++ imageNat 4 f.volume ++ imageNat 2 f.repeats }

def bodyImage : Body → ImageParts
  | .dispense d => dispenseImage d
  | .receipt r => receiptImage r
  | .reconcile r => reconcileImage r
  | .adjust a => adjustImage a
  | .fault f => faultImage f

/-- The image of a record (R204, Table 13-5): the common header and the fields of its kind. -/
def recordImage (r : Record) : List Byte :=
  let p := bodyImage r.body
  natBytes 4 r.seq ++ natBytes 1 p.kind ++ natBytes 1 (bitsValue p.presence + 128 * boolCode (!r.isOpen))
    ++ natBytes 1 p.flags ++ natBytes 1 p.outcome ++ natBytes 4 r.openTime ++ imageNat 4 r.closeTime ++ p.fields

/-! ## The strapping image -/

/-- The strapping image of a table (Table 13-9). -/
def strappingImage (points : List StrapPoint) : List Byte :=
  natBytes 1 points.length ++ points.flatMap fun p => natBytes 2 p.level ++ natBytes 4 p.gross

/-- The CRC-16 of a table in its image (R177). -/
def strappingCrc (points : List StrapPoint) : Nat := (crc16 (strappingImage points)).toNat

end Sys2Proof.Machine
end

