-- ==== Sys2Proof/Machine/Ports.lean ====
section
/-! DEFINITION. PRT: the requests and the ports that may make them (Table 12-1), the taking of a request (R197 to
R199), and the response queue (R196, R197). -/

namespace Sys2Proof.Machine

/-- The outcome of a command. No command faults or is refused: see `Fault` and `Refusal`. -/
abbrev Out := Host.Outcome State Fault Refusal

/-- The requests, in the order of Table 12-1, which is that of their codes from 01 hex (R206). -/
inductive ReqKind where
  | readMeter | readSensors | templatePut | templateClear | tagSettingsPut | templateRead | tagSettingsRead
  | readTagDiagnostics | machinePut | machineRemove | openSitePut | periodSettingsPut | groupRulePut
  | contractorPut | contractorSettle | machineRead | machineList | openSiteRead | periodSettingsRead
  | groupRuleRead | contractorRead | priceSet | pricePendingClear | priceRead | authoriseManual | armHose
  | disarmHose | pauseHose | resumeHose | stopHose | clearHalt | clearLock | hoseSettingsPut
  | deliverySettingsPut | hoseSettingsRead | readHose | stockSettingsPut | stockSettingsRead | readStock
  | openReceipt | closeReceipt | startReceipt | clearInletHalt | clearInletLock | reconcile | readReceipt
  | readProbes | readReconcile | strappingRead | exportRead | exportRelease | viewRecord | readJournal
  | enterCalibration | exitCalibration | calibrationWrite | strappingWrite | stockLoad | proveHose
  | applyProving | readCalibration | inputSettingsPut | restart | readInputs | readTime | idleSettingsRead
  | setTime | idleSettingsPut | enterStandby | readEvents | ackEvents | setEventMask | readStatus
deriving DecidableEq, Repr

/-- The request code (R206). -/
def requestCode (k : ReqKind) : Nat := k.ctorIdx + 1

def onlyConsole : Port → Bool
  | .console => true
  | _ => false

def onlyUplink : Port → Bool
  | .uplink => true
  | _ => false

def onlyService : Port → Bool
  | .service => true
  | _ => false

/-- Whether a request is permitted on a port (Table 12-1). -/
def permitted (k : ReqKind) (p : Port) : Bool :=
  match k with
  | .readMeter | .readSensors | .templateRead | .tagSettingsRead | .readTagDiagnostics | .priceRead
  | .clearHalt | .hoseSettingsRead | .readHose | .stockSettingsRead | .readStock | .clearInletHalt | .reconcile
  | .readReceipt | .readProbes | .readReconcile | .strappingRead | .viewRecord | .readJournal
  | .readCalibration | .readInputs | .readTime | .idleSettingsRead | .readEvents | .ackEvents | .setEventMask
  | .readStatus => true
  | .templatePut | .templateClear | .tagSettingsPut | .machinePut | .machineRemove | .openSitePut
  | .periodSettingsPut | .groupRulePut | .contractorPut | .contractorSettle | .priceSet | .pricePendingClear
  | .hoseSettingsPut | .deliverySettingsPut | .stockSettingsPut | .exportRelease | .setTime => onlyUplink p
  | .machineRead | .machineList | .openSiteRead | .periodSettingsRead | .groupRuleRead | .contractorRead
  | .stopHose | .openReceipt | .closeReceipt | .idleSettingsPut => !onlyService p
  | .exportRead => !onlyConsole p
  | .authoriseManual | .armHose | .disarmHose | .pauseHose | .resumeHose | .startReceipt | .enterStandby => onlyConsole p
  | .clearLock | .clearInletLock | .enterCalibration | .exitCalibration | .calibrationWrite | .strappingWrite
  | .stockLoad | .proveHose | .applyProving | .inputSettingsPut | .restart => onlyService p

/-! ## Taking a request -/

/-- A frame that completes while the port is not READY: a BUSY_PORT response is queued or its count rises (R197). -/
def countRefused (p : Port) (s : State) : State := modPort p (fun x => { x with refused := satAdd 255 x.refused 1 }) s

/-- The answer is placed first in the queue (R197). -/
def answer (p : Port) (r : Response) (s : State) : State :=
  modPort p (fun x => { x with phase := .answered, answer := some r }) s

/-- The idle timer's reload by a request on the console or uplink port (R192). -/
def reloadByRequest (p : Port) (s : State) : State :=
  match p with
  | .console => reloadIdle .console s
  | .uplink => reloadIdle .uplink s
  | .service => s

/-- Whether a port takes a frame that completes now (R197). -/
def portReady (s : State) (p : Port) : Bool := (s.prt.ports.get p).phase == .ready

/-- A request frame completes at a port and is taken, from check 2 of R198 on: the frame has passed the frame check,
its code is the request's, and its payload has the request's form. `owner` is the request's execution, with its
response (check 6). Any frame wakes the part (R194). -/
def takeRequest (k : ReqKind) (p : Port) (owner : State → State × Response) (s : State) : State :=
  let s := wake s
  if !portReady s p then countRefused p s
  else if powerFail s then answer p (plain .powerFail) s
  else if !permitted k p then answer p (plain .notPermitted) s
  else
    let (s, r) := owner s
    answer p r (reloadByRequest p s)

/-- A request as a command. -/
def request (k : ReqKind) (p : Port) (owner : State → State × Response) (s : State) : Out :=
  .next (takeRequest k p owner s)

/-- The execution of a request that changes no state. -/
def reads (f : State → Response) (s : State) : State × Response := (s, f s)

/-! ## The response queue -/

/-- The first response of a port's queue (Table 12-0). -/
def firstResponse (x : PortState) : Option Response :=
  match x.answer with
  | some r => some r
  | none => if x.refused = 0 then none else some { status := .busyPort, payload := [.nat 1 x.refused] }

/-- The first response leaves the queue; the port is READY when the queue is empty (R196, R197). -/
def dropFirst (x : PortState) : PortState :=
  match x.answer with
  | some _ => { x with answer := none, phase := if x.refused = 0 then .ready else x.phase }
  | none => { x with refused := 0, phase := .ready }

/-- The response-ready line of a port (R196). -/
def responseReady (x : PortState) : Bool := (firstResponse x).isSome

/-- A read transfer of `count` bytes (R196, R206). What it reads past the response's last byte is free (log
entry 15). -/
def readTransfer (p : Port) (count : Nat) (s : State) : State :=
  match firstResponse (s.prt.ports.get p) with
  | none => modPort p (fun x => { x with sent := List.replicate count 0xFF#8 }) s
  | some r =>
    let frame := responseFrame r
    let past := (List.range (count - frame.length)).map (Config.overreadByte s.fresh)
    let s := modPort p (fun x =>
      let x := { x with sent := frame.take count ++ past }
      if frame.length ≤ count then dropFirst x else x) s
    if frame.length < count then spend s else s

/-- The last byte of the service port's first response has been sent (R196). -/
def finishSending (s : State) : State :=
  match firstResponse (s.prt.ports.get .service) with
  | none => s
  | some r => modPort .service (fun x => dropFirst { x with sent := responseFrame r }) s

end Sys2Proof.Machine
end

