-- ==== Sys2Proof/Machine/CmdField.lean ====
section
/-! DEFINITION. The commands of the field lines: pulses (R4 to R6, R18), sensor and probe frames (R12, R152, R206), and
tag frames with their gaps and timers (R25, R34 to R36). -/

namespace Sys2Proof.Machine

/-- PULSE ARRIVAL (R5, R18). -/
def execPulseArrival (meter : MeterId) (channel : Channel) (otherActive : Bool) (s : State) : Out :=
  .next (pulse meter channel otherActive s)

/-- SENSOR FRAME (R12): the bytes that arrive on a sensor line. -/
def execSensorFrame (meter : MeterId) (bytes : List Byte) (s : State) : Out :=
  .next (bytes.foldl (fun s b => sensorByte meter b s) s)

/-- SENSOR TIMEOUT (R12). -/
def execSensorTimeout (meter : MeterId) (s : State) : Out := .next (ageSensor meter s)

/-- PROBE FRAME (R152): the bytes that arrive on a probe line. -/
def execProbeFrame (comp : Comp) (bytes : List Byte) (s : State) : Out :=
  .next (bytes.foldl (fun s b => probeByte comp b s) s)

/-- PROBE TIMEOUT (R152). -/
def execProbeTimeout (comp : Comp) (s : State) : Out := .next (ageProbe comp s)

/-- SENSOR FRAME GAP (R206). -/
def execSensorFrameGap (line : FieldLine) (s : State) : Out :=
  .next (match line with
    | .sensor m => sensorGap m s
    | .probe c => probeGap c s)

/-- TAG FRAME (R25, R32): the bytes that arrive on a reader line. -/
def execTagFrame (reader : Hose) (bytes : List Byte) (s : State) : Out :=
  .next (bytes.foldl (fun s b => tagByte reader b s) s)

/-- TAG FRAME TRUNCATED (R25). -/
def execTagFrameTruncated (reader : Hose) (s : State) : Out := .next (truncateFrame reader s)

/-- CANDIDATE LAPSE (R34). -/
def execCandidateLapse (reader : Hose) (s : State) : Out := .next (lapseCandidate reader s)

/-- PRESENT IDENTITY GAP (R35). -/
def execPresentIdentityGap (reader : Hose) (s : State) : Out := .next (enterGrace reader s)

/-- GRACE TIMER EXPIRY (R36). -/
def execGraceTimerExpiry (reader : Hose) (s : State) : Out := .next (loseTag reader s)

end Sys2Proof.Machine
end

