-- ==== Sys2Proof/Machine/CmdInputs.lean ====
section
/-! DEFINITION. The commands of the discrete inputs (R186 to R190, Table 11-1) and HARDWARE RESET (R195). -/

namespace Sys2Proof.Machine

/-- ESTOP ACTIVE (R188). -/
def execEstopActive (s : State) : Out := .next (changeInput .estop true s)

/-- ESTOP INACTIVE (R188). -/
def execEstopInactive (s : State) : Out := .next (changeInput .estop false s)

/-- POWERFAIL ACTIVE (R189). -/
def execPowerfailActive (s : State) : Out := .next (changeInput .powerfail true s)

/-- POWERFAIL INACTIVE (R189). -/
def execPowerfailInactive (s : State) : Out := .next (changeInput .powerfail false s)

/-- EARTH BOND INACTIVE (R144). -/
def execEarthBondInactive (s : State) : Out := .next (changeInput .earthBond false s)

/-- EARTH BOND ACTIVE (R144). -/
def execEarthBondActive (s : State) : Out := .next (changeInput .earthBond true s)

/-- OVERFILL ACTIVE (R143). -/
def execOverfillActive (s : State) : Out := .next (changeInput .overfill true s)

/-- OVERFILL INACTIVE (R143). -/
def execOverfillInactive (s : State) : Out := .next (changeInput .overfill false s)

/-- IGNITION ACTIVE (R194). -/
def execIgnitionActive (s : State) : Out := .next (changeInput .ignition true s)

/-- IGNITION INACTIVE (R190). -/
def execIgnitionInactive (s : State) : Out := .next (changeInput .ignition false s)

/-- SUPPLY LOW ACTIVE (R190). -/
def execSupplyLowActive (s : State) : Out := .next (changeInput .supplyLow true s)

/-- SUPPLY LOW INACTIVE (R190). -/
def execSupplyLowInactive (s : State) : Out := .next (changeInput .supplyLow false s)

/-- TILT ACTIVE (R155). -/
def execTiltActive (s : State) : Out := .next (changeInput .tilt true s)

/-- TILT INACTIVE (R190). -/
def execTiltInactive (s : State) : Out := .next (changeInput .tilt false s)

/-- NOZZLE STOWED (R107). -/
def execNozzleStowed (hose : Hose) (s : State) : Out := .next (changeInput (stowedInput hose) true s)

/-- NOZZLE LIFTED (R107). -/
def execNozzleLifted (hose : Hose) (s : State) : Out := .next (changeInput (stowedInput hose) false s)

/-- PUMP RUN ACTIVE (R110). -/
def execPumpRunActive (pump : Comp) (s : State) : Out := .next (changeInput (pumpInput pump) true s)

/-- PUMP RUN INACTIVE (R112). -/
def execPumpRunInactive (pump : Comp) (s : State) : Out := .next (changeInput (pumpInput pump) false s)

/-- CAL SWITCH INACTIVE (R175). -/
def execCalSwitchInactive (s : State) : Out := .next (changeInput .calSwitch false s)

/-- CAL SWITCH ACTIVE (R175). -/
def execCalSwitchActive (s : State) : Out := .next (changeInput .calSwitch true s)

/-- HARDWARE RESET (R195). -/
def execHardwareReset (levels : BitVec 12) (batteryKept : Bool) (downtime : Nat) (s : State) : Out :=
  .next (hardwareReset levels batteryKept downtime s)

end Sys2Proof.Machine
end

