-- ==== Sys2Proof/Machine/CmdSite.lean ====
section
/-! DEFINITION. The requests of chapter 11: inputs (R187), RESTART (R195), time (R191), the idle timer (R192) and ENTER
STANDBY (R193). -/

namespace Sys2Proof.Machine

/-- INPUT SETTINGS PUT's change: the settings, then, under a polarity that is new, the state taken afresh (R187). With
the polarity it had, a measurement that runs keeps its debounce, since the new one applies from the next change of line
level (DEDUCED, log entry 6). -/
def setInput (i : Input) (activeLow : Bool) (debounce : Nat) (s : State) : State :=
  let turned := (s.itu.inputs.get i).activeLow != activeLow
  let s := modInput i (fun x => { x with activeLow := activeLow, debounce := debounce }) s
  if turned then retakeInput i s else s

def reqInputSettingsPut (input polarity debounce : Nat) (s : State) : State × Response :=
  match settableInputOf input, yesNoOf polarity with
  | some i, some low =>
    let v := nearestDebounce debounce
    (setInput i low v s, settingsAnswer (v != debounce) [.nat 2 v])
  | _, _ => (s, plain .badValue)

/-- INPUT SETTINGS PUT (R187). -/
def execInputSettingsPut (port : Port) (input polarity debounce : Nat) (s : State) : Out :=
  request .inputSettingsPut port (reqInputSettingsPut input polarity debounce) s

def reqRestart (s : State) : State × Response := if partInUse s then (s, plain .busy) else (restartNow s, plain .ok)

/-- RESTART (R195). -/
def execRestart (port : Port) (s : State) : Out := request .restart port reqRestart s

def inputFields (x : InputState) : List Field :=
  [yesNo x.level, .nat 1 (activeCode x.active), .nat 1 (boolCode x.activeLow), .nat 2 x.debounce]

def reqReadInputs : State → State × Response :=
  reads fun s => okWith (allInputs.flatMap (fun i => inputFields (s.itu.inputs.get i)) ++ [yesNo s.itu.latch])

/-- READ INPUTS (R187). -/
def execReadInputs (port : Port) (s : State) : Out := request .readInputs port reqReadInputs s

def reqReadTime : State → State × Response :=
  reads fun s => okWith [.nat 4 s.itu.clock, yesNo s.itu.clockValid, .nat 2 (wholeSeconds s.itu.mono)]

/-- READ TIME (R191). -/
def execReadTime (port : Port) (s : State) : Out := request .readTime port reqReadTime s

/-- IDLE SETTINGS READ's answer (R192); with the timer STOPPED the time to the deadline is absent (DESIGN CHOICE, log
entry 16). -/
def reqIdleSettingsRead : State → State × Response :=
  reads fun s =>
    okWith [.nat 2 s.itu.idleInterval, .nat 1 s.itu.idleSources.toNat, .nat 1 (boolCode s.itu.idleDeadline.isNone),
            .optNat 2 (s.itu.idleDeadline.map (secondsTo s))]

/-- IDLE SETTINGS READ (R192). -/
def execIdleSettingsRead (port : Port) (s : State) : Out := request .idleSettingsRead port reqIdleSettingsRead s

/-- The clock-driven work that takes a new time: rollover, watches, prices (R191). -/
def clockWork (s : State) : State := activatePrices (expireWatches (evalRollover s))

def reqSetTime (time : Nat) (s : State) : State × Response :=
  if max32 < time then (s, plain .badValue)
  else
    (clockWork (modItu (fun x => { x with clock := time, clockValid := true }) s),
     okWith [.nat 4 s.itu.clock, yesNo s.itu.clockValid])

/-- SET TIME (R191). -/
def execSetTime (port : Port) (time : Nat) (s : State) : Out := request .setTime port (reqSetTime time) s

def reqIdleSettingsPut (interval sources : Nat) (s : State) : State × Response :=
  if 63 < sources then (s, plain .badValue)
  else
    let v := clampNat 1 240 interval
    (modItu (fun x => { x with idleInterval := v, idleSources := BitVec.ofNat 6 sources }) s,
     settingsAnswer (v != interval) [.nat 2 v])

/-- IDLE SETTINGS PUT (R192). -/
def execIdleSettingsPut (port : Port) (interval sources : Nat) (s : State) : Out :=
  request .idleSettingsPut port (reqIdleSettingsPut interval sources) s

def reqEnterStandby (s : State) : State × Response :=
  if partInUse s then (s, plain .busy) else (enterStandbyNow s, plain .ok)

/-- ENTER STANDBY (R193). -/
def execEnterStandby (port : Port) (s : State) : Out := request .enterStandby port reqEnterStandby s

end Sys2Proof.Machine
end

