-- ==== Sys2Proof/Machine/CmdTimers.lean ====
section
/-! DEFINITION. The commands of the timers (R98, R100, R101, R104, R108, R111, R144, R146, R192) and of the clock (R54,
R57, R67, R168, R191). An expiry is the running-out of a timer that runs; with the timer stopped there is none (log
entries 2 and 32). -/

namespace Sys2Proof.Machine

/-- A hose timer runs out in one of the states it runs in. -/
def hoseTimeout (h : Hose) (due : HoseState → Bool) (act : State → State) (s : State) : State :=
  match (hoseCtx s h).timer with
  | some d => if due (hoseCtx s h).state then act (reachTime d s) else s
  | none => s

/-- ARMED TIMEOUT (R98). -/
def execArmedTimeout (hose : Hose) (s : State) : Out := .next (hoseTimeout hose (· == .armed) (returnIdle hose) s)

/-- FIRST FLOW TIMEOUT (R100). -/
def execFirstFlowTimeout (hose : Hose) (s : State) : Out :=
  .next (hoseTimeout hose (· == .ready) (enterEnding .expired hose) s)

/-- NO FLOW TIMEOUT (R101). -/
def execNoFlowTimeout (hose : Hose) (s : State) : Out :=
  .next (hoseTimeout hose (fun st => st == .flowing || st == .slowing) (enterEnding .noFlow hose) s)

/-- The outcome when the pause limit runs out (R104). -/
def pauseOutcome (c : HoseCtx) : DispenseOutcome :=
  if (c.dispense.map fun d => d.causes.tag).getD false then .tagLost else .stopped

/-- PAUSE LIMIT (R104). -/
def execPauseLimit (hose : Hose) (s : State) : Out :=
  .next (hoseTimeout hose (· == .paused) (enterEnding (pauseOutcome (hoseCtx s hose)) hose) s)

/-- SETTLE END (R108). -/
def execSettleEnd (hose : Hose) (s : State) : Out := .next (hoseTimeout hose (· == .ending) (closeDispense hose) s)

/-- ATTEMPT TIMER EXPIRY (R111). -/
def execAttemptTimerExpiry (pump : Comp) (s : State) : Out := .next (attemptExpires pump s)

/-- The receipt's timer runs out in a state it runs in. -/
def receiptTimeout (due : ReceiptState) (act : State → State) (s : State) : State :=
  match s.rcp.receipt.timer with
  | some d => if s.rcp.receipt.state = due then act (reachTime d s) else s
  | none => s

/-- HOLD TIMER EXPIRY (R144). -/
def execHoldTimerExpiry (s : State) : Out := .next (receiptTimeout .held (enterSettling .earthLost) s)

/-- RECEIPT SETTLE END (R146). -/
def execReceiptSettleEnd (s : State) : Out := .next (receiptTimeout .settling closeSettled s)

/-- The idle timer reaches its deadline (R192). `idleStep` enqueues the expiry only once the deadline is reached and
nothing of that millisecond has moved it. -/
def expireIdle (s : State) : State :=
  match s.itu.idleDeadline with
  | some d => raise .idleExpired (modItu (fun x => { x with idleDeadline := none }) (reachTime d s))
  | none => s

/-- IDLE TIMER EXPIRY (R192). -/
def execIdleTimerExpiry (s : State) : Out := .next (expireIdle s)

/-- CLOCK TICK (R191). What the new time makes due are commands of their own (log entry 23). -/
def execClockTick (s : State) : Out := .next (modItu (fun x => { x with clock := satAdd max32 x.clock 1 }) s)

/-- ROLLOVER (R54). -/
def execRollover (s : State) : Out := .next (evalRollover s)

/-- WATCH EXPIRY (R57). -/
def execWatchExpiry (rule : Nat) (s : State) : Out := .next (expireWatch rule s)

/-- PRICE ACTIVATION (R67). A price of C1 that is due is activated before C2's (log entry 24). -/
def execPriceActivation (comp : Comp) (s : State) : Out :=
  .next (match comp with
    | .c1 => activatePrice .c1 s
    | .c2 => activatePrices s)

/-- The first HELD entry in source order is written (R168; log entry 25). -/
def writeFirstDeferred (s : State) : State :=
  match ([.h1, .h2, .inlet, .part] : List Source).find? fun src => (s.jnl.deferred.get src).isSome with
  | some src => writeDeferred src s
  | none => s

/-- DEFERRED ENTRY WRITE (R168). -/
def execDeferredEntryWrite (s : State) : Out := .next (writeFirstDeferred s)

end Sys2Proof.Machine
end

