-- ==== Sys2Proof/Machine/CmdCalibration.lean ====
section
/-! DEFINITION. The requests of chapter 10: the mode (R174, R175), the metrological writes (R176 to R178), proving runs
(R179, R183) and READ CALIBRATION (R185). -/

namespace Sys2Proof.Machine

/-! ## The mode -/

def reqEnterCalibration (s : State) : State × Response :=
  if s.cal.on then (s, plain .ok)
  else if !inputActive s .calSwitch then (s, refusedFor .switchOpen)
  else if partInUse s then (s, refusedFor .busy)
  else (raise .calibration (modCal (fun _ => { on := true, results := ⟨none, none⟩ }) s), plain .ok)

/-- ENTER CALIBRATION (R174). -/
def execEnterCalibration (port : Port) (s : State) : Out := request .enterCalibration port reqEnterCalibration s

def reqExitCalibration (s : State) : State × Response :=
  if s.cal.on then (endCalibration s, plain .ok) else (s, plain .notActive)

/-- EXIT CALIBRATION (R175). -/
def execExitCalibration (port : Port) (s : State) : Out := request .exitCalibration port reqExitCalibration s

/-! ## CALIBRATION WRITE -/

/-- A metrological write that has passed its range check: what it writes, and on what (Table 10-2). -/
inductive CalWrite where
  | meter (param : ParamId) (m : MeterId) (value : Nat)
  | map (h : Hose) (c : Comp)
  | comp (param : ParamId) (c : Comp) (value : Int)
deriving DecidableEq, Repr

/-- The range of a parameter that CALIBRATION WRITE writes (Tables 10-2, 13-8). -/
def paramRange : ParamId → Option (Int × Int)
  | .kFactor => some (10, 5000)
  | .meterFactor => some (900000, 1100000)
  | .channelWindow => some (1, 15)
  | .leakThreshold => some (1, 50)
  | .hoseMap => some (0, 1)
  | .capacity => some (1000000, 60000000)
  | .heel => some (0, 5000000)
  | .safeFill => some (800000, 980000)
  | .alpha => some (0, 2000)
  | .fallbackTemp => some (-400, 800)
  | .productCode => some (1, 15)
  | .strapping | .initialLoad | .price => none

/-- Whether a parameter has a meter as its subject. -/
def ofMeters : ParamId → Bool
  | .kFactor | .meterFactor | .channelWindow | .leakThreshold => true
  | _ => false

/-- The write that a parameter, a subject and a value name, when they pass check 2 (R176). -/
def calWriteOf (param subject : Nat) (value : Int) : Option CalWrite :=
  match paramOf param, subjectOf subject with
  | some p, some x =>
    match paramRange p with
    | some (lo, hi) =>
      if value < lo ∨ hi < value then none
      else if ofMeters p then x.meter.map fun m => .meter p m value.toNat
      else if p = .hoseMap then x.hose.map fun h => .map h (if value = 0 then .c1 else .c2)
      else x.comp.map fun c => .comp p c value
    | none => none
  | _, _ => none

def CalWrite.param : CalWrite → ParamId
  | .meter p _ _ => p
  | .map _ _ => .hoseMap
  | .comp p _ _ => p

def CalWrite.subject : CalWrite → Subject
  | .meter _ m _ => Subject.ofMeter m
  | .map .h1 _ => .h1
  | .map .h2 _ => .h2
  | .comp _ c _ => Subject.ofComp c

def CalWrite.value : CalWrite → Int
  | .meter _ _ v => v
  | .map _ c => compCode c
  | .comp _ _ v => v

def meterParam (p : ParamId) (x : MeterParams) : Nat :=
  match p with
  | .kFactor => x.kFactor
  | .meterFactor => x.meterFactor
  | .channelWindow => x.window
  | .leakThreshold => x.leakThreshold
  | _ => 0

def setMeterParam (p : ParamId) (v : Nat) (x : MeterParams) : MeterParams :=
  match p with
  | .kFactor => { x with kFactor := v }
  | .meterFactor => { x with meterFactor := v }
  | .channelWindow => { x with window := v }
  | .leakThreshold => { x with leakThreshold := v }
  | _ => x

def compParam (p : ParamId) (x : CompParams) : Int :=
  match p with
  | .capacity => x.capacity
  | .heel => x.heel
  | .safeFill => x.safeFill
  | .alpha => x.alpha
  | .fallbackTemp => x.fallback
  | _ => 0

def setCompParam (p : ParamId) (v : Int) (x : CompParams) : CompParams :=
  match p with
  | .capacity => { x with capacity := v.toNat }
  | .heel => { x with heel := v.toNat }
  | .safeFill => { x with safeFill := v.toNat }
  | .alpha => { x with alpha := v.toNat }
  | .fallbackTemp => { x with fallback := v }
  | _ => x

/-- The stored value that a write would replace (R176, step 1). -/
def storedValue (s : State) : CalWrite → Int
  | .meter p m _ => meterParam p (s.mtr.meters.get m).params
  | .map h _ => compCode (hoseComp s h)
  | .comp .productCode c _ => (priceRecord s c).product
  | .comp p c _ => compParam p (compartment s c).params

/-- The proving result of a meter becomes absent; MI never has one (R182). -/
def dropResult (m : MeterId) (s : State) : State :=
  match m with
  | .m1 => modCal (fun c => { c with results := { c.results with h1 := none } }) s
  | .m2 => modCal (fun c => { c with results := { c.results with h2 := none } }) s
  | .mi => s

/-- A new product code clears the compartment's prices (R68). -/
def setProduct (c : Comp) (code : Nat) (s : State) : State :=
  if (priceRecord s c).product = code then s
  else raise .priceChanged (modPrice c (fun _ => { product := code, current := none, pending := none }) s)

/-- Stores the value of a write, with the effects of R176. -/
def storeCal (w : CalWrite) (s : State) : State :=
  match w with
  | .meter p m v =>
    let s := modMeter m (fun x => { x with params := setMeterParam p v x.params }) s
    if p = .kFactor ∨ p = .meterFactor then dropResult m s else s
  | .map h c => modHsc (fun x => { x with map := x.map.set h c }) s
  | .comp .productCode c v => setProduct c v.toNat s
  | .comp p c v => modComp c (fun x => { x with params := setCompParam p v x.params }) s

/-- Checks 3 and 4 (R176). -/
def calBusy (s : State) : CalWrite → Option Reason
  | .comp _ c _ => if (compartment s c).op = .free then none else some .compartmentBusy
  | .map _ _ =>
    if hasDispense (hoseCtx s .h1).state || hasDispense (hoseCtx s .h2).state then some .busy else none
  | .meter _ _ _ => none

def reqCalibrationWrite (param subject : Nat) (value : Int) (s : State) : State × Response :=
  if !s.cal.on then (s, plain .notActive)
  else
    match calWriteOf param subject value with
    | none => (s, plain .badValue)
    | some w =>
      match calBusy s w with
      | some r => (s, refusedFor r)
      | none =>
        if freeSlots s.jnl = 0 then (s, refusedFor .journalFull)
        else (storeCal w (recordAdjust w.param w.subject (some (storedValue s w)) w.value .service s), plain .ok)

/-- CALIBRATION WRITE (R176). -/
def execCalibrationWrite (port : Port) (param subject : Nat) (value : Int) (s : State) : Out :=
  request .calibrationWrite port (reqCalibrationWrite param subject value) s

/-! ## STRAPPING WRITE and STOCK LOAD -/

/-- Whether both columns of a table rise strictly (R153, R177). -/
def risingPoints : List StrapPoint → Bool
  | p :: q :: rest => decide (p.level < q.level) && decide (p.gross < q.gross) && risingPoints (q :: rest)
  | _ => true

/-- Whether a table is refused (R177). -/
def badTable (points : List StrapPoint) : Bool :=
  points.length < 2 || 32 < points.length || points.any (fun p => 40000 < p.level || 99999999 < p.gross)
    || !risingPoints points

def reqStrappingWrite (comp : Nat) (points : List StrapPoint) (s : State) : State × Response :=
  if !s.cal.on then (s, plain .notActive)
  else
    match compOf comp with
    | none => (s, plain .badValue)
    | some c =>
      if badTable points then (s, plain .badValue)
      else if (compartment s c).op ≠ .free then (s, refusedFor .compartmentBusy)
      else if freeSlots s.jnl = 0 then (s, refusedFor .journalFull)
      else
        let old := strappingCrc (compartment s c).strapping
        let s := recordAdjust .strapping (Subject.ofComp c) (some old) (strappingCrc points) .service s
        (modComp c (fun x => { x with strapping := points }) s, plain .ok)

/-- STRAPPING WRITE (R177). -/
def execStrappingWrite (port : Port) (comp : Nat) (points : List (Nat × Nat)) (s : State) : Out :=
  request .strappingWrite port (reqStrappingWrite comp (points.map fun p => { level := p.1, gross := p.2 })) s

def reqStockLoad (comp value : Nat) (s : State) : State × Response :=
  if !s.cal.on then (s, plain .notActive)
  else
    match compOf comp with
    | none => (s, plain .badValue)
    | some c =>
      if 99999999 < value then (s, plain .badValue)
      else if (compartment s c).op ≠ .free then (s, refusedFor .compartmentBusy)
      else if freeSlots s.jnl = 0 then (s, refusedFor .journalFull)
      else
        let old := clampBook (bookOf (compartment s c).book)
        let s := rebase c value (recordAdjust .initialLoad (Subject.ofComp c) (some old) value .service s)
        (s, okWith [.int 8 (clampBook (bookOf (compartment s c).book))])

/-- STOCK LOAD (R178). -/
def execStockLoad (port : Port) (comp value : Nat) (s : State) : Out :=
  request .stockLoad port (reqStockLoad comp value) s

/-! ## Proving -/

/-- Checks 3 to 8 of PROVE HOSE (R179). -/
def proveRefusal (h : Hose) (s : State) : Option Reason :=
  if s.itu.latch then some .estop
  else if inputActive s .supplyLow then some .supplyLow
  else if (hoseCtx s h).state ≠ .idle then some .busy
  else if (s.hsc.pumps.get (hoseComp s h)).state = .failed then some .pumpFailed
  else if drawRefused (compartment s (hoseComp s h)).op then some .compartmentBusy
  else if freeSlots s.jnl ≤ 4 then some .journalFull
  else none

/-- The steps of an accepted PROVE HOSE (R179). -/
def proveNow (h : Hose) (target : Nat) (s : State) : State :=
  let c := hoseComp s h
  let seq := s.jnl.nextSeq
  let s := modCal (fun x => { x with results := x.results.set h none }) s
  let s := modComp c (fun x => { x with op := draw x.op }) s
  let s := reserve (.dispense
    { hose := h, comp := c, ident := none, hours := none, preset := target, limiter := .requested, flags := {} }) s
  beginDispense h
    { comp := c, granted := none, preset := target, limiter := .requested, committedVolume := 0, committedAmount := 0
      seq := seq, proving := true } s

def reqProveHose (hose target : Nat) (s : State) : State × Response :=
  if !s.cal.on then (s, plain .notActive)
  else
    match hoseOf hose with
    | none => (s, plain .badValue)
    | some h =>
      if target < 1000 ∨ 9000000 < target then (s, plain .badValue)
      else
        match proveRefusal h s with
        | some r => (s, refusedFor r)
        | none => (proveNow h target s, okWith [.nat 4 s.jnl.nextSeq])

/-- PROVE HOSE (R179). -/
def execProveHose (port : Port) (hose target : Nat) (s : State) : Out :=
  request .proveHose port (reqProveHose hose target) s

/-- The proving result of a meter; MI never has one (R183). -/
def resultOf (s : State) : MeterId → Option ProvingResult
  | .m1 => s.cal.results.h1
  | .m2 => s.cal.results.h2
  | .mi => none

/-- The factor that a can content gives (R183). -/
def newFactor (r : ProvingResult) (can : Nat) : Nat := roundNat (r.meterFactor * can) r.gross

def reqApplyProving (meter can : Nat) (s : State) : State × Response :=
  if !s.cal.on then (s, plain .notActive)
  else
    match meterOf meter with
    | none => (s, plain .badValue)
    | some m =>
      if can < 1 ∨ 99999999 < can then (s, plain .badValue)
      else
        match resultOf s m with
        | none => (s, plain .notFound)
        | some r =>
          let f := newFactor r can
          if f < 900000 ∨ 1100000 < f then (s, plain .badValue)
          else if freeSlots s.jnl = 0 then (s, refusedFor .journalFull)
          else
            let old := (s.mtr.meters.get m).params.meterFactor
            let s := recordAdjust .meterFactor (Subject.ofMeter m) (some old) f .service s
            (dropResult m (modMeter m (fun x => { x with params := { x.params with meterFactor := f } }) s),
             okWith [.nat 4 f])

/-- APPLY PROVING (R183). -/
def execApplyProving (port : Port) (meter can : Nat) (s : State) : Out :=
  request .applyProving port (reqApplyProving meter can) s

/-! ## READ CALIBRATION -/

def resultFields (r : Option ProvingResult) : List Field :=
  [.optNat 4 (r.map (·.seq)), .optNat 4 (r.map (·.gross)), .optNat 4 (r.map (·.kFactor)),
   .optNat 4 (r.map (·.meterFactor)), .optNat 1 (r.map (·.endCause.ctorIdx))]

def runFields (c : HoseCtx) : List Field :=
  let d := if inProving c then c.dispense else none
  [yesNo (inProving c), .optNat 4 (d.map (·.preset)), .optNat 4 (d.map (·.gross))]

def reqReadCalibration : State → State × Response :=
  reads fun s =>
    okWith ([yesNo s.cal.on, .nat 1 (activeCode (inputActive s .calSwitch))] ++ resultFields s.cal.results.h1
      ++ resultFields s.cal.results.h2 ++ runFields (hoseCtx s .h1) ++ runFields (hoseCtx s .h2))

/-- READ CALIBRATION (R185). -/
def execReadCalibration (port : Port) (s : State) : Out := request .readCalibration port reqReadCalibration s

end Sys2Proof.Machine
end

