-- ==== Sys2Proof/Machine/CmdEvents.lean ====
section
/-! DEFINITION. The event requests (R201) and READ STATUS (R202). -/

namespace Sys2Proof.Machine

/-- A set of event kinds in 4 bytes (section 13.4). -/
def setField (x : BitVec 24) : Field := .nat 4 x.toNat

/-- Whether a set names a kind outside Table 12-3 (R201). -/
def badKinds (kinds : Nat) : Bool := 2 ^ 24 ≤ kinds

def reqReadEvents (p : Port) : State → State × Response :=
  reads fun s => okWith [setField (s.prt.ports.get p).pending, setField (s.prt.ports.get p).mask]

/-- READ EVENTS (R201). -/
def execReadEvents (port : Port) (s : State) : Out := request .readEvents port (reqReadEvents port) s

def reqAckEvents (p : Port) (kinds : Nat) (s : State) : State × Response :=
  if badKinds kinds then (s, plain .badValue)
  else
    let s := modPort p (fun x => { x with pending := x.pending &&& ~~~(BitVec.ofNat 24 kinds) }) s
    (s, okWith [setField (s.prt.ports.get p).pending])

/-- ACK EVENTS (R201). -/
def execAckEvents (port : Port) (kinds : Nat) (s : State) : Out := request .ackEvents port (reqAckEvents port kinds) s

def reqSetEventMask (p : Port) (kinds : Nat) (s : State) : State × Response :=
  if badKinds kinds then (s, plain .badValue)
  else (modPort p (fun x => { x with mask := BitVec.ofNat 24 kinds }) s, plain .ok)

/-- SET EVENT MASK (R201). -/
def execSetEventMask (port : Port) (kinds : Nat) (s : State) : Out :=
  request .setEventMask port (reqSetEventMask port kinds) s

/-- The indices of the rules whose watch is OVERDUE (R202). -/
def overdueRules : Nat → List GroupRule → List Nat
  | _, [] => []
  | i, r :: rest => if r.watch = .overdue then i :: overdueRules (i + 1) rest else overdueRules (i + 1) rest

/-- The fields of READ STATUS (R202). -/
def statusFields (s : State) (p : Port) : List Field :=
  let hose (h : Hose) : List Field :=
    [.nat 1 (hoseCtx s h).state.ctorIdx] ++ faultFields (s.hsc.faults.get h) ++ [yesNo (inProving (hoseCtx s h))]
  let comp (c : Comp) : List Field :=
    [.nat 1 (compartment s c).op.code, .int 8 (clampBook (bookOf (compartment s c).book)),
     .nat 1 (boolCode (compartment s c).notified)]
  let input (i : Input) : Field := .nat 1 (activeCode (inputActive s i))
  [yesNo s.itu.latch, yesNo s.cal.on, yesNo s.itu.clockValid, input .supplyLow, input .calSwitch, input .tilt]
    ++ hose .h1 ++ hose .h2 ++ [.nat 1 s.rcp.receipt.state.ctorIdx] ++ faultFields s.rcp.fault ++ comp .c1 ++ comp .c2
    ++ [.nat 1 s.hsc.pumps.c1.state.code, .nat 1 s.hsc.pumps.c2.state.code, .nat 1 (freeSlots s.jnl),
        yesNo (saturated s.jnl), .nat 2 s.mtb.machines.length]
    ++ counted ((overdueRules 0 s.mtb.rules).map fun i => [.nat 1 i])
    ++ [yesNo (priceWaiting s .c1), yesNo (priceWaiting s .c2), setField (s.prt.ports.get p).pending]

def reqReadStatus (p : Port) : State → State × Response := reads fun s => okWith (statusFields s p)

/-- READ STATUS (R202). -/
def execReadStatus (port : Port) (s : State) : Out := request .readStatus port (reqReadStatus port) s

end Sys2Proof.Machine
end

