-- ==== Sys2Proof/Machine/CmdJournal.lean ====
section
/-! DEFINITION. The requests of chapter 9: EXPORT READ (R169), EXPORT RELEASE (R170), VIEW RECORD and READ JOURNAL
(R171). -/

namespace Sys2Proof.Machine

/-- A number that every request refuses (R159). -/
def badNumber (n : Nat) : Bool := n == 0 || decide (max32 < n)

/-! ## Export -/

/-- The closed records at the front of a list of records (R169). -/
def closedRun (records : List Record) : List Record := records.takeWhile fun r => !r.isOpen

/-- Where EXPORT READ begins: the ring from that record on; nothing for a number ahead of the ring (R169). -/
def exportStart (j : Jnl) : Option Nat → Option (List Record)
  | none => some j.ring
  | some n =>
    match positionOf j n with
    | .inRing i => some (j.ring.drop i)
    | .behind => some j.ring
    | .ahead => none

/-- The records EXPORT READ takes, whether a CLOSED record follows them, and the OPEN record reading stopped at
(R169). With 8 records taken reading has stopped at the count, and the number of an OPEN record that follows is not given
(DESIGN CHOICE, log entry 16). -/
def exportRun (rest : List Record) : List Record × Bool × Option Nat :=
  let taken := (closedRun rest).take 8
  match rest.drop taken.length with
  | [] => (taken, false, none)
  | r :: _ => (taken, !r.isOpen, if r.isOpen && decide (taken.length < 8) then some r.seq else none)

def reqExportRead (start : Option Nat) : State → State × Response :=
  reads fun s =>
    if (start.map badNumber).getD false then plain .badValue
    else
      match exportStart s.jnl start with
      | none => plain .notFound
      | some rest =>
        let (taken, more, stop) := exportRun rest
        okWith (counted (taken.map fun r => [.bytes (recordImage r)])
          ++ [yesNo more, .optNat 4 stop, .nat 4 (oldestNumber s.jnl), .nat 4 s.jnl.nextSeq])

/-- EXPORT READ (R169). -/
def execExportRead (port : Port) (start : Option Nat) (s : State) : Out := request .exportRead port (reqExportRead start) s

/-- The ring after the release of its first `n` records (R170). -/
def release (n : Nat) (j : Jnl) : Jnl := { j with ring := j.ring.drop n, cursor := (j.cursor + n) % 1024 }

/-- The answer to a release of `n` records: the number freed and the oldest number after it (R170). A release of a number
behind the ring, which frees none, is answered so too (DESIGN CHOICE, log entry 16). -/
def releaseAnswer (n : Nat) (j : Jnl) : Response := okWith [.nat 1 n, .nat 4 (oldestNumber j)]

def reqExportRelease (number : Nat) (s : State) : State × Response :=
  if badNumber number then (s, plain .badValue)
  else
    match positionOf s.jnl number with
    | .behind => (s, releaseAnswer 0 s.jnl)
    | .ahead => (s, plain .notFound)
    | .inRing i =>
      if (s.jnl.ring.take (i + 1)).any (·.isOpen) then (s, plain .notClosed)
      else
        let s := modJnl (release (i + 1)) s
        (activatePrices (writeAllDeferred s), releaseAnswer (i + 1) s.jnl)

/-- EXPORT RELEASE (R170, R168). -/
def execExportRelease (port : Port) (number : Nat) (s : State) : Out :=
  request .exportRelease port (reqExportRelease number) s

/-! ## Reading the journal -/

def reqViewRecord (number : Nat) : State → State × Response :=
  reads fun s =>
    if badNumber number then plain .badValue
    else
      match positionOf s.jnl number with
      | .inRing i =>
        match s.jnl.ring[i]? with
        | some r => okWith [.bytes (recordImage r)]
        | none => plain .notFound
      | _ => plain .notFound

/-- VIEW RECORD (R171). -/
def execViewRecord (port : Port) (number : Nat) (s : State) : Out := request .viewRecord port (reqViewRecord number) s

/-- The fields of a deferred fault entry (Table 9-6). -/
def deferredFields (e : Option Deferred) : List Field :=
  [yesNo e.isSome, .optNat 1 (e.map (·.kind.ctorIdx)), .optNat 1 (e.map fun e => lockedCode e.locked),
   .optNat 4 (e.bind (·.volume)), .optNat 2 (e.map (·.repeats)), .optNat 4 (e.map (·.firstTime))]

/-- The count of OPEN records (R158). -/
def openCount (j : Jnl) : Nat := j.ring.countP (·.isOpen)

/-- The count of CLOSED records (R158). -/
def closedCount (j : Jnl) : Nat := j.ring.countP (!·.isOpen)

def journalFields (j : Jnl) : List Field :=
  [.nat 1 (freeSlots j), .nat 1 (openCount j), .nat 1 (closedCount j), .nat 4 (oldestNumber j), .nat 4 j.nextSeq]
    ++ counted ((j.ring.filter (·.isOpen)).map fun r => [.nat 4 r.seq])
    ++ deferredFields j.deferred.h1 ++ deferredFields j.deferred.h2 ++ deferredFields j.deferred.inlet
    ++ deferredFields j.deferred.part ++ [yesNo (saturated j)]

def reqReadJournal : State → State × Response := reads fun s => okWith (journalFields s.jnl)

/-- READ JOURNAL (R171). -/
def execReadJournal (port : Port) (s : State) : Out := request .readJournal port reqReadJournal s

end Sys2Proof.Machine
end

