-- ==== Sys2Proof/Machine/CmdMeters.lean ====
section
/-! DEFINITION. The requests of chapter 1: READ METER (R21) and READ SENSORS (R22). -/

namespace Sys2Proof.Machine

/-- Four counts as fields, in the order of Table 1-1. -/
def countFields (c : Counts) : List Field := [.nat 4 c.aFwd, .nat 4 c.aRev, .nat 4 c.bFwd, .nat 4 c.bRev]

/-- The fields of READ METER (R21). -/
def meterFields (s : State) (m : MeterId) : List Field :=
  let x := s.mtr.meters.get m
  [.nat 1 (ownerCode m x.owned)] ++ countFields x.counts
    ++ [.nat 4 (netA x.counts), .nat 4 (netB x.counts), .nat 4 (countedPulses x.counts), .nat 4 (runningGross x),
        .nat 1 (boolCode x.disagreed)]
    ++ countFields x.leaks
    ++ [.nat 4 (leakCounter x.leaks), .nat 8 x.totalPulses, .nat 8 x.totalGross, .nat 4 x.params.kFactor,
        .nat 4 x.params.meterFactor, .nat 1 x.params.window, .nat 1 x.params.leakThreshold,
        .optNat 1 (if m = .mi then some (compCode s.mtr.inletComp) else none)]

def reqReadMeter (meter : Nat) : State → State × Response :=
  reads fun s =>
    match meterOf meter with
    | none => plain .badValue
    | some m => okWith (meterFields s m)

/-- READ METER (R21). -/
def execReadMeter (port : Port) (meter : Nat) (s : State) : Out := request .readMeter port (reqReadMeter meter) s

/-- The fields of one sensor (R22). -/
def sensorFields (now : Nat) (x : SensorState) : List Field :=
  [.optInt 2 (x.latest.map (·.value)), .nat 1 (validCode x.valid),
   .optNat 2 (x.latest.map fun r => min 65535 (now - r.time))]

/-- The current temperature of a meter, and whether it is a fallback (R22). -/
def temperatureFields (s : State) (m : MeterId) : List Field :=
  [.int 2 (currentTemp s m).1, yesNo (currentTemp s m).2]

def reqReadSensors : State → State × Response :=
  reads fun s =>
    okWith
      ([MeterId.m1, .m2, .mi].flatMap (fun m => sensorFields s.itu.mono (s.tpi.sensors.get m))
        ++ [MeterId.m1, .m2, .mi].flatMap (temperatureFields s)
        ++ [Comp.c1, .c2].map fun c => .int 2 (compartment s c).params.fallback)

/-- READ SENSORS (R22). -/
def execReadSensors (port : Port) (s : State) : Out := request .readSensors port reqReadSensors s

end Sys2Proof.Machine
end

