-- ==== Sys2Proof/Machine/CmdPrices.lean ====
section
/-! DEFINITION. The requests of chapter 4: PRICE SET (R64, R65), PRICE PENDING CLEAR (R66) and PRICE READ (R74). -/

namespace Sys2Proof.Machine

/-- A price that takes effect at once (R64). -/
def setPriceNow (c : Comp) (price : Nat) (s : State) : State × Response :=
  if freeSlots s.jnl = 0 then (s, refusedFor .journalFull)
  else
    let old := (priceRecord s c).current
    let s := recordAdjust .price (Subject.ofComp c) (old.map Int.ofNat) price .uplink s
    (raise .priceChanged (modPrice c (fun r => { r with current := some price }) s), plain .ok)

/-- A price that waits for its effective time (R65). -/
def setPending (c : Comp) (price effective : Nat) (s : State) : State × Response :=
  (modPrice c (fun r => { r with pending := some { price := price, effective := effective, origin := .uplink } }) s,
   plain .ok)

def reqPriceSet (comp product price : Nat) (effective : Option Nat) (s : State) : State × Response :=
  match compOf comp with
  | none => (s, plain .badValue)
  | some c =>
    if product < 1 ∨ 15 < product ∨ 99999 < price then (s, plain .badValue)
    else if product ≠ (priceRecord s c).product then (s, refusedFor .wrongProduct)
    else
      match effective with
      | none => setPriceNow c price s
      | some t =>
        if !s.itu.clockValid then (s, refusedFor .timeInvalid)
        else if s.itu.clock < t then setPending c price t s
        else setPriceNow c price s

/-- PRICE SET (R64, R65). -/
def execPriceSet (port : Port) (comp product price : Nat) (effective : Option Nat) (s : State) : Out :=
  request .priceSet port (reqPriceSet comp product price effective) s

def reqPricePendingClear (comp : Nat) (s : State) : State × Response :=
  match compOf comp with
  | none => (s, plain .badValue)
  | some c =>
    if (priceRecord s c).pending.isNone then (s, plain .notFound)
    else (modPrice c (fun r => { r with pending := none }) s, plain .ok)

/-- PRICE PENDING CLEAR (R66). -/
def execPricePendingClear (port : Port) (comp : Nat) (s : State) : Out :=
  request .pricePendingClear port (reqPricePendingClear comp) s

def priceFields (s : State) (c : Comp) : List Field :=
  let r := priceRecord s c
  [.nat 1 r.product, .optNat 3 r.current, .optNat 3 (r.pending.map (·.price)), .optNat 4 (r.pending.map (·.effective)),
   .optNat 1 (r.pending.map fun p => portCode p.origin), yesNo (priceWaiting s c)]

def reqPriceRead : State → State × Response := reads fun s => okWith (priceFields s .c1 ++ priceFields s .c2)

/-- PRICE READ (R74). -/
def execPriceRead (port : Port) (s : State) : Out := request .priceRead port reqPriceRead s

end Sys2Proof.Machine
end

