-- ==== Sys2Proof/Machine/CmdHoses.lean ====
section
/-! DEFINITION. The requests of chapters 5 and 6: AUTHORISE MANUAL (R90), ARM HOSE (R97), DISARM HOSE (R98), PAUSE and
RESUME HOSE (R105), STOP HOSE (R106), the clears (R118), the parameters (R121) and READ HOSE (R122). -/

namespace Sys2Proof.Machine

/-- Runs a request that names a hose; any other value is refused BAD_VALUE. -/
def withHose (hose : Nat) (f : Hose → State → State × Response) (s : State) : State × Response :=
  match hoseOf hose with
  | some h => f h s
  | none => (s, plain .badValue)

/-! ## AUTHORISE MANUAL -/

/-- The answer to an AUTHORISE MANUAL that is taken (R90). -/
def manualAnswer : Except Reason (Nat × Nat × Limiter) → Response
  | .error r => refusedFor r
  | .ok (seq, preset, limiter) => okWith [.nat 4 seq, .nat 4 preset, .nat 1 limiter.ctorIdx]

def reqAuthoriseManual (hose number : Nat) (hours : Option Nat) : State → State × Response :=
  withHose hose fun h s =>
    if number = 0 ∨ maxMachine < number ∨ (hours.map fun n => decide (9999999 < n)).getD false then (s, plain .badValue)
    else
      match (hoseCtx s h).state with
      | .idle | .halted | .locked => (s, plain .notActive)
      | .priming | .ready | .flowing | .slowing | .paused | .ending => (s, plain .busy)
      | .armed =>
        let (s, outcome) := authorise h { machine := number, mode := .manual, template := none, hours := hours } s
        (s, manualAnswer outcome)

/-- AUTHORISE MANUAL (R90). -/
def execAuthoriseManual (port : Port) (hose number : Nat) (hours : Option Nat) (s : State) : Out :=
  request .authoriseManual port (reqAuthoriseManual hose number hours) s

/-! ## Arming -/

/-- The steps of an accepted ARM HOSE (R97). -/
def armNow (h : Hose) (operator : Nat) (preset : Option Nat) (s : State) : State :=
  let s := modHose h (fun c => { c with operator := some operator, requested := preset }) s
  enterState h .armed (startTimer h ((s.hsc.params.get h).armed * 1000) s)

def reqArmHose (hose operator : Nat) (preset : Option Nat) : State → State × Response :=
  withHose hose fun h s =>
    if 65535 < operator ∨ badCapacity preset then (s, plain .badValue)
    else
      match commonRefusal s with
      | some r => (s, refusedFor r)
      | none =>
        if (hoseCtx s h).state ≠ .idle then (s, refusedFor .busy)
        else (armNow h operator preset s, plain .ok)

/-- ARM HOSE (R97). -/
def execArmHose (port : Port) (hose operator : Nat) (preset : Option Nat) (s : State) : Out :=
  request .armHose port (reqArmHose hose operator preset) s

def reqDisarmHose (hose : Nat) : State → State × Response :=
  withHose hose fun h s =>
    match (hoseCtx s h).state with
    | .armed => (returnIdle h s, plain .ok)
    | .priming | .ready | .flowing | .slowing | .paused | .ending => (s, plain .busy)
    | .idle | .halted | .locked => (s, plain .notActive)

/-- DISARM HOSE (R98). -/
def execDisarmHose (port : Port) (hose : Nat) (s : State) : Out := request .disarmHose port (reqDisarmHose hose) s

/-! ## Pause, resume, stop -/

def reqPauseHose (hose : Nat) : State → State × Response :=
  withHose hose fun h s =>
    match (hoseCtx s h).state with
    | .flowing | .slowing | .paused => (addCause (fun c => { c with operator := true }) h s, plain .ok)
    | _ => (s, plain .notActive)

/-- PAUSE HOSE (R105). -/
def execPauseHose (port : Port) (hose : Nat) (s : State) : Out := request .pauseHose port (reqPauseHose hose) s

/-- Whether a hose is PAUSED with OPERATOR in its cause set (R105). -/
def operatorPaused (c : HoseCtx) : Bool :=
  c.state == .paused && (c.dispense.map fun d => d.causes.operator).getD false

def reqResumeHose (hose : Nat) : State → State × Response :=
  withHose hose fun h s =>
    if operatorPaused (hoseCtx s h) then (removeCause (fun c => { c with operator := false }) h s, plain .ok)
    else (s, plain .notActive)

/-- RESUME HOSE (R105). -/
def execResumeHose (port : Port) (hose : Nat) (s : State) : Out := request .resumeHose port (reqResumeHose hose) s

/-- The stop of a hose in PRIMING to PAUSED; from the uplink it sets REMOTE_STOP (R106). -/
def stopFlow (remote : Bool) (h : Hose) (s : State) : State :=
  enterEnding .stopped h
    (if remote then modDispense h (fun d => { d with flags := { d.flags with remoteStop := true } }) s else s)

def reqStopHose (p : Port) (hose : Nat) : State → State × Response :=
  withHose hose fun h s =>
    match (hoseCtx s h).state with
    | .armed => (returnIdle h s, plain .ok)
    | .priming | .ready | .flowing | .slowing | .paused => (stopFlow (onlyUplink p) h s, plain .ok)
    | .ending => (s, plain .ok)
    | .idle | .halted | .locked => (s, plain .notActive)

/-- STOP HOSE (R106). -/
def execStopHose (port : Port) (hose : Nat) (s : State) : Out := request .stopHose port (reqStopHose port hose) s

/-! ## Clears -/

/-- Whether a fault kind is soft (Tables 6-5, 8-3). -/
def softKind : FaultKind → Bool
  | .pumpStart | .sensor => true
  | .channel | .overrun | .leak | .clockLost => false

/-- Whether the class of a level's kind keeps a clear off a port (R118, R149). -/
def classForbids (p : Port) (l : FaultLevel) : Bool :=
  match p, l.kind with
  | .service, _ => false
  | _, some k => !softKind k
  | _, none => false

/-- A cleared hose enters IDLE, and a FAILED pump of its compartment returns to STOPPED (R118, R111). -/
def clearHose (h : Hose) (s : State) : State :=
  let s := modPump (hoseComp s h) (fun p => if p.state = .failed then { p with state := .stopped } else p) s
  enterState h .idle (setFault h .clear s)

def reqClearHalt (p : Port) (hose : Nat) : State → State × Response :=
  withHose hose fun h s =>
    let forbidden := classForbids p (s.hsc.faults.get h)
    if (hoseCtx s h).state ≠ .halted then (s, plain .notActive)
    else if forbidden then (s, plain .notPermitted)
    else (clearHose h s, plain .ok)

/-- CLEAR HALT (R118). -/
def execClearHalt (port : Port) (hose : Nat) (s : State) : Out := request .clearHalt port (reqClearHalt port hose) s

def reqClearLock (hose : Nat) : State → State × Response :=
  withHose hose fun h s =>
    if (hoseCtx s h).state = .locked then (clearHose h s, plain .ok) else (s, plain .notActive)

/-- CLEAR LOCK (R118). -/
def execClearLock (port : Port) (hose : Nat) (s : State) : Out := request .clearLock port (reqClearLock hose) s

/-! ## Parameters -/

/-- Hose parameters brought into their ranges (Table 6-6). -/
def clampParams (x : HoseParams) : HoseParams :=
  { armed := clampNat 30 600 x.armed, firstFlow := clampNat 10 300 x.firstFlow, noFlow := clampNat 5 255 x.noFlow
    grace := clampNat 1 10 x.grace, pauseLimit := clampNat 10 300 x.pauseLimit
    slowDown := clampNat 0 20000 x.slowDown, hoseMax := clampNat 100000 9000000 x.hoseMax
    overrun := clampNat 500 20000 x.overrun }

def paramFields (x : HoseParams) : List Field :=
  [.nat 2 x.armed, .nat 2 x.firstFlow, .nat 2 x.noFlow, .nat 2 x.grace, .nat 2 x.pauseLimit, .nat 4 x.slowDown,
   .nat 4 x.hoseMax, .nat 4 x.overrun]

def reqHoseSettingsPut (hose : Nat) (x : HoseParams) : State → State × Response :=
  withHose hose fun h s =>
    (modHsc (fun y => { y with params := y.params.set h (clampParams x) }) s,
     settingsAnswer (clampParams x != x) (paramFields (clampParams x)))

/-- HOSE SETTINGS PUT (R121). -/
def execHoseSettingsPut (port : Port) (hose armed firstFlow noFlow grace pauseLimit slowDown hoseMax overrun : Nat)
    (s : State) : Out :=
  request .hoseSettingsPut port
    (reqHoseSettingsPut hose
      { armed := armed, firstFlow := firstFlow, noFlow := noFlow, grace := grace, pauseLimit := pauseLimit
        slowDown := slowDown, hoseMax := hoseMax, overrun := overrun }) s

def reqDeliverySettingsPut (minDelivery retries : Nat) (s : State) : State × Response :=
  let m := clampNat 0 20000 minDelivery
  let r := clampNat 0 3 retries
  (modHsc (fun y => { y with minDelivery := m, retries := r }) s,
   settingsAnswer (m != minDelivery || r != retries) [.nat 4 m, .nat 1 r])

/-- DELIVERY SETTINGS PUT (R121). -/
def execDeliverySettingsPut (port : Port) (minDelivery retries : Nat) (s : State) : Out :=
  request .deliverySettingsPut port (reqDeliverySettingsPut minDelivery retries) s

def reqHoseSettingsRead : State → State × Response :=
  reads fun s =>
    okWith (paramFields s.hsc.params.h1 ++ paramFields s.hsc.params.h2 ++ [.nat 4 s.hsc.minDelivery, .nat 1 s.hsc.retries])

/-- HOSE SETTINGS READ (R121). -/
def execHoseSettingsRead (port : Port) (s : State) : Out := request .hoseSettingsRead port reqHoseSettingsRead s

/-! ## READ HOSE -/

/-- The fields held from the grant to the close (R122). -/
def dispenseFields (d : Option Dispense) : List Field :=
  let g := d.bind (·.granted)
  [.optNat 6 (g.map (·.machine)), .optNat 1 (g.map (·.mode.ctorIdx)), .optNat 1 (g.map (·.cls.ctorIdx)),
   .optNat 1 (g.bind (·.template)), .optNat 4 (g.bind (·.hours)), .optNat 4 (d.map (·.preset)),
   .optNat 1 (d.map (·.limiter.ctorIdx)), .optNat 4 (d.map (·.seq)), .optNat 4 (d.map (·.counted)),
   .optNat 4 (d.map (·.gross)), .optNat 1 (d.map fun d => causesCode d.causes), .optNat 1 (d.map (·.pauseCount)),
   .optNat 1 (d.map fun d => flagsCode d.flags)]

def noteFields (n : Option RefusalNote) : List Field :=
  [.optNat 1 (n.map (·.reason.code)), .optNat 6 (n.map (·.machine)), .optNat 1 (n.map (·.mode.ctorIdx)),
   .optNat 4 (n.map (·.time))]

def pumpFields (p : Pump) : List Field :=
  [.nat 1 p.state.code, .nat 1 (hoseSetCode p.demand), .optNat 1 p.state.retries, yesNo p.lastStartFailed]

/-- The fields of READ HOSE (R122). -/
def hoseFields (s : State) (h : Hose) : List Field :=
  let c := hoseCtx s h
  let used {α : Type} (v : Option α) : Option α := if inUse c.state then v else none
  [.nat 1 c.state.ctorIdx] ++ faultFields (s.hsc.faults.get h)
    ++ [.nat 1 (compCode (hoseComp s h)), .optNat 2 (c.timer.map (secondsTo s)), .optNat 2 (used c.operator),
        .optNat 4 (used c.requested)]
    ++ dispenseFields c.dispense
    ++ [.optNat 1 (if c.state = .ending then (c.dispense.bind (·.outcome)).map (·.ctorIdx) else none)]
    ++ noteFields c.note ++ pumpFields (s.hsc.pumps.get (hoseComp s h))

def reqReadHose (hose : Nat) : State → State × Response := withHose hose fun h => reads fun s => okWith (hoseFields s h)

/-- READ HOSE (R122). -/
def execReadHose (port : Port) (hose : Nat) (s : State) : Out := request .readHose port (reqReadHose hose) s

end Sys2Proof.Machine
end

