-- ==== Sys2Proof/Machine/CmdReceipts.lean ====
section
/-! DEFINITION. The requests of chapter 8: OPEN, START and CLOSE RECEIPT (R141, R142, R145), the inlet clears (R149),
RECONCILE (R154) and the four reads (R157). -/

namespace Sys2Proof.Machine

/-! ## The receipt -/

/-- Whether a docket number is refused (R141). -/
def badDocket (number : List Byte) : Bool :=
  number.isEmpty || 12 < number.length || number.any fun b => b.toNat < 0x20 || 0x7E < b.toNat

/-- The steps of an accepted OPEN RECEIPT (R141). -/
def openReceiptNow (c : Comp) (supplier : Nat) (number : List Byte) (expected : Nat) (s : State) : State :=
  let seq := s.jnl.nextSeq
  let s := modComp c (fun x => { x with op := .receiving }) s
  let s := reserve (.receipt { comp := c, supplier := supplier, docket := number, expected := expected }) s
  let s := modMtr (fun m => { m with inletComp := c }) s
  let s := modReceipt (fun r => { r with
    docket := some { comp := c, supplier := supplier, number := number, expected := expected, seq := seq } }) s
  enterReceipt .docketed (saveReceiptShadow false s)

def reqOpenReceipt (comp supplier : Nat) (number : List Byte) (expected : Nat) (s : State) : State × Response :=
  match compOf comp with
  | none => (s, plain .badValue)
  | some c =>
    if 65535 < supplier ∨ badDocket number ∨ expected = 0 ∨ 99999999 < expected then (s, plain .badValue)
    else if s.itu.latch then (s, refusedFor .estop)
    else if s.cal.on then (s, refusedFor .calibration)
    else if s.rcp.receipt.state ≠ .idle then (s, refusedFor .busy)
    else if s.rcp.fault.code ≠ 0 then (s, refusedFor .inletFault)
    else if (compartment s c).op ≠ .free then (s, refusedFor .compartmentBusy)
    else if freeSlots s.jnl ≤ 4 then (s, refusedFor .journalFull)
    else (openReceiptNow c supplier number expected s, okWith [.nat 4 s.jnl.nextSeq])

/-- OPEN RECEIPT (R141). -/
def execOpenReceipt (port : Port) (comp supplier : Nat) (docket : List Byte) (expected : Nat) (s : State) : Out :=
  request .openReceipt port (reqOpenReceipt comp supplier docket expected) s

/-- The start source, level and gross of a receipt (R142). -/
def startPoint (c : Comp) (s : State) : StartSource × Option Nat × Nat :=
  let k := compartment s c
  let p := s.tpi.probes.get c
  match p.valid && !inputActive s .tilt, p.latest with
  | true, some r => (.probe, some r.level, (strapVolume k.strapping r.level).1)
  | _, _ => (.book, none, grossFigure (bookOf k.book).toNat (ctlOf k.params.alpha k.params.fallback))

/-- The receipt limit of a start gross; 0 where it would be 0 or less (R142). -/
def receiptLimit (k : Compartment) (startGross : Nat) : Nat :=
  k.params.capacity * k.params.safeFill / 1000000 - startGross

/-- The steps of an accepted START RECEIPT (R142). -/
def startReceiptNow (d : Docket) (x : Started) (s : State) : State :=
  let s := modMeter .mi takeOwnership s
  let s := amendRecord d.seq (fun b =>
    match b with
    | .receipt r => .receipt { r with startLevel := x.startLevel }
    | b => b) s
  enterReceipt .receiving
    (modReceipt (fun r => { r with started := some x, counted := 0, gross := 0, sampling := {}, tempFallback := false }) s)

def reqStartReceipt (s : State) : State × Response :=
  match s.rcp.receipt.state, s.rcp.receipt.docket with
  | .idle, _ => (s, plain .notActive)
  | .receiving, _ | .held, _ | .settling, _ => (s, plain .busy)
  | .docketed, none => (s, plain .notActive)
  | .docketed, some d =>
    if s.itu.latch then (s, refusedFor .estop)
    else if s.rcp.fault.code ≠ 0 then (s, refusedFor .inletFault)
    else if !inputActive s .earthBond then (s, refusedFor .earthRequired)
    else if inputActive s .overfill then (s, refusedFor .overfill)
    else
      let (source, level, gross) := startPoint d.comp s
      let limit := receiptLimit (compartment s d.comp) gross
      if limit = 0 then (s, refusedFor .noUllage)
      else
        (startReceiptNow d { source := source, startLevel := level, startGross := gross, limit := limit } s,
         okWith [.nat 1 source.ctorIdx, .nat 4 gross, .nat 4 limit])

/-- START RECEIPT (R142). -/
def execStartReceipt (port : Port) (s : State) : Out := request .startReceipt port reqStartReceipt s

def reqCloseReceipt (s : State) : State × Response :=
  match s.rcp.receipt.state with
  | .idle => (s, plain .notActive)
  | .docketed => (closeReceiptNow .abandoned s, plain .ok)
  | .receiving | .held => (enterSettling .complete s, plain .ok)
  | .settling => (s, plain .ok)

/-- CLOSE RECEIPT (R145). -/
def execCloseReceipt (port : Port) (s : State) : Out := request .closeReceipt port reqCloseReceipt s

/-! ## The inlet fault level -/

def clearInlet (s : State) : State := modRcp (fun x => { x with fault := .clear }) s

/-- The answer to a CLEAR INLET HALT that the class keeps off its port and that the receipt turns away as well: which
of NOT_PERMITTED and BUSY it gets is open (log entry 10). -/
def classOrBusy (s : State) : State × Response :=
  (spend s, plain (if Config.classFirst s.fresh then .notPermitted else .busy))

/-- CLEAR INLET HALT (R149): a level other than HALTED first, then the receipt and the class. -/
def reqClearInletHalt (p : Port) (s : State) : State × Response :=
  let forbidden := classForbids p s.rcp.fault
  match s.rcp.fault, s.rcp.receipt.state with
  | .halted _, .idle | .halted _, .docketed =>
    if forbidden then (s, plain .notPermitted) else (clearInlet s, plain .ok)
  | .halted _, _ => if forbidden then classOrBusy s else (s, plain .busy)
  | _, _ => (s, plain .notActive)

/-- CLEAR INLET HALT (R149). -/
def execClearInletHalt (port : Port) (s : State) : Out := request .clearInletHalt port (reqClearInletHalt port) s

def reqClearInletLock (s : State) : State × Response :=
  match s.rcp.fault with
  | .locked _ => (clearInlet s, plain .ok)
  | _ => (s, plain .notActive)

/-- CLEAR INLET LOCK (R149). -/
def execClearInletLock (port : Port) (s : State) : Out := request .clearInletLock port reqClearInletLock s

/-! ## RECONCILE -/

/-- The steps of an accepted RECONCILE (R154). -/
def startReconcile (c : Comp) (mode : ReconcileMode) (s : State) : State :=
  let seq := s.jnl.nextSeq
  let s := modComp c (fun x => { x with op := .reconciling }) s
  let s := reserve (.reconcile { comp := c, mode := mode }) s
  modTpi (fun t => { t with
    reconciles := t.reconciles.set c (some { mode := mode, seq := seq, readings := 0, levelSum := 0, tempSum := 0 }) }) s

def reqReconcile (p : Port) (comp mode : Nat) (s : State) : State × Response :=
  match compOf comp, reconcileModeOf mode with
  | some c, some md =>
    if md = .set ∧ onlyConsole p then (s, plain .notPermitted)
    else if (compartment s c).op ≠ .free then (s, refusedFor .compartmentBusy)
    else if !(s.tpi.probes.get c).valid then (s, refusedFor .probeFault)
    else if inputActive s .tilt then (s, refusedFor .tilted)
    else if freeSlots s.jnl = 0 then (s, refusedFor .journalFull)
    else (startReconcile c md s, okWith [.nat 4 s.jnl.nextSeq])
  | _, _ => (s, plain .badValue)

/-- RECONCILE (R154). -/
def execReconcile (port : Port) (comp mode : Nat) (s : State) : Out := request .reconcile port (reqReconcile port comp mode) s

/-! ## The reads -/

def inputField (s : State) (i : Input) : Field := .nat 1 (activeCode (inputActive s i))

/-- The fields of READ RECEIPT (R157). In IDLE the fields of the docket are absent, and until START the figures of the
transaction (counted pulses, temperature sum, sample count, threshold, start source, level and gross, limit and running
gross); limit and running gross stand once, after the start gross, and the timer, the outcome and the fault level once,
after these (DESIGN CHOICE, log entry 16). -/
def receiptFields (s : State) : List Field :=
  let r := s.rcp.receipt
  let started {α : Type} (v : α) : Option α := r.started.map fun _ => v
  [.nat 1 r.state.ctorIdx, .optNat 1 (r.docket.map fun d => compCode d.comp), .optNat 2 (r.docket.map (·.supplier)),
   .optBytes 12 (r.docket.map fun d => docketBytes d.number), .optNat 4 (r.docket.map (·.expected)),
   .optNat 4 (r.docket.map (·.seq)), .optNat 4 (started r.counted), .optInt 8 (started r.sampling.sum),
   .optNat 1 (started r.sampling.n), .optNat 4 (started r.sampling.threshold),
   .optNat 1 (r.started.map (·.source.ctorIdx)), .optNat 2 (r.started.bind (·.startLevel)),
   .optNat 4 (r.started.map (·.startGross)), .optNat 4 (r.started.map (·.limit)), .optNat 4 (started r.gross),
   .optNat 2 (r.timer.map (secondsTo s)),
   .optNat 1 (if r.state = .settling then r.outcome.map (·.ctorIdx) else none)]
    ++ faultFields s.rcp.fault ++ [inputField s .earthBond, inputField s .overfill]

def reqReadReceipt : State → State × Response := reads fun s => okWith (receiptFields s)

/-- READ RECEIPT (R157). -/
def execReadReceipt (port : Port) (s : State) : Out := request .readReceipt port reqReadReceipt s

/-- The fields of READ PROBES for one compartment (R157). -/
def probeFields (s : State) (c : Comp) : List Field :=
  let p := s.tpi.probes.get c
  let v := p.latest.map fun r => strapVolume (compartment s c).strapping r.level
  [.optNat 2 (p.latest.map (·.level)), .optInt 2 (p.latest.map (·.temp)), .nat 1 (validCode p.valid),
   .optNat 4 (v.map (·.1)), .optNat 1 (v.map fun v => boolCode v.2)]

/-- READ PROBES' answer (R157); TILT stands once, after both compartments (DESIGN CHOICE, log entry 16). -/
def reqReadProbes : State → State × Response :=
  reads fun s => okWith (probeFields s .c1 ++ probeFields s .c2 ++ [inputField s .tilt])

/-- READ PROBES (R157). -/
def execReadProbes (port : Port) (s : State) : Out := request .readProbes port reqReadProbes s

/-- The running reconcile that READ RECONCILE gives; of two that run, which one is open (log entry 22). -/
def reportedReconcile (s : State) : Option (Comp × ReconcileCtx) :=
  match s.tpi.reconciles.c1, s.tpi.reconciles.c2 with
  | some a, some b => if Config.reportsSecondReconcile s.fresh then some (.c2, b) else some (.c1, a)
  | some a, none => some (.c1, a)
  | none, some b => some (.c2, b)
  | none, none => none

/-- The fields of READ RECONCILE (R157). -/
def reconcileFields (s : State) : List Field :=
  let k := reportedReconcile s
  let r := s.tpi.lastReconcile
  [.optNat 1 (k.map fun k => compCode k.1), .optNat 1 (k.map (·.2.mode.ctorIdx)), .optNat 4 (k.map (·.2.seq)),
   .optNat 1 (k.map (·.2.readings)), .optNat 2 (r.map (·.figures.meanLevel)), .optInt 2 (r.map (·.figures.probeTemp)),
   .optNat 4 (r.map (·.figures.dipGross)), .optNat 4 (r.map (·.ctlProbe)), .optNat 4 (r.map (·.figures.dipStandard)),
   .optInt 8 (r.map (·.figures.bookBefore)), .optInt 6 (r.map (·.figures.variance)),
   .optNat 1 (r.map fun r => compCode r.comp), .optNat 1 (r.map (·.mode.ctorIdx)), .optNat 1 (r.map (·.outcome.ctorIdx)),
   .optNat 1 (r.map fun r => boolCode r.above)]

def reqReadReconcile (s : State) : State × Response :=
  let both := s.tpi.reconciles.c1.isSome && s.tpi.reconciles.c2.isSome
  (if both then spend s else s, okWith (reconcileFields s))

/-- READ RECONCILE (R157). -/
def execReadReconcile (port : Port) (s : State) : Out := request .readReconcile port reqReadReconcile s

def reqStrappingRead (comp : Nat) : State → State × Response :=
  reads fun s =>
    match compOf comp with
    | none => plain .badValue
    | some c => okWith [.bytes (strappingImage (compartment s c).strapping)]

/-- STRAPPING READ (R157). -/
def execStrappingRead (port : Port) (comp : Nat) (s : State) : Out := request .strappingRead port (reqStrappingRead comp) s

end Sys2Proof.Machine
end

