-- ==== Sys2Proof/Machine/CmdStock.lean ====
section
/-! DEFINITION. The requests of chapter 7: STOCK SETTINGS PUT and READ (R127) and READ STOCK (R137). -/

namespace Sys2Proof.Machine

/-- Stock settings brought into their ranges (Table 7-3). -/
def clampStock (x : StockSettings) : StockSettings :=
  { level := clampNat 0 99999999 x.level, hysteresis := clampNat 0 10000000 x.hysteresis
    tolerance := clampNat 0 1000000 x.tolerance }

def stockFields (x : StockSettings) : List Field := [.nat 4 x.level, .nat 4 x.hysteresis, .nat 4 x.tolerance]

def reqStockSettingsPut (comp : Nat) (x : StockSettings) (s : State) : State × Response :=
  match compOf comp with
  | none => (s, plain .badValue)
  | some c =>
    (modComp c (fun y => { y with settings := clampStock x }) s,
     settingsAnswer (clampStock x != x) (stockFields (clampStock x)))

/-- STOCK SETTINGS PUT (R127). -/
def execStockSettingsPut (port : Port) (comp level hysteresis tolerance : Nat) (s : State) : Out :=
  request .stockSettingsPut port
    (reqStockSettingsPut comp { level := level, hysteresis := hysteresis, tolerance := tolerance }) s

def reqStockSettingsRead : State → State × Response :=
  reads fun s => okWith (stockFields s.stk.comps.c1.settings ++ stockFields s.stk.comps.c2.settings)

/-- STOCK SETTINGS READ (R127). -/
def execStockSettingsRead (port : Port) (s : State) : Out := request .stockSettingsRead port reqStockSettingsRead s

/-- The hoses mapped to a compartment (R137). -/
def mappedHoses (s : State) (c : Comp) : PerHose Bool := ⟨s.hsc.map.h1 == c, s.hsc.map.h2 == c⟩

/-- The fields of READ STOCK for one compartment (R137). -/
def compFields (s : State) (c : Comp) : List Field :=
  let k := compartment s c
  [.int 8 (clampBook (bookOf k.book)), .nat 8 k.book.base, .nat 8 k.book.receipts, .nat 8 k.book.dispensed,
   .int 8 k.book.losses, .optNat 4 k.book.baseTime, .nat 1 (boolCode k.notified), .nat 1 k.op.code,
   .optNat 1 k.op.count, .nat 4 k.committed, .nat 4 (availableOf k), .nat 4 k.params.capacity, .nat 4 k.params.heel,
   .nat 4 k.params.safeFill, .nat 4 k.params.alpha, .int 2 k.params.fallback]
    ++ stockFields k.settings ++ [.nat 1 (hoseSetCode (mappedHoses s c))]

def reqReadStock : State → State × Response := reads fun s => okWith (compFields s .c1 ++ compFields s .c2)

/-- READ STOCK (R137). -/
def execReadStock (port : Port) (s : State) : Out := request .readStock port reqReadStock s

end Sys2Proof.Machine
end

