-- ==== Sys2Proof/Machine/CmdTables.lean ====
section
/-! DEFINITION. The requests of chapter 3: machines (R44 to R47), open site (R52), periods (R53), group rules (R55) and
contractors (R59 to R61). -/

namespace Sys2Proof.Machine

/-! ## Machines -/

/-- The status of a MACHINE PUT; REMOVING is refused before (R44). -/
def putStatusOf : Nat → Option MachineStatus
  | 0 => some .active
  | 1 => some .barred
  | _ => none

/-- The fields of a MACHINE PUT as sent (R44). -/
structure MachineFields where
  number : Nat
  status : Nat
  contractor : Nat
  comps : Nat
  capacity : PerComp (Option Nat)
  allowance : PerComp (Option Nat)
  manual : Nat
  tagRequired : Nat
deriving DecidableEq, Repr

/-- The entry a MACHINE PUT gives, unless a field is refused (R44, check 2). -/
def machineEntryOf (f : MachineFields) : Option MachineEntry :=
  match putStatusOf f.status, compSetOf f.comps, yesNoOf f.manual, yesNoOf f.tagRequired with
  | some st, some cs, some m, some t =>
    if f.number = 0 ∨ maxMachine < f.number ∨ 31 < f.contractor ∨ badCapacity f.capacity.c1 ∨ badCapacity f.capacity.c2
        ∨ badAllowance f.allowance.c1 ∨ badAllowance f.allowance.c2 then none
    else
      some { number := f.number, status := st, origin := .listed, contractor := f.contractor, comps := cs
             capacity := f.capacity, allowance := f.allowance, manual := m, tagRequired := t }
  | _, _, _, _ => none

/-- What a replacement keeps of the entry it replaces (R45). -/
def replaceEntry (old new : MachineEntry) : MachineEntry :=
  { new with consumed := old.consumed, marker := old.marker, hours := old.hours, lastFill := old.lastFill }

def reqMachinePut (f : MachineFields) (s : State) : State × Response :=
  if f.status = 2 then (s, plain .badRequest)
  else
    match machineEntryOf f with
    | none => (s, plain .badValue)
    | some e =>
      match lookup s.mtb.machines f.number with
      | some old =>
        (modMtb (fun m => { m with machines := insertEntry (replaceEntry old e) m.machines }) s,
         okWith [.nat 1 1, .optNat 2 none])
      | none =>
        if 512 ≤ s.mtb.machines.length then (s, plain .full)
        else
          let s := modMtb (fun m => { m with machines := insertEntry e m.machines }) s
          (s, okWith [.nat 1 0, .optNat 2 (some s.mtb.machines.length)])

/-- MACHINE PUT (R44, R45). -/
def execMachinePut (port : Port) (number status contractor comps : Nat) (capacity1 allowance1 capacity2 allowance2 : Option Nat)
    (manual tagRequired : Nat) (s : State) : Out :=
  request .machinePut port
    (reqMachinePut
      { number := number, status := status, contractor := contractor, comps := comps, capacity := ⟨capacity1, capacity2⟩
        allowance := ⟨allowance1, allowance2⟩, manual := manual, tagRequired := tagRequired }) s

def reqMachineRemove (number : Nat) (s : State) : State × Response :=
  match lookup s.mtb.machines number with
  | none => (s, plain .notFound)
  | some e =>
    if e.status = .removing then (s, okWith [.nat 1 1])
    else if hasMarker e then (modEntry number (fun e => { e with status := .removing }) s, okWith [.nat 1 1])
    else (modMtb (fun m => { m with machines := removeEntry number m.machines }) s, okWith [.nat 1 0])

/-- MACHINE REMOVE (R46). -/
def execMachineRemove (port : Port) (number : Nat) (s : State) : Out :=
  request .machineRemove port (reqMachineRemove number) s

/-- The fields of a machine entry, in the order of Table 3-1 (R47). -/
def entryFields (e : MachineEntry) : List Field :=
  [.nat 6 e.number, .nat 1 e.status.ctorIdx, .nat 1 e.origin.code, .optNat 1 e.origin.rule, .nat 1 e.contractor,
   .nat 1 (compSetCode e.comps), .optNat 4 e.capacity.c1, .optNat 4 e.capacity.c2, .optNat 4 e.allowance.c1,
   .optNat 4 e.allowance.c2, .nat 4 e.consumed.c1, .nat 4 e.consumed.c2, yesNo e.manual, yesNo e.tagRequired,
   .optNat 4 e.hours, .optNat 4 e.lastFill, .nat 1 (markerCode e.marker.c1), .nat 1 (markerCode e.marker.c2)]

def reqMachineRead (number : Nat) : State → State × Response :=
  reads fun s =>
    match lookup s.mtb.machines number with
    | none => plain .notFound
    | some e => okWith (entryFields e)

/-- MACHINE READ (R47). -/
def execMachineRead (port : Port) (number : Nat) (s : State) : Out := request .machineRead port (reqMachineRead number) s

/-- The entries of a listing: at most 16 from a start number, and whether further ones follow (R47). -/
def listing (start : Nat) (table : List MachineEntry) : List MachineEntry × Bool :=
  let rest := table.filter fun e => start ≤ e.number
  (rest.take 16, decide (16 < rest.length))

def reqMachineList (start : Nat) : State → State × Response :=
  reads fun s =>
    let (entries, more) := listing start s.mtb.machines
    okWith (counted (entries.map entryFields) ++ [yesNo more, .nat 2 s.mtb.machines.length])

/-- MACHINE LIST (R47). -/
def execMachineList (port : Port) (start : Nat) (s : State) : Out := request .machineList port (reqMachineList start) s

/-! ## Open site and periods -/

def reqOpenSitePut (mode contractor : Nat) (allowance : PerComp (Option Nat)) (s : State) : State × Response :=
  match yesNoOf mode with
  | none => (s, plain .badValue)
  | some on =>
    if 31 < contractor ∨ badAllowance allowance.c1 ∨ badAllowance allowance.c2 then (s, plain .badValue)
    else
      (modMtb (fun m => { m with openSite := { on := on, contractor := contractor, allowance := allowance } }) s,
       plain .ok)

/-- OPEN SITE PUT (R52). -/
def execOpenSitePut (port : Port) (mode contractor : Nat) (allowance1 allowance2 : Option Nat) (s : State) : Out :=
  request .openSitePut port (reqOpenSitePut mode contractor ⟨allowance1, allowance2⟩) s

def reqPeriodSettingsPut (dayStart : Nat) (s : State) : State × Response :=
  let v := clampNat 0 1439 dayStart
  (evalRollover (modMtb (fun m => { m with dayStart := v }) s), settingsAnswer (v != dayStart) [.nat 2 v])

/-- PERIOD SETTINGS PUT (R53, R54). -/
def execPeriodSettingsPut (port : Port) (dayStart : Nat) (s : State) : Out :=
  request .periodSettingsPut port (reqPeriodSettingsPut dayStart) s

def reqOpenSiteRead : State → State × Response :=
  reads fun s =>
    let o := s.mtb.openSite
    okWith [yesNo o.on, .nat 1 o.contractor, .optNat 4 o.allowance.c1, .optNat 4 o.allowance.c2]

/-- OPEN SITE READ (R52). -/
def execOpenSiteRead (port : Port) (s : State) : Out := request .openSiteRead port reqOpenSiteRead s

def reqPeriodSettingsRead : State → State × Response :=
  reads fun s =>
    okWith [.nat 2 s.mtb.dayStart, .nat 2 s.mtb.periodDay,
            .optNat 2 (if s.itu.clockValid then some (currentDay s) else none)]

/-- PERIOD SETTINGS READ (R53). -/
def execPeriodSettingsRead (port : Port) (s : State) : Out :=
  request .periodSettingsRead port reqPeriodSettingsRead s

/-! ## Group rules -/

/-- A watch interval as it is stored (R55). -/
def storedInterval (v : Nat) : Nat := if v = 0 then 0 else clampNat 10 10080 v

/-- The fields of a GROUP RULE PUT as sent (R55). -/
structure RuleFields where
  index : Nat
  state : Nat
  low : Nat
  high : Nat
  contractor : Nat
  comps : Nat
  allowance : PerComp (Option Nat)
  interval : Nat
deriving DecidableEq, Repr

/-- The rule a GROUP RULE PUT gives, unless a field is refused (R55). Its watch is DISARMED. -/
def groupRuleOf (f : RuleFields) : Option GroupRule :=
  match yesNoOf f.state, compSetOf f.comps with
  | some active, some cs =>
    if 7 < f.index ∨ f.low = 0 ∨ f.high < f.low ∨ maxMachine < f.high ∨ 31 < f.contractor ∨ badAllowance f.allowance.c1
        ∨ badAllowance f.allowance.c2 then none
    else
      some { active := active, low := f.low, high := f.high, contractor := f.contractor, comps := cs
             allowance := f.allowance, interval := storedInterval f.interval }
  | _, _ => none

def reqGroupRulePut (f : RuleFields) (s : State) : State × Response :=
  match groupRuleOf f with
  | none => (s, plain .badValue)
  | some r =>
    (modMtb (fun m => { m with rules := m.rules.set f.index r }) s,
     settingsAnswer (r.interval != f.interval) [.nat 2 r.interval])

/-- GROUP RULE PUT (R55). -/
def execGroupRulePut (port : Port) (index state low high contractor comps : Nat) (allowance1 allowance2 : Option Nat)
    (interval : Nat) (s : State) : Out :=
  request .groupRulePut port
    (reqGroupRulePut
      { index := index, state := state, low := low, high := high, contractor := contractor, comps := comps
        allowance := ⟨allowance1, allowance2⟩, interval := interval }) s

def ruleFields (r : GroupRule) : List Field :=
  [.nat 1 (boolCode r.active), .nat 6 r.low, .nat 6 r.high, .nat 1 r.contractor, .nat 1 (compSetCode r.comps),
   .optNat 4 r.allowance.c1, .optNat 4 r.allowance.c2, .nat 2 r.interval, .nat 1 r.watch.code, .optNat 4 r.watch.deadline]

def reqGroupRuleRead (index : Nat) : State → State × Response :=
  reads fun s =>
    match s.mtb.rules[index]? with
    | none => plain .badValue
    | some r => okWith (ruleFields r)

/-- GROUP RULE READ (R55). -/
def execGroupRuleRead (port : Port) (index : Nat) (s : State) : Out :=
  request .groupRuleRead port (reqGroupRuleRead index) s

/-! ## Contractors -/

def reqContractorPut (index state : Nat) (adjustment : Int) (basis : Nat) (limit : Option Nat) (s : State) :
    State × Response :=
  match contractorStateOf state, basisOf basis with
  | some st, some b =>
    if 31 < index ∨ adjustment < -2000 ∨ 2000 < adjustment ∨ badAllowance limit then (s, plain .badValue)
    else
      (modContractor index (fun k => { k with state := st, adjustment := adjustment, basis := b, limit := limit }) s,
       plain .ok)
  | _, _ => (s, plain .badValue)

/-- CONTRACTOR PUT (R59). -/
def execContractorPut (port : Port) (index state : Nat) (adjustment : Int) (basis : Nat) (limit : Option Nat)
    (s : State) : Out :=
  request .contractorPut port (reqContractorPut index state adjustment basis limit) s

def reqContractorSettle (index amount : Nat) (s : State) : State × Response :=
  if 31 < index ∨ max32 < amount then (s, plain .badValue)
  else
    let s := modContractor index (fun k => { k with accrued := k.accrued - amount }) s
    (s, okWith [.nat 4 (contractorOf s index).accrued])

/-- CONTRACTOR SETTLE (R60). -/
def execContractorSettle (port : Port) (index amount : Nat) (s : State) : Out :=
  request .contractorSettle port (reqContractorSettle index amount) s

def contractorFields (k : Contractor) : List Field :=
  [.nat 1 k.state.ctorIdx, .int 2 k.adjustment, .nat 1 k.basis.ctorIdx, .optNat 4 k.limit, .nat 4 k.accrued,
   .nat 4 k.committed]

def reqContractorRead (index : Nat) : State → State × Response :=
  reads fun s => if 31 < index then plain .badValue else okWith (contractorFields (contractorOf s index))

/-- CONTRACTOR READ (R61). -/
def execContractorRead (port : Port) (index : Nat) (s : State) : Out :=
  request .contractorRead port (reqContractorRead index) s

end Sys2Proof.Machine
end

