-- ==== Sys2Proof/Machine/CmdTags.lean ====
section
/-! DEFINITION. The requests of chapter 2: templates (R28, R40), tag settings (R39) and tag diagnostics (R41). -/

namespace Sys2Proof.Machine

/-- Whether the fields of a TEMPLATE PUT are refused (R28, Table 2-2). -/
def templateRefused (index : Nat) (t : Template) : Bool :=
  7 < index || t.minLen < 8 || 64 < t.minLen || t.maxLen < 8 || 64 < t.maxLen || t.maxLen < t.minLen
    || t.offsets.isEmpty || 16 < t.offsets.length || !decide t.offsets.Nodup || t.offsets.any (63 < ·)
    || 65535 < t.check || t.idLength < 2 || 6 < t.idLength || t.minLen < t.idOffset + t.idLength
    || (t.hoursOffset.map fun o => decide (t.minLen < o + 3)).getD false

def reqTemplatePut (index : Nat) (t : Template) (s : State) : State × Response :=
  if templateRefused index t then (s, plain .badValue)
  else (modIdu (fun x => { x with templates := x.templates.set index (some t) }) s, plain .ok)

/-- TEMPLATE PUT (R28). -/
def execTemplatePut (port : Port) (index minLen maxLen : Nat) (offsets : List Nat) (check idOffset idLength : Nat)
    (hoursOffset : Option Nat) (s : State) : Out :=
  request .templatePut port
    (reqTemplatePut index
      { minLen := minLen, maxLen := maxLen, offsets := offsets, check := check, idOffset := idOffset
        idLength := idLength, hoursOffset := hoursOffset }) s

def reqTemplateClear (index : Nat) (s : State) : State × Response :=
  if 7 < index then (s, plain .badValue)
  else (modIdu (fun x => { x with templates := x.templates.set index none }) s, plain .ok)

/-- TEMPLATE CLEAR (R40). -/
def execTemplateClear (port : Port) (index : Nat) (s : State) : Out :=
  request .templateClear port (reqTemplateClear index) s

def reqTagSettingsPut (confirm : Nat) (s : State) : State × Response :=
  let v := clampNat 1 8 confirm
  (modIdu (fun x => { x with confirmCount := v }) s, settingsAnswer (v != confirm) [.nat 1 v])

/-- TAG SETTINGS PUT (R39). -/
def execTagSettingsPut (port : Port) (confirm : Nat) (s : State) : Out :=
  request .tagSettingsPut port (reqTagSettingsPut confirm) s

/-- The fields of a template (Table 2-2). An UNUSED one gives its state alone (R28). -/
def templateFields : Option Template → List Field
  | none => [.nat 1 0]
  | some t =>
    [.nat 1 1, .nat 1 t.minLen, .nat 1 t.maxLen, .nat 8 (offsetsCode t.offsets), .nat 2 t.check, .nat 1 t.idOffset,
     .nat 1 t.idLength, .optNat 1 t.hoursOffset]

def reqTemplateRead (index : Nat) : State → State × Response :=
  reads fun s =>
    match s.idu.templates[index]? with
    | none => plain .badValue
    | some t => okWith (templateFields t)

/-- TEMPLATE READ (R28). -/
def execTemplateRead (port : Port) (index : Nat) (s : State) : Out :=
  request .templateRead port (reqTemplateRead index) s

def reqTagSettingsRead : State → State × Response := reads fun s => okWith [.nat 1 s.idu.confirmCount]

/-- TAG SETTINGS READ (R39). -/
def execTagSettingsRead (port : Port) (s : State) : Out := request .tagSettingsRead port reqTagSettingsRead s

/-- The fields of READ TAG DIAGNOSTICS (R41). -/
def diagnosticsFields (r : Reader) : List Field :=
  [yesNo r.enabled, .nat 1 r.reception.ctorIdx,
   .optNat 6 (r.present.map (·.machine)), .optNat 1 (r.present.map (·.template)),
   .optNat 4 (r.present.bind (·.hours)),
   .optNat 6 (r.candidate.map (·.ident.machine)), .optNat 1 (r.candidate.map (·.count)),
   yesNo r.lost, .optNat 6 r.bound, .nat 1 r.badFrames, .nat 1 r.lastBad.ctorIdx, .nat 2 r.goodFrames]

def reqReadTagDiagnostics (reader : Nat) (s : State) : State × Response :=
  match hoseOf reader with
  | none => (s, plain .badValue)
  | some h =>
    (modReader h (fun r => { r with badFrames := 0, lastBad := .none, goodFrames := 0 }) s,
     okWith (diagnosticsFields (s.idu.readers.get h)))

/-- READ TAG DIAGNOSTICS (R41). -/
def execReadTagDiagnostics (port : Port) (reader : Nat) (s : State) : Out :=
  request .readTagDiagnostics port (reqReadTagDiagnostics reader) s

end Sys2Proof.Machine
end

