-- ==== Sys2Proof/Machine/Frames.lean ====
section
/-! DEFINITION. Request frames as bytes: the frame check (R196, R206), the payload layouts (R205, Table 13-10), and the
taking of a frame that a port receives (R197, R198), for the commands that carry bytes. -/

namespace Sys2Proof.Machine

/-! ## Payloads -/

/-- A field of a request payload: its width, and whether it may be absent (R205). -/
structure Slot where
  width : Nat
  optional : Bool
deriving DecidableEq, Repr

def need (width : Nat) : Slot := ⟨width, false⟩

def may (width : Nat) : Slot := ⟨width, true⟩

/-- Every request kind, in the order of its code (R206). -/
def allKinds : List ReqKind :=
  [.readMeter, .readSensors, .templatePut, .templateClear, .tagSettingsPut, .templateRead, .tagSettingsRead,
   .readTagDiagnostics, .machinePut, .machineRemove, .openSitePut, .periodSettingsPut, .groupRulePut,
   .contractorPut, .contractorSettle, .machineRead, .machineList, .openSiteRead, .periodSettingsRead,
   .groupRuleRead, .contractorRead, .priceSet, .pricePendingClear, .priceRead, .authoriseManual, .armHose,
   .disarmHose, .pauseHose, .resumeHose, .stopHose, .clearHalt, .clearLock, .hoseSettingsPut,
   .deliverySettingsPut, .hoseSettingsRead, .readHose, .stockSettingsPut, .stockSettingsRead, .readStock,
   .openReceipt, .closeReceipt, .startReceipt, .clearInletHalt, .clearInletLock, .reconcile, .readReceipt,
   .readProbes, .readReconcile, .strappingRead, .exportRead, .exportRelease, .viewRecord, .readJournal,
   .enterCalibration, .exitCalibration, .calibrationWrite, .strappingWrite, .stockLoad, .proveHose,
   .applyProving, .readCalibration, .inputSettingsPut, .restart, .readInputs, .readTime, .idleSettingsRead,
   .setTime, .idleSettingsPut, .enterStandby, .readEvents, .ackEvents, .setEventMask, .readStatus]

/-- The fields of a request's payload, in the order of its rule (R205). STRAPPING WRITE's follow its image. -/
def layout : ReqKind → List Slot
  | .readMeter | .templateClear | .tagSettingsPut | .templateRead | .readTagDiagnostics
  | .groupRuleRead | .contractorRead | .pricePendingClear | .disarmHose | .pauseHose | .resumeHose
  | .stopHose | .clearHalt | .clearLock | .readHose | .strappingRead => [need 1]
  | .readSensors | .tagSettingsRead | .openSiteRead | .periodSettingsRead | .priceRead
  | .hoseSettingsRead | .stockSettingsRead | .readStock | .closeReceipt | .startReceipt
  | .clearInletHalt | .clearInletLock | .readReceipt | .readProbes | .readReconcile | .readJournal
  | .enterCalibration | .exitCalibration | .readCalibration | .restart | .readInputs | .readTime
  | .idleSettingsRead | .enterStandby | .readEvents | .readStatus => []
  | .templatePut => [need 1, need 1, need 1, need 8, need 2, need 1, need 1, may 1]
  | .machinePut => [need 6, need 1, need 1, need 1, may 4, may 4, may 4, may 4, need 1, need 1]
  | .machineRemove | .machineRead | .machineList => [need 6]
  | .openSitePut => [need 1, need 1, may 4, may 4]
  | .periodSettingsPut => [need 2]
  | .groupRulePut => [need 1, need 1, need 6, need 6, need 1, need 1, may 4, may 4, need 2]
  | .contractorPut => [need 1, need 1, need 2, need 1, may 4]
  | .contractorSettle | .stockLoad | .proveHose | .applyProving => [need 1, need 4]
  | .priceSet => [need 1, need 1, need 3, may 4]
  | .authoriseManual => [need 1, need 6, may 4]
  | .armHose => [need 1, need 2, may 4]
  | .hoseSettingsPut => [need 1, need 2, need 2, need 2, need 2, need 2, need 4, need 4, need 4]
  | .deliverySettingsPut => [need 4, need 1]
  | .stockSettingsPut => [need 1, need 4, need 4, need 4]
  | .openReceipt => [need 1, need 2, need 12, need 4]
  | .reconcile => [need 1, need 1]
  | .exportRead => [may 4]
  | .exportRelease | .viewRecord | .setTime | .ackEvents | .setEventMask => [need 4]
  | .calibrationWrite => [need 1, need 1, need 8]
  | .inputSettingsPut => [need 1, need 1, need 2]
  | .idleSettingsPut => [need 2, need 1]
  | .strappingWrite => []

/-- The bytes of the presence field of a layout (R205). -/
def presenceWidth (slots : List Slot) : Nat := ((slots.countP (·.optional)) + 7) / 8

/-- The values of the fields of a payload; `bit` counts the optional fields before (R205). A bit of the presence field
that stands for no optional field is ignored (DESIGN CHOICE, log entry 16). -/
def fieldValues (present : Nat) : (bit : Nat) → List Slot → List Byte → List (Option Nat)
  | _, [], _ => []
  | bit, f :: rest, bytes =>
    let v := beValue (bytes.take f.width)
    let bytes := bytes.drop f.width
    if f.optional then (if present.testBit bit then some v else none) :: fieldValues present (bit + 1) rest bytes
    else some v :: fieldValues present bit rest bytes

/-- The values of a payload of the length its layout gives; none for another length (R198, check 5). -/
def payloadValues (slots : List Slot) (payload : List Byte) : Option (List (Option Nat)) :=
  let w := presenceWidth slots
  if payload.length = w + (slots.map (·.width)).sum then
    some (fieldValues (beValue (payload.take w)) 0 slots (payload.drop w))
  else none

/-- The two's complement value of a width (R204). -/
def signedOf (width v : Nat) : Int := if 2 * v < 256 ^ width then v else (v : Int) - ((256 ^ width : Nat) : Int)

/-- The members of a bit field of a width in bits (R204). -/
def bitsOf (width v : Nat) : List Nat := (List.range width).filter fun i => v.testBit i

/-- The characters of a docket number sent in 12 bytes: 00 hex fills its end (R204). -/
def docketOf (v : Nat) : List Byte := ((bigEndian 12 v).reverse.dropWhile (· == 0)).reverse

/-- The points of a strapping image (Table 13-9). -/
def pointsOf : Nat → List Byte → List (Nat × Nat)
  | 0, _ => []
  | n + 1, bytes => (beValue (bytes.take 2), beValue ((bytes.drop 2).take 4)) :: pointsOf n (bytes.drop 6)

/-- The command of a request with the values of its fields. -/
def commandOf (p : Port) (k : ReqKind) (values : List (Option Nat)) : Option Instr :=
  match k, values with
  | .readMeter, [some m] => some (.readMeter p m)
  | .readSensors, [] => some (.readSensors p)
  | .templatePut, [some i, some lo, some hi, some offs, some chk, some o, some l, ho] =>
    some (.templatePut p i lo hi (bitsOf 64 offs) chk o l ho)
  | .templateClear, [some i] => some (.templateClear p i)
  | .tagSettingsPut, [some n] => some (.tagSettingsPut p n)
  | .templateRead, [some i] => some (.templateRead p i)
  | .tagSettingsRead, [] => some (.tagSettingsRead p)
  | .readTagDiagnostics, [some r] => some (.readTagDiagnostics p r)
  | .machinePut, [some n, some st, some k, some cs, c1, a1, c2, a2, some mn, some t] =>
    some (.machinePut p n st k cs c1 a1 c2 a2 mn t)
  | .machineRemove, [some n] => some (.machineRemove p n)
  | .openSitePut, [some md, some k, a1, a2] => some (.openSitePut p md k a1 a2)
  | .periodSettingsPut, [some d] => some (.periodSettingsPut p d)
  | .groupRulePut, [some i, some st, some lo, some hi, some k, some cs, a1, a2, some w] =>
    some (.groupRulePut p i st lo hi k cs a1 a2 w)
  | .contractorPut, [some i, some st, some adj, some b, lim] => some (.contractorPut p i st (signedOf 2 adj) b lim)
  | .contractorSettle, [some i, some a] => some (.contractorSettle p i a)
  | .machineRead, [some n] => some (.machineRead p n)
  | .machineList, [some n] => some (.machineList p n)
  | .openSiteRead, [] => some (.openSiteRead p)
  | .periodSettingsRead, [] => some (.periodSettingsRead p)
  | .groupRuleRead, [some i] => some (.groupRuleRead p i)
  | .contractorRead, [some i] => some (.contractorRead p i)
  | .priceSet, [some c, some pr, some v, t] => some (.priceSet p c pr v t)
  | .pricePendingClear, [some c] => some (.pricePendingClear p c)
  | .priceRead, [] => some (.priceRead p)
  | .authoriseManual, [some h, some n, hr] => some (.authoriseManual p h n hr)
  | .armHose, [some h, some o, v] => some (.armHose p h o v)
  | .disarmHose, [some h] => some (.disarmHose p h)
  | .pauseHose, [some h] => some (.pauseHose p h)
  | .resumeHose, [some h] => some (.resumeHose p h)
  | .stopHose, [some h] => some (.stopHose p h)
  | .clearHalt, [some h] => some (.clearHalt p h)
  | .clearLock, [some h] => some (.clearLock p h)
  | .hoseSettingsPut, [some h, some a, some ff, some nf, some g, some pl, some sd, some hm, some ov] =>
    some (.hoseSettingsPut p h a ff nf g pl sd hm ov)
  | .deliverySettingsPut, [some m, some r] => some (.deliverySettingsPut p m r)
  | .hoseSettingsRead, [] => some (.hoseSettingsRead p)
  | .readHose, [some h] => some (.readHose p h)
  | .stockSettingsPut, [some c, some l, some y, some t] => some (.stockSettingsPut p c l y t)
  | .stockSettingsRead, [] => some (.stockSettingsRead p)
  | .readStock, [] => some (.readStock p)
  | .openReceipt, [some c, some sup, some d, some e] => some (.openReceipt p c sup (docketOf d) e)
  | .closeReceipt, [] => some (.closeReceipt p)
  | .startReceipt, [] => some (.startReceipt p)
  | .clearInletHalt, [] => some (.clearInletHalt p)
  | .clearInletLock, [] => some (.clearInletLock p)
  | .reconcile, [some c, some m] => some (.reconcile p c m)
  | .readReceipt, [] => some (.readReceipt p)
  | .readProbes, [] => some (.readProbes p)
  | .readReconcile, [] => some (.readReconcile p)
  | .strappingRead, [some c] => some (.strappingRead p c)
  | .exportRead, [n] => some (.exportRead p n)
  | .exportRelease, [some n] => some (.exportRelease p n)
  | .viewRecord, [some n] => some (.viewRecord p n)
  | .readJournal, [] => some (.readJournal p)
  | .enterCalibration, [] => some (.enterCalibration p)
  | .exitCalibration, [] => some (.exitCalibration p)
  | .calibrationWrite, [some i, some x, some v] => some (.calibrationWrite p i x (signedOf 8 v))
  | .stockLoad, [some c, some v] => some (.stockLoad p c v)
  | .proveHose, [some h, some v] => some (.proveHose p h v)
  | .applyProving, [some m, some v] => some (.applyProving p m v)
  | .readCalibration, [] => some (.readCalibration p)
  | .inputSettingsPut, [some i, some x, some d] => some (.inputSettingsPut p i x d)
  | .restart, [] => some (.restart p)
  | .readInputs, [] => some (.readInputs p)
  | .readTime, [] => some (.readTime p)
  | .idleSettingsRead, [] => some (.idleSettingsRead p)
  | .setTime, [some t] => some (.setTime p t)
  | .idleSettingsPut, [some n, some x] => some (.idleSettingsPut p n x)
  | .enterStandby, [] => some (.enterStandby p)
  | .readEvents, [] => some (.readEvents p)
  | .ackEvents, [some n] => some (.ackEvents p n)
  | .setEventMask, [some n] => some (.setEventMask p n)
  | .readStatus, [] => some (.readStatus p)
  | _, _ => none

/-- The command a payload names; none where its form is wrong (R205). -/
def payloadCommand (p : Port) (k : ReqKind) (payload : List Byte) : Option Instr :=
  match k, payload with
  | .strappingWrite, c :: n :: rest =>
    if rest.length = 6 * n.toNat then some (.strappingWrite p c.toNat (pointsOf n.toNat rest)) else none
  | .strappingWrite, _ => none
  | k, payload => (payloadValues (layout k) payload).bind (commandOf p k)

/-- The kind, the port and the execution of the request that a command is. -/
def requestOf : Instr → Option (ReqKind × Port × (State → State × Response))
  | .readMeter port meter => some (.readMeter, port, reqReadMeter meter)
  | .readSensors port => some (.readSensors, port, reqReadSensors)
  | .templatePut port index minLen maxLen offsets check idOffset idLength hoursOffset =>
    some (.templatePut, port,
      reqTemplatePut index
        { minLen := minLen, maxLen := maxLen, offsets := offsets, check := check, idOffset := idOffset
          idLength := idLength, hoursOffset := hoursOffset })
  | .templateClear port index => some (.templateClear, port, reqTemplateClear index)
  | .tagSettingsPut port confirm => some (.tagSettingsPut, port, reqTagSettingsPut confirm)
  | .templateRead port index => some (.templateRead, port, reqTemplateRead index)
  | .tagSettingsRead port => some (.tagSettingsRead, port, reqTagSettingsRead)
  | .readTagDiagnostics port reader => some (.readTagDiagnostics, port, reqReadTagDiagnostics reader)
  | .machinePut port number status contractor comps capacity1 allowance1 capacity2 allowance2 manual tagRequired =>
    some (.machinePut, port,
      reqMachinePut
        { number := number, status := status, contractor := contractor, comps := comps
          capacity := ⟨capacity1, capacity2⟩, allowance := ⟨allowance1, allowance2⟩, manual := manual
          tagRequired := tagRequired })
  | .machineRemove port number => some (.machineRemove, port, reqMachineRemove number)
  | .openSitePut port mode contractor allowance1 allowance2 =>
    some (.openSitePut, port, reqOpenSitePut mode contractor ⟨allowance1, allowance2⟩)
  | .periodSettingsPut port dayStart => some (.periodSettingsPut, port, reqPeriodSettingsPut dayStart)
  | .groupRulePut port index state low high contractor comps allowance1 allowance2 interval =>
    some (.groupRulePut, port,
      reqGroupRulePut
        { index := index, state := state, low := low, high := high, contractor := contractor, comps := comps
          allowance := ⟨allowance1, allowance2⟩, interval := interval })
  | .contractorPut port index state adjustment basis limit =>
    some (.contractorPut, port, reqContractorPut index state adjustment basis limit)
  | .contractorSettle port index amount => some (.contractorSettle, port, reqContractorSettle index amount)
  | .machineRead port number => some (.machineRead, port, reqMachineRead number)
  | .machineList port start => some (.machineList, port, reqMachineList start)
  | .openSiteRead port => some (.openSiteRead, port, reqOpenSiteRead)
  | .periodSettingsRead port => some (.periodSettingsRead, port, reqPeriodSettingsRead)
  | .groupRuleRead port index => some (.groupRuleRead, port, reqGroupRuleRead index)
  | .contractorRead port index => some (.contractorRead, port, reqContractorRead index)
  | .priceSet port comp product price effective => some (.priceSet, port, reqPriceSet comp product price effective)
  | .pricePendingClear port comp => some (.pricePendingClear, port, reqPricePendingClear comp)
  | .priceRead port => some (.priceRead, port, reqPriceRead)
  | .authoriseManual port hose number hours => some (.authoriseManual, port, reqAuthoriseManual hose number hours)
  | .armHose port hose operator preset => some (.armHose, port, reqArmHose hose operator preset)
  | .disarmHose port hose => some (.disarmHose, port, reqDisarmHose hose)
  | .pauseHose port hose => some (.pauseHose, port, reqPauseHose hose)
  | .resumeHose port hose => some (.resumeHose, port, reqResumeHose hose)
  | .stopHose port hose => some (.stopHose, port, reqStopHose port hose)
  | .clearHalt port hose => some (.clearHalt, port, reqClearHalt port hose)
  | .clearLock port hose => some (.clearLock, port, reqClearLock hose)
  | .hoseSettingsPut port hose armed firstFlow noFlow grace pauseLimit slowDown hoseMax overrun =>
    some (.hoseSettingsPut, port,
      reqHoseSettingsPut hose
        { armed := armed, firstFlow := firstFlow, noFlow := noFlow, grace := grace, pauseLimit := pauseLimit
          slowDown := slowDown, hoseMax := hoseMax, overrun := overrun })
  | .deliverySettingsPut port minDelivery retries =>
    some (.deliverySettingsPut, port, reqDeliverySettingsPut minDelivery retries)
  | .hoseSettingsRead port => some (.hoseSettingsRead, port, reqHoseSettingsRead)
  | .readHose port hose => some (.readHose, port, reqReadHose hose)
  | .stockSettingsPut port comp level hysteresis tolerance =>
    some (.stockSettingsPut, port,
      reqStockSettingsPut comp
        { level := level, hysteresis := hysteresis, tolerance := tolerance })
  | .stockSettingsRead port => some (.stockSettingsRead, port, reqStockSettingsRead)
  | .readStock port => some (.readStock, port, reqReadStock)
  | .openReceipt port comp supplier docket expected =>
    some (.openReceipt, port, reqOpenReceipt comp supplier docket expected)
  | .startReceipt port => some (.startReceipt, port, reqStartReceipt)
  | .closeReceipt port => some (.closeReceipt, port, reqCloseReceipt)
  | .clearInletHalt port => some (.clearInletHalt, port, reqClearInletHalt port)
  | .clearInletLock port => some (.clearInletLock, port, reqClearInletLock)
  | .reconcile port comp mode => some (.reconcile, port, reqReconcile port comp mode)
  | .readReceipt port => some (.readReceipt, port, reqReadReceipt)
  | .readProbes port => some (.readProbes, port, reqReadProbes)
  | .readReconcile port => some (.readReconcile, port, reqReadReconcile)
  | .strappingRead port comp => some (.strappingRead, port, reqStrappingRead comp)
  | .exportRead port start => some (.exportRead, port, reqExportRead start)
  | .exportRelease port number => some (.exportRelease, port, reqExportRelease number)
  | .viewRecord port number => some (.viewRecord, port, reqViewRecord number)
  | .readJournal port => some (.readJournal, port, reqReadJournal)
  | .enterCalibration port => some (.enterCalibration, port, reqEnterCalibration)
  | .exitCalibration port => some (.exitCalibration, port, reqExitCalibration)
  | .calibrationWrite port param subject value =>
    some (.calibrationWrite, port, reqCalibrationWrite param subject value)
  | .strappingWrite port comp points =>
    some (.strappingWrite, port, reqStrappingWrite comp (points.map fun p => { level := p.1, gross := p.2 }))
  | .stockLoad port comp value => some (.stockLoad, port, reqStockLoad comp value)
  | .proveHose port hose target => some (.proveHose, port, reqProveHose hose target)
  | .applyProving port meter can => some (.applyProving, port, reqApplyProving meter can)
  | .readCalibration port => some (.readCalibration, port, reqReadCalibration)
  | .inputSettingsPut port input polarity debounce =>
    some (.inputSettingsPut, port, reqInputSettingsPut input polarity debounce)
  | .restart port => some (.restart, port, reqRestart)
  | .readInputs port => some (.readInputs, port, reqReadInputs)
  | .readTime port => some (.readTime, port, reqReadTime)
  | .idleSettingsRead port => some (.idleSettingsRead, port, reqIdleSettingsRead)
  | .setTime port time => some (.setTime, port, reqSetTime time)
  | .idleSettingsPut port interval sources => some (.idleSettingsPut, port, reqIdleSettingsPut interval sources)
  | .enterStandby port => some (.enterStandby, port, reqEnterStandby)
  | .readEvents port => some (.readEvents, port, reqReadEvents port)
  | .ackEvents port kinds => some (.ackEvents, port, reqAckEvents port kinds)
  | .setEventMask port kinds => some (.setEventMask, port, reqSetEventMask port kinds)
  | .readStatus port => some (.readStatus, port, reqReadStatus port)
  | .rejectedRequestFrame _ _ | .busyPortFrame _ | .responseRead _ _ | .serviceResponseSent | .serviceFrameGap
  | .pulseArrival _ _ _ | .sensorFrame _ _ | .sensorTimeout _ | .probeFrame _ _ | .probeTimeout _
  | .sensorFrameGap _ | .tagFrame _ _ | .tagFrameTruncated _ | .candidateLapse _ | .presentIdentityGap _
  | .graceTimerExpiry _ | .armedTimeout _ | .firstFlowTimeout _ | .noFlowTimeout _ | .pauseLimit _ | .settleEnd _
  | .attemptTimerExpiry _ | .holdTimerExpiry | .receiptSettleEnd | .idleTimerExpiry | .clockTick | .rollover
  | .watchExpiry _ | .priceActivation _ | .deferredEntryWrite | .estopActive | .powerfailActive
  | .powerfailInactive | .earthBondInactive | .earthBondActive | .overfillActive | .ignitionActive
  | .supplyLowActive | .supplyLowInactive | .tiltActive | .nozzleStowed _ | .nozzleLifted _ | .pumpRunActive _
  | .pumpRunInactive _ | .calSwitchInactive | .hardwareReset _ _ _ | .calSwitchActive | .estopInactive
  | .overfillInactive | .tiltInactive | .ignitionInactive => none

/-- The execution a payload names. -/
def payloadOwner (p : Port) (k : ReqKind) (payload : List Byte) : Option (State → State × Response) :=
  ((payloadCommand p k payload).bind requestOf).map fun r => r.2.2

/-! ## Frames -/

/-- The frame check: at least 5 bytes, a length field that agrees, and the CRC-16 (R196, R206). -/
def frameOk (frame : List Byte) : Bool :=
  5 ≤ frame.length && beValue (frame.take 2) == frame.length
    && (crc16 (frame.take (frame.length - 2))).toNat == beValue (frame.drop (frame.length - 2))

/-- The request kind of a code (R206). -/
def kindOf (code : Nat) : Option ReqKind := if code = 0 then none else allKinds[code - 1]?

/-- The request a good frame carries. -/
def frameKind (frame : List Byte) : Option ReqKind := kindOf (beValue ((frame.drop 2).take 1))

/-- The payload of a frame (Table 13-1). -/
def framePayload (frame : List Byte) : List Byte := (frame.drop 3).take (frame.length - 5)

/-- Checks 3 to 6 of a good frame at a READY port while POWERFAIL is inactive (R198). -/
def takeGood (p : Port) (frame : List Byte) (s : State) : State :=
  match frameKind frame with
  | none => answer p (plain .badRequest) s
  | some k =>
    if !permitted k p then answer p (plain .notPermitted) s
    else
      match payloadOwner p k (framePayload frame) with
      | none => answer p (plain .badRequest) s
      | some owner =>
        let (s, r) := owner s
        answer p r (reloadByRequest p s)

/-- A completed frame at a port (R197, R198). Any frame wakes the part (R194). -/
def takeFrame (p : Port) (frame : List Byte) (s : State) : State :=
  let s := wake s
  if !portReady s p then countRefused p s
  else if !frameOk frame then answer p (plain .frameError) s
  else if powerFail s then answer p (plain .powerFail) s
  else takeGood p frame s

/-! ## The service line -/

/-- The bytes a service frame needs, once its length field is in (R196; log entry 26). -/
def serviceComplete (rx : List Byte) : Bool := 2 ≤ rx.length && max 2 (beValue (rx.take 2)) ≤ rx.length

/-- A byte on the service line (R196). -/
def serviceByte (b : Byte) (s : State) : State :=
  let rx := (s.prt.ports.get .service).rx ++ [b]
  if serviceComplete rx then takeFrame .service rx (modPort .service (fun x => { x with rx := [] }) s)
  else modPort .service (fun x => { x with rx := rx, rxTime := s.itu.mono }) s

/-- Bytes that a port receives: a write transfer on the console and uplink, bytes of the line on the service port
(R196). -/
def receiveBytes (p : Port) (bytes : List Byte) (s : State) : State :=
  match p with
  | .service => bytes.foldl (fun s b => serviceByte b s) s
  | p => if bytes = [] then s else takeFrame p bytes s

/-- REJECTED REQUEST FRAME (R198): the bytes of a frame at a port. A frame that passes every check is executed. -/
def execRejectedRequestFrame (port : Port) (bytes : List Byte) (s : State) : Out := .next (receiveBytes port bytes s)

/-- BUSY PORT FRAME (R197): a frame completes at a port that is not READY; at a READY port there is no such frame
(log entry 30). -/
def execBusyPortFrame (port : Port) (s : State) : Out :=
  .next (if portReady s port then s else countRefused port (wake s))

/-- RESPONSE READ (R196), on the console and uplink ports; the service port has no read transfers. -/
def execResponseRead (port : Port) (count : Nat) (s : State) : Out :=
  .next (if onlyService port then s else readTransfer port count s)

/-- SERVICE RESPONSE SENT (R196). -/
def execServiceResponseSent (s : State) : Out := .next (finishSending s)

/-- The gap of more than 100 ms ends an unfinished service frame short (R196). -/
def endServiceFrame (s : State) : State :=
  let x := s.prt.ports.get .service
  if x.rx = [] then s
  else takeFrame .service x.rx (modPort .service (fun x => { x with rx := [] }) (reachTime (x.rxTime + 101) s))

/-- SERVICE FRAME GAP (R196). -/
def execServiceFrameGap (s : State) : Out := .next (endServiceFrame s)

end Sys2Proof.Machine
end

