-- ==== Sys2Proof/Machine/Dispatch.lean ====
section
/-! DEFINITION. One arm per command, each a call of its meaning. -/

namespace Sys2Proof.Machine

def exec (i : Instr) (s : State) : Host.Outcome State Fault Refusal :=
  match i with
  | .readMeter port meter => Sys2Proof.Machine.execReadMeter port meter s
  | .readSensors port => Sys2Proof.Machine.execReadSensors port s
  | .templatePut port index minLen maxLen offsets check idOffset idLength hoursOffset => Sys2Proof.Machine.execTemplatePut port index minLen maxLen offsets check idOffset idLength hoursOffset s
  | .templateClear port index => Sys2Proof.Machine.execTemplateClear port index s
  | .tagSettingsPut port confirm => Sys2Proof.Machine.execTagSettingsPut port confirm s
  | .templateRead port index => Sys2Proof.Machine.execTemplateRead port index s
  | .tagSettingsRead port => Sys2Proof.Machine.execTagSettingsRead port s
  | .readTagDiagnostics port reader => Sys2Proof.Machine.execReadTagDiagnostics port reader s
  | .machinePut port number status contractor comps capacity1 allowance1 capacity2 allowance2 manual tagRequired => Sys2Proof.Machine.execMachinePut port number status contractor comps capacity1 allowance1 capacity2 allowance2 manual tagRequired s
  | .machineRemove port number => Sys2Proof.Machine.execMachineRemove port number s
  | .openSitePut port mode contractor allowance1 allowance2 => Sys2Proof.Machine.execOpenSitePut port mode contractor allowance1 allowance2 s
  | .periodSettingsPut port dayStart => Sys2Proof.Machine.execPeriodSettingsPut port dayStart s
  | .groupRulePut port index state low high contractor comps allowance1 allowance2 interval => Sys2Proof.Machine.execGroupRulePut port index state low high contractor comps allowance1 allowance2 interval s
  | .contractorPut port index state adjustment basis limit => Sys2Proof.Machine.execContractorPut port index state adjustment basis limit s
  | .contractorSettle port index amount => Sys2Proof.Machine.execContractorSettle port index amount s
  | .machineRead port number => Sys2Proof.Machine.execMachineRead port number s
  | .machineList port start => Sys2Proof.Machine.execMachineList port start s
  | .openSiteRead port => Sys2Proof.Machine.execOpenSiteRead port s
  | .periodSettingsRead port => Sys2Proof.Machine.execPeriodSettingsRead port s
  | .groupRuleRead port index => Sys2Proof.Machine.execGroupRuleRead port index s
  | .contractorRead port index => Sys2Proof.Machine.execContractorRead port index s
  | .priceSet port comp product price effective => Sys2Proof.Machine.execPriceSet port comp product price effective s
  | .pricePendingClear port comp => Sys2Proof.Machine.execPricePendingClear port comp s
  | .priceRead port => Sys2Proof.Machine.execPriceRead port s
  | .authoriseManual port hose number hours => Sys2Proof.Machine.execAuthoriseManual port hose number hours s
  | .armHose port hose operator preset => Sys2Proof.Machine.execArmHose port hose operator preset s
  | .disarmHose port hose => Sys2Proof.Machine.execDisarmHose port hose s
  | .pauseHose port hose => Sys2Proof.Machine.execPauseHose port hose s
  | .resumeHose port hose => Sys2Proof.Machine.execResumeHose port hose s
  | .stopHose port hose => Sys2Proof.Machine.execStopHose port hose s
  | .clearHalt port hose => Sys2Proof.Machine.execClearHalt port hose s
  | .clearLock port hose => Sys2Proof.Machine.execClearLock port hose s
  | .hoseSettingsPut port hose armed firstFlow noFlow grace pauseLimit slowDown hoseMax overrun => Sys2Proof.Machine.execHoseSettingsPut port hose armed firstFlow noFlow grace pauseLimit slowDown hoseMax overrun s
  | .deliverySettingsPut port minDelivery retries => Sys2Proof.Machine.execDeliverySettingsPut port minDelivery retries s
  | .hoseSettingsRead port => Sys2Proof.Machine.execHoseSettingsRead port s
  | .readHose port hose => Sys2Proof.Machine.execReadHose port hose s
  | .stockSettingsPut port comp level hysteresis tolerance => Sys2Proof.Machine.execStockSettingsPut port comp level hysteresis tolerance s
  | .stockSettingsRead port => Sys2Proof.Machine.execStockSettingsRead port s
  | .readStock port => Sys2Proof.Machine.execReadStock port s
  | .openReceipt port comp supplier docket expected => Sys2Proof.Machine.execOpenReceipt port comp supplier docket expected s
  | .startReceipt port => Sys2Proof.Machine.execStartReceipt port s
  | .closeReceipt port => Sys2Proof.Machine.execCloseReceipt port s
  | .clearInletHalt port => Sys2Proof.Machine.execClearInletHalt port s
  | .clearInletLock port => Sys2Proof.Machine.execClearInletLock port s
  | .reconcile port comp mode => Sys2Proof.Machine.execReconcile port comp mode s
  | .readReceipt port => Sys2Proof.Machine.execReadReceipt port s
  | .readProbes port => Sys2Proof.Machine.execReadProbes port s
  | .readReconcile port => Sys2Proof.Machine.execReadReconcile port s
  | .strappingRead port comp => Sys2Proof.Machine.execStrappingRead port comp s
  | .exportRead port start => Sys2Proof.Machine.execExportRead port start s
  | .exportRelease port number => Sys2Proof.Machine.execExportRelease port number s
  | .viewRecord port number => Sys2Proof.Machine.execViewRecord port number s
  | .readJournal port => Sys2Proof.Machine.execReadJournal port s
  | .enterCalibration port => Sys2Proof.Machine.execEnterCalibration port s
  | .exitCalibration port => Sys2Proof.Machine.execExitCalibration port s
  | .calibrationWrite port param subject value => Sys2Proof.Machine.execCalibrationWrite port param subject value s
  | .strappingWrite port comp points => Sys2Proof.Machine.execStrappingWrite port comp points s
  | .stockLoad port comp value => Sys2Proof.Machine.execStockLoad port comp value s
  | .proveHose port hose target => Sys2Proof.Machine.execProveHose port hose target s
  | .applyProving port meter can => Sys2Proof.Machine.execApplyProving port meter can s
  | .readCalibration port => Sys2Proof.Machine.execReadCalibration port s
  | .inputSettingsPut port input polarity debounce => Sys2Proof.Machine.execInputSettingsPut port input polarity debounce s
  | .restart port => Sys2Proof.Machine.execRestart port s
  | .readInputs port => Sys2Proof.Machine.execReadInputs port s
  | .readTime port => Sys2Proof.Machine.execReadTime port s
  | .idleSettingsRead port => Sys2Proof.Machine.execIdleSettingsRead port s
  | .setTime port time => Sys2Proof.Machine.execSetTime port time s
  | .idleSettingsPut port interval sources => Sys2Proof.Machine.execIdleSettingsPut port interval sources s
  | .enterStandby port => Sys2Proof.Machine.execEnterStandby port s
  | .readEvents port => Sys2Proof.Machine.execReadEvents port s
  | .ackEvents port kinds => Sys2Proof.Machine.execAckEvents port kinds s
  | .setEventMask port kinds => Sys2Proof.Machine.execSetEventMask port kinds s
  | .readStatus port => Sys2Proof.Machine.execReadStatus port s
  | .rejectedRequestFrame port bytes => Sys2Proof.Machine.execRejectedRequestFrame port bytes s
  | .busyPortFrame port => Sys2Proof.Machine.execBusyPortFrame port s
  | .responseRead port count => Sys2Proof.Machine.execResponseRead port count s
  | .serviceResponseSent => Sys2Proof.Machine.execServiceResponseSent s
  | .serviceFrameGap => Sys2Proof.Machine.execServiceFrameGap s
  | .pulseArrival meter channel otherActive => Sys2Proof.Machine.execPulseArrival meter channel otherActive s
  | .sensorFrame meter bytes => Sys2Proof.Machine.execSensorFrame meter bytes s
  | .sensorTimeout meter => Sys2Proof.Machine.execSensorTimeout meter s
  | .probeFrame comp bytes => Sys2Proof.Machine.execProbeFrame comp bytes s
  | .probeTimeout comp => Sys2Proof.Machine.execProbeTimeout comp s
  | .sensorFrameGap line => Sys2Proof.Machine.execSensorFrameGap line s
  | .tagFrame reader bytes => Sys2Proof.Machine.execTagFrame reader bytes s
  | .tagFrameTruncated reader => Sys2Proof.Machine.execTagFrameTruncated reader s
  | .candidateLapse reader => Sys2Proof.Machine.execCandidateLapse reader s
  | .presentIdentityGap reader => Sys2Proof.Machine.execPresentIdentityGap reader s
  | .graceTimerExpiry reader => Sys2Proof.Machine.execGraceTimerExpiry reader s
  | .armedTimeout hose => Sys2Proof.Machine.execArmedTimeout hose s
  | .firstFlowTimeout hose => Sys2Proof.Machine.execFirstFlowTimeout hose s
  | .noFlowTimeout hose => Sys2Proof.Machine.execNoFlowTimeout hose s
  | .pauseLimit hose => Sys2Proof.Machine.execPauseLimit hose s
  | .settleEnd hose => Sys2Proof.Machine.execSettleEnd hose s
  | .attemptTimerExpiry pump => Sys2Proof.Machine.execAttemptTimerExpiry pump s
  | .holdTimerExpiry => Sys2Proof.Machine.execHoldTimerExpiry s
  | .receiptSettleEnd => Sys2Proof.Machine.execReceiptSettleEnd s
  | .idleTimerExpiry => Sys2Proof.Machine.execIdleTimerExpiry s
  | .clockTick => Sys2Proof.Machine.execClockTick s
  | .rollover => Sys2Proof.Machine.execRollover s
  | .watchExpiry rule => Sys2Proof.Machine.execWatchExpiry rule s
  | .priceActivation comp => Sys2Proof.Machine.execPriceActivation comp s
  | .deferredEntryWrite => Sys2Proof.Machine.execDeferredEntryWrite s
  | .estopActive => Sys2Proof.Machine.execEstopActive s
  | .powerfailActive => Sys2Proof.Machine.execPowerfailActive s
  | .powerfailInactive => Sys2Proof.Machine.execPowerfailInactive s
  | .earthBondInactive => Sys2Proof.Machine.execEarthBondInactive s
  | .earthBondActive => Sys2Proof.Machine.execEarthBondActive s
  | .overfillActive => Sys2Proof.Machine.execOverfillActive s
  | .ignitionActive => Sys2Proof.Machine.execIgnitionActive s
  | .supplyLowActive => Sys2Proof.Machine.execSupplyLowActive s
  | .supplyLowInactive => Sys2Proof.Machine.execSupplyLowInactive s
  | .tiltActive => Sys2Proof.Machine.execTiltActive s
  | .nozzleStowed hose => Sys2Proof.Machine.execNozzleStowed hose s
  | .nozzleLifted hose => Sys2Proof.Machine.execNozzleLifted hose s
  | .pumpRunActive pump => Sys2Proof.Machine.execPumpRunActive pump s
  | .pumpRunInactive pump => Sys2Proof.Machine.execPumpRunInactive pump s
  | .calSwitchInactive => Sys2Proof.Machine.execCalSwitchInactive s
  | .hardwareReset levels batteryKept downtime => Sys2Proof.Machine.execHardwareReset levels batteryKept downtime s
  | .calSwitchActive => Sys2Proof.Machine.execCalSwitchActive s
  | .estopInactive => Sys2Proof.Machine.execEstopInactive s
  | .overfillInactive => Sys2Proof.Machine.execOverfillInactive s
  | .tiltInactive => Sys2Proof.Machine.execTiltInactive s
  | .ignitionInactive => Sys2Proof.Machine.execIgnitionInactive s

end Sys2Proof.Machine
end

