-- ==== Sys2Proof/Machine/Tick.lean ====
section
/-! DEFINITION. What the part does when no command waits: a millisecond of the monotonic time base passes, the input
lines change their levels, and what falls due in it is put in the queue (log entries 1, 6 and 35). -/

namespace Sys2Proof.Machine

/-- A command that is due. -/
def dueIf (b : Bool) (i : Instr) : List Instr := if b then [i] else []

/-- What is due at a reader (R25, R34 to R36). -/
def readerDue (s : State) (h : Hose) : List Instr :=
  let r := s.idu.readers.get h
  let now := s.itu.mono
  dueIf (r.enabled && r.phase != .hunt && decide (r.rxTime + 20 < now)) (.tagFrameTruncated h)
    ++ dueIf ((r.candidate.map fun k => decide (k.ident.lastFrame + 500 < now)).getD false) (.candidateLapse h)
    ++ dueIf (r.reception == .present && (r.present.map fun id => decide (id.lastFrame + 500 < now)).getD false)
      (.presentIdentityGap h)
    ++ dueIf ((r.graceDeadline.map fun d => decide (d ≤ now)).getD false) (.graceTimerExpiry h)

/-- The expiry of a hose's timer, by the state it runs in (Table 6-1). -/
def hoseExpiry (h : Hose) : HoseState → Option Instr
  | .armed => some (.armedTimeout h)
  | .ready => some (.firstFlowTimeout h)
  | .flowing | .slowing => some (.noFlowTimeout h)
  | .paused => some (.pauseLimit h)
  | .ending => some (.settleEnd h)
  | .idle | .priming | .halted | .locked => none

/-- What is due at a hose (Table 6-1). -/
def hoseDue (s : State) (h : Hose) : List Instr :=
  match (hoseCtx s h).timer, hoseExpiry h (hoseCtx s h).state with
  | some d, some i => dueIf (decide (d ≤ s.itu.mono)) i
  | _, _ => []

/-- What is due at a sensor (R12, R206). -/
def sensorDue (s : State) (m : MeterId) : List Instr :=
  let x := s.tpi.sensors.get m
  dueIf (x.rx != [] && decide (x.rxTime + 20 < s.itu.mono)) (.sensorFrameGap (.sensor m))
    ++ dueIf (x.valid && (x.latest.map fun r => decide (r.time + 3000 ≤ s.itu.mono)).getD false) (.sensorTimeout m)

/-- What is due at a probe (R152, R206). -/
def probeDue (s : State) (c : Comp) : List Instr :=
  let x := s.tpi.probes.get c
  dueIf (x.rx != [] && decide (x.rxTime + 20 < s.itu.mono)) (.sensorFrameGap (.probe c))
    ++ dueIf (x.valid && (x.latest.map fun r => decide (r.time + 3000 ≤ s.itu.mono)).getD false) (.probeTimeout c)

/-- What is due at a pump (R111). -/
def pumpDue (s : State) (c : Comp) : List Instr :=
  match (s.hsc.pumps.get c).state with
  | .starting _ d => dueIf (decide (d ≤ s.itu.mono)) (.attemptTimerExpiry c)
  | _ => []

/-- What is due at the receipt (R144, R146). -/
def receiptDue (s : State) : List Instr :=
  match s.rcp.receipt.timer, s.rcp.receipt.state with
  | some d, .held => dueIf (decide (d ≤ s.itu.mono)) .holdTimerExpiry
  | some d, .settling => dueIf (decide (d ≤ s.itu.mono)) .receiptSettleEnd
  | _, _ => []

/-- What is due at the service port (R196). -/
def portDue (s : State) : List Instr :=
  let x := s.prt.ports.get .service
  dueIf (x.rx != [] && decide (x.rxTime + 100 < s.itu.mono)) .serviceFrameGap

/-- The row that is an input's event (Table 11-1). -/
def inputRow : Input → Bool → Instr
  | .estop, true => .estopActive
  | .estop, false => .estopInactive
  | .powerfail, true => .powerfailActive
  | .powerfail, false => .powerfailInactive
  | .earthBond, true => .earthBondActive
  | .earthBond, false => .earthBondInactive
  | .overfill, true => .overfillActive
  | .overfill, false => .overfillInactive
  | .ignition, true => .ignitionActive
  | .ignition, false => .ignitionInactive
  | .supplyLow, true => .supplyLowActive
  | .supplyLow, false => .supplyLowInactive
  | .tilt, true => .tiltActive
  | .tilt, false => .tiltInactive
  | .stowed1, true => .nozzleStowed .h1
  | .stowed1, false => .nozzleLifted .h1
  | .stowed2, true => .nozzleStowed .h2
  | .stowed2, false => .nozzleLifted .h2
  | .pumpRun1, true => .pumpRunActive .c1
  | .pumpRun1, false => .pumpRunInactive .c1
  | .pumpRun2, true => .pumpRunActive .c2
  | .pumpRun2, false => .pumpRunInactive .c2
  | .calSwitch, true => .calSwitchActive
  | .calSwitch, false => .calSwitchInactive

/-- The event of an input whose line has held the level of the other state for the debounce time (R186). -/
def inputDue (s : State) (i : Input) : List Instr :=
  let x := s.itu.inputs.get i
  dueIf ((x.heldAt.map fun d => decide (d ≤ s.itu.mono)).getD false) (inputRow i !x.active)

/-- The clock and its work (R191, R54, R57, R67, R168). -/
def clockDue (s : State) : List Instr :=
  dueIf (s.itu.mono % 1000 == 0) .clockTick
    ++ dueIf (rolloverDue s) .rollover
    ++ (List.range 8).flatMap (fun i => dueIf ((s.mtb.rules[i]?.map (watchDue s)).getD false) (.watchExpiry i))
    ++ dueIf (saturated s.jnl && 0 < freeSlots s.jnl) .deferredEntryWrite
    ++ dueIf (priceWaiting s .c1 && activationAllowed s) (.priceActivation .c1)
    ++ dueIf (priceWaiting s .c2 && activationAllowed s) (.priceActivation .c2)

/-- Everything that is due but the idle timer's expiry (log entry 35). -/
def dueCommands (s : State) : List Instr :=
  allInputs.flatMap (inputDue s) ++ readerDue s .h1 ++ readerDue s .h2 ++ sensorDue s .m1 ++ sensorDue s .m2 ++ sensorDue s .mi ++ probeDue s .c1
    ++ probeDue s .c2 ++ hoseDue s .h1 ++ hoseDue s .h2 ++ pumpDue s .c1 ++ pumpDue s .c2 ++ receiptDue s ++ portDue s
    ++ clockDue s

/-- The line changes at the front of the store whose time has come, one after the other; the rest stay in store. -/
def runLines : List LineChange → State → State
  | [], s => modItu (fun x => { x with lines := [] }) s
  | c :: rest, s =>
    if c.wait = 0 then runLines rest (driveLine c.input c.level s)
    else modItu (fun x => { x with lines := c :: rest }) s

/-- A millisecond of waiting for the next line change. -/
def passLines (s : State) : State :=
  match s.itu.lines with
  | [] => s
  | c :: rest => runLines ({ c with wait := c.wait - 1 } :: rest) s

/-- The idle timer has reached its deadline (R192). -/
def idleDue (s : State) : Bool := (s.itu.idleDeadline.map fun d => decide (d ≤ s.itu.mono)).getD false

/-- With no command waiting: the idle timer expires where its deadline is reached and nothing of this millisecond has
moved it (R192); else a millisecond passes (log entries 1, 6 and 35). -/
def idleStep (s : State) : State :=
  if idleDue s then { s with pending := s.pending ++ [.idleTimerExpiry] }
  else
    let s := passLines (modItu (fun x => { x with mono := x.mono + 1 }) s)
    { s with pending := s.pending ++ dueCommands s }

end Sys2Proof.Machine
end

