-- ==== Sys2Proof/WellFormed.lean ====
section
/-! DEFINITION. Which commands can be sent: every operand of a request fits the field of its frame (R205, Table
13-10), and the operands of the other commands lie in the ranges that their lines give them. -/

namespace Sys2Proof

/-- A value fits an unsigned field of a width in bytes. -/
def fits (width v : Nat) : Bool := v < 256 ^ width

/-- A value that may be absent fits. -/
def fitsOpt (width : Nat) (v : Option Nat) : Bool := v.all (fits width)

/-- A value fits a signed field of a width in bytes. -/
def fitsInt (width : Nat) (v : Int) : Bool :=
  decide (-((256 ^ width : Nat) : Int) ≤ 2 * v) && decide (2 * v < ((256 ^ width : Nat) : Int))

/-- A list that a bit field of `n` bits can name: strictly rising members below `n` (R204). -/
def fitsSet (n : Nat) : List Nat → Bool
  | [] => true
  | [x] => x < n
  | x :: y :: rest => x < y && fitsSet n (y :: rest)

/-- A docket number that its 12 bytes can carry: the 00 hex that fills the field ends it (R204). -/
def fitsDocket (number : List Byte) : Bool := number.length ≤ 12 && number.getLast? != some 0

/-- Whether a command can be sent. -/
def Instr.wf : Instr → Bool
  | .readMeter _ m => fits 1 m
  | .readSensors _ => true
  | .templatePut _ i lo hi offs chk o l ho =>
    fits 1 i && fits 1 lo && fits 1 hi && fitsSet 64 offs && fits 2 chk && fits 1 o && fits 1 l && fitsOpt 1 ho
  | .templateClear _ i => fits 1 i
  | .tagSettingsPut _ n => fits 1 n
  | .templateRead _ i => fits 1 i
  | .tagSettingsRead _ => true
  | .readTagDiagnostics _ r => fits 1 r
  | .machinePut _ n st k cs c1 a1 c2 a2 mn t =>
    fits 6 n && fits 1 st && fits 1 k && fits 1 cs && fitsOpt 4 c1 && fitsOpt 4 a1 && fitsOpt 4 c2 && fitsOpt 4 a2
      && fits 1 mn && fits 1 t
  | .machineRemove _ n => fits 6 n
  | .openSitePut _ md k a1 a2 => fits 1 md && fits 1 k && fitsOpt 4 a1 && fitsOpt 4 a2
  | .periodSettingsPut _ d => fits 2 d
  | .groupRulePut _ i st lo hi k cs a1 a2 w =>
    fits 1 i && fits 1 st && fits 6 lo && fits 6 hi && fits 1 k && fits 1 cs && fitsOpt 4 a1 && fitsOpt 4 a2 && fits 2 w
  | .contractorPut _ i st adj b lim => fits 1 i && fits 1 st && fitsInt 2 adj && fits 1 b && fitsOpt 4 lim
  | .contractorSettle _ i a => fits 1 i && fits 4 a
  | .machineRead _ n => fits 6 n
  | .machineList _ n => fits 6 n
  | .openSiteRead _ => true
  | .periodSettingsRead _ => true
  | .groupRuleRead _ i => fits 1 i
  | .contractorRead _ i => fits 1 i
  | .priceSet _ c pr v t => fits 1 c && fits 1 pr && fits 3 v && fitsOpt 4 t
  | .pricePendingClear _ c => fits 1 c
  | .priceRead _ => true
  | .authoriseManual _ h n hr => fits 1 h && fits 6 n && fitsOpt 4 hr
  | .armHose _ h o v => fits 1 h && fits 2 o && fitsOpt 4 v
  | .disarmHose _ h => fits 1 h
  | .pauseHose _ h => fits 1 h
  | .resumeHose _ h => fits 1 h
  | .stopHose _ h => fits 1 h
  | .clearHalt _ h => fits 1 h
  | .clearLock _ h => fits 1 h
  | .hoseSettingsPut _ h a ff nf g pl sd hm ov =>
    fits 1 h && fits 2 a && fits 2 ff && fits 2 nf && fits 2 g && fits 2 pl && fits 4 sd && fits 4 hm && fits 4 ov
  | .deliverySettingsPut _ m r => fits 4 m && fits 1 r
  | .hoseSettingsRead _ => true
  | .readHose _ h => fits 1 h
  | .stockSettingsPut _ c l y t => fits 1 c && fits 4 l && fits 4 y && fits 4 t
  | .stockSettingsRead _ => true
  | .readStock _ => true
  | .openReceipt _ c sup d e => fits 1 c && fits 2 sup && fitsDocket d && fits 4 e
  | .startReceipt _ => true
  | .closeReceipt _ => true
  | .clearInletHalt _ => true
  | .clearInletLock _ => true
  | .reconcile _ c m => fits 1 c && fits 1 m
  | .readReceipt _ => true
  | .readProbes _ => true
  | .readReconcile _ => true
  | .strappingRead _ c => fits 1 c
  | .exportRead _ n => fitsOpt 4 n
  | .exportRelease _ n => fits 4 n
  | .viewRecord _ n => fits 4 n
  | .readJournal _ => true
  | .enterCalibration _ => true
  | .exitCalibration _ => true
  | .calibrationWrite _ i x v => fits 1 i && fits 1 x && fitsInt 8 v
  | .strappingWrite _ c pts => fits 1 c && fits 1 pts.length && pts.all fun p => fits 2 p.1 && fits 4 p.2
  | .stockLoad _ c v => fits 1 c && fits 4 v
  | .proveHose _ h v => fits 1 h && fits 4 v
  | .applyProving _ m v => fits 1 m && fits 4 v
  | .readCalibration _ => true
  | .inputSettingsPut _ i x d => fits 1 i && fits 1 x && fits 2 d
  | .restart _ => true
  | .readInputs _ => true
  | .readTime _ => true
  | .idleSettingsRead _ => true
  | .setTime _ t => fits 4 t
  | .idleSettingsPut _ n x => fits 2 n && fits 1 x
  | .enterStandby _ => true
  | .readEvents _ => true
  | .ackEvents _ n => fits 4 n
  | .setEventMask _ n => fits 4 n
  | .readStatus _ => true
  | .rejectedRequestFrame _ _ => true
  | .busyPortFrame _ => true
  | .responseRead p _ => p != .service
  | .serviceResponseSent => true
  | .serviceFrameGap => true
  | .pulseArrival _ _ _ => true
  | .sensorFrame _ _ => true
  | .sensorTimeout _ => true
  | .probeFrame _ _ => true
  | .probeTimeout _ => true
  | .sensorFrameGap _ => true
  | .tagFrame _ _ => true
  | .tagFrameTruncated _ => true
  | .candidateLapse _ => true
  | .presentIdentityGap _ => true
  | .graceTimerExpiry _ => true
  | .armedTimeout _ => true
  | .firstFlowTimeout _ => true
  | .noFlowTimeout _ => true
  | .pauseLimit _ => true
  | .settleEnd _ => true
  | .attemptTimerExpiry _ => true
  | .holdTimerExpiry => true
  | .receiptSettleEnd => true
  | .idleTimerExpiry => true
  | .clockTick => true
  | .rollover => true
  | .watchExpiry i => i < 8
  | .priceActivation _ => true
  | .deferredEntryWrite => true
  | .estopActive => true
  | .powerfailActive => true
  | .powerfailInactive => true
  | .earthBondInactive => true
  | .earthBondActive => true
  | .overfillActive => true
  | .ignitionActive => true
  | .supplyLowActive => true
  | .supplyLowInactive => true
  | .tiltActive => true
  | .nozzleStowed _ => true
  | .nozzleLifted _ => true
  | .pumpRunActive _ => true
  | .pumpRunInactive _ => true
  | .calSwitchInactive => true
  | .hardwareReset _ _ downtime => fits 4 downtime
  | .calSwitchActive => true
  | .estopInactive => true
  | .overfillInactive => true
  | .tiltInactive => true
  | .ignitionInactive => true

end Sys2Proof
end

