-- ==== Sys2Proof/Machine/Encode.lean ====
section
/-! DEFINITION. The request frame that carries a request (Table 13-1, R205): the layouts of Machine/Frames.lean read
the other way. -/

namespace Sys2Proof.Machine

/-- The two's complement value of a width in bytes, as an unsigned number (R204). -/
def unsignedOf (width : Nat) (v : Int) : Nat := (v % ((256 ^ width : Nat) : Int)).toNat

/-- A set as the value of its bit field (R204). -/
def setValue (members : List Nat) : Nat := (members.map (2 ^ ·)).sum

/-- A docket number as the value of its 12 bytes (R204). -/
def docketValue (number : List Byte) : Nat := beValue (number ++ zeros (12 - number.length))

/-- The bytes of the fields of a payload; an absent one is sent as bytes of 00 hex (R205). -/
def slotBytes : List Slot → List (Option Nat) → List Byte
  | f :: slots, v :: values => bigEndian f.width (v.getD 0) ++ slotBytes slots values
  | _, _ => []

/-- The presence bits of a payload, in the order of its optional fields (R205). -/
def slotPresence : List Slot → List (Option Nat) → List Bool
  | f :: slots, v :: values => if f.optional then v.isSome :: slotPresence slots values else slotPresence slots values
  | _, _ => []

/-- The payload of a request with the values of its fields (R205). -/
def payloadOf (k : ReqKind) (values : List (Option Nat)) : List Byte :=
  bigEndian (presenceWidth (layout k)) (bitsValue (slotPresence (layout k) values)) ++ slotBytes (layout k) values

/-- The request a command is: its port, its kind and its payload. -/
def asRequest : Instr → Option (Port × ReqKind × List Byte)
  | .readMeter port meter => some (port, .readMeter, payloadOf .readMeter [some meter])
  | .readSensors port => some (port, .readSensors, payloadOf .readSensors [])
  | .templatePut port index minLen maxLen offsets check idOffset idLength hoursOffset =>
    some (port, .templatePut, payloadOf .templatePut
      [some index, some minLen, some maxLen, some (setValue offsets), some check, some idOffset, some
        idLength, hoursOffset])
  | .templateClear port index => some (port, .templateClear, payloadOf .templateClear [some index])
  | .tagSettingsPut port confirm => some (port, .tagSettingsPut, payloadOf .tagSettingsPut [some confirm])
  | .templateRead port index => some (port, .templateRead, payloadOf .templateRead [some index])
  | .tagSettingsRead port => some (port, .tagSettingsRead, payloadOf .tagSettingsRead [])
  | .readTagDiagnostics port reader => some (port, .readTagDiagnostics, payloadOf .readTagDiagnostics [some reader])
  | .machinePut port number status contractor comps capacity1 allowance1 capacity2 allowance2 manual tagRequired =>
    some (port, .machinePut, payloadOf .machinePut
      [some number, some status, some contractor, some comps, capacity1, allowance1, capacity2, allowance2,
        some manual, some tagRequired])
  | .machineRemove port number => some (port, .machineRemove, payloadOf .machineRemove [some number])
  | .openSitePut port mode contractor allowance1 allowance2 =>
    some (port, .openSitePut, payloadOf .openSitePut
      [some mode, some contractor, allowance1, allowance2])
  | .periodSettingsPut port dayStart => some (port, .periodSettingsPut, payloadOf .periodSettingsPut [some dayStart])
  | .groupRulePut port index state low high contractor comps allowance1 allowance2 interval =>
    some (port, .groupRulePut, payloadOf .groupRulePut
      [some index, some state, some low, some high, some contractor, some comps, allowance1, allowance2, some
        interval])
  | .contractorPut port index state adjustment basis limit =>
    some (port, .contractorPut, payloadOf .contractorPut
      [some index, some state, some (unsignedOf 2 adjustment), some basis, limit])
  | .contractorSettle port index amount =>
    some (port, .contractorSettle, payloadOf .contractorSettle
      [some index, some amount])
  | .machineRead port number => some (port, .machineRead, payloadOf .machineRead [some number])
  | .machineList port start => some (port, .machineList, payloadOf .machineList [some start])
  | .openSiteRead port => some (port, .openSiteRead, payloadOf .openSiteRead [])
  | .periodSettingsRead port => some (port, .periodSettingsRead, payloadOf .periodSettingsRead [])
  | .groupRuleRead port index => some (port, .groupRuleRead, payloadOf .groupRuleRead [some index])
  | .contractorRead port index => some (port, .contractorRead, payloadOf .contractorRead [some index])
  | .priceSet port comp product price effective =>
    some (port, .priceSet, payloadOf .priceSet
      [some comp, some product, some price, effective])
  | .pricePendingClear port comp => some (port, .pricePendingClear, payloadOf .pricePendingClear [some comp])
  | .priceRead port => some (port, .priceRead, payloadOf .priceRead [])
  | .authoriseManual port hose number hours =>
    some (port, .authoriseManual, payloadOf .authoriseManual
      [some hose, some number, hours])
  | .armHose port hose operator preset => some (port, .armHose, payloadOf .armHose [some hose, some operator, preset])
  | .disarmHose port hose => some (port, .disarmHose, payloadOf .disarmHose [some hose])
  | .pauseHose port hose => some (port, .pauseHose, payloadOf .pauseHose [some hose])
  | .resumeHose port hose => some (port, .resumeHose, payloadOf .resumeHose [some hose])
  | .stopHose port hose => some (port, .stopHose, payloadOf .stopHose [some hose])
  | .clearHalt port hose => some (port, .clearHalt, payloadOf .clearHalt [some hose])
  | .clearLock port hose => some (port, .clearLock, payloadOf .clearLock [some hose])
  | .hoseSettingsPut port hose armed firstFlow noFlow grace pauseLimit slowDown hoseMax overrun =>
    some (port, .hoseSettingsPut, payloadOf .hoseSettingsPut
      [some hose, some armed, some firstFlow, some noFlow, some grace, some pauseLimit, some slowDown, some
        hoseMax, some overrun])
  | .deliverySettingsPut port minDelivery retries =>
    some (port, .deliverySettingsPut, payloadOf .deliverySettingsPut
      [some minDelivery, some retries])
  | .hoseSettingsRead port => some (port, .hoseSettingsRead, payloadOf .hoseSettingsRead [])
  | .readHose port hose => some (port, .readHose, payloadOf .readHose [some hose])
  | .stockSettingsPut port comp level hysteresis tolerance =>
    some (port, .stockSettingsPut, payloadOf .stockSettingsPut
      [some comp, some level, some hysteresis, some tolerance])
  | .stockSettingsRead port => some (port, .stockSettingsRead, payloadOf .stockSettingsRead [])
  | .readStock port => some (port, .readStock, payloadOf .readStock [])
  | .openReceipt port comp supplier docket expected =>
    some (port, .openReceipt, payloadOf .openReceipt
      [some comp, some supplier, some (docketValue docket), some expected])
  | .startReceipt port => some (port, .startReceipt, payloadOf .startReceipt [])
  | .closeReceipt port => some (port, .closeReceipt, payloadOf .closeReceipt [])
  | .clearInletHalt port => some (port, .clearInletHalt, payloadOf .clearInletHalt [])
  | .clearInletLock port => some (port, .clearInletLock, payloadOf .clearInletLock [])
  | .reconcile port comp mode => some (port, .reconcile, payloadOf .reconcile [some comp, some mode])
  | .readReceipt port => some (port, .readReceipt, payloadOf .readReceipt [])
  | .readProbes port => some (port, .readProbes, payloadOf .readProbes [])
  | .readReconcile port => some (port, .readReconcile, payloadOf .readReconcile [])
  | .strappingRead port comp => some (port, .strappingRead, payloadOf .strappingRead [some comp])
  | .exportRead port start => some (port, .exportRead, payloadOf .exportRead [start])
  | .exportRelease port number => some (port, .exportRelease, payloadOf .exportRelease [some number])
  | .viewRecord port number => some (port, .viewRecord, payloadOf .viewRecord [some number])
  | .readJournal port => some (port, .readJournal, payloadOf .readJournal [])
  | .enterCalibration port => some (port, .enterCalibration, payloadOf .enterCalibration [])
  | .exitCalibration port => some (port, .exitCalibration, payloadOf .exitCalibration [])
  | .calibrationWrite port param subject value =>
    some (port, .calibrationWrite, payloadOf .calibrationWrite
      [some param, some subject, some (unsignedOf 8 value)])
  | .strappingWrite port comp points => some (port, .strappingWrite, natBytes 1 comp ++ strappingImage (points.map fun p => ⟨p.1, p.2⟩))
  | .stockLoad port comp value => some (port, .stockLoad, payloadOf .stockLoad [some comp, some value])
  | .proveHose port hose target => some (port, .proveHose, payloadOf .proveHose [some hose, some target])
  | .applyProving port meter can => some (port, .applyProving, payloadOf .applyProving [some meter, some can])
  | .readCalibration port => some (port, .readCalibration, payloadOf .readCalibration [])
  | .inputSettingsPut port input polarity debounce =>
    some (port, .inputSettingsPut, payloadOf .inputSettingsPut
      [some input, some polarity, some debounce])
  | .restart port => some (port, .restart, payloadOf .restart [])
  | .readInputs port => some (port, .readInputs, payloadOf .readInputs [])
  | .readTime port => some (port, .readTime, payloadOf .readTime [])
  | .idleSettingsRead port => some (port, .idleSettingsRead, payloadOf .idleSettingsRead [])
  | .setTime port time => some (port, .setTime, payloadOf .setTime [some time])
  | .idleSettingsPut port interval sources =>
    some (port, .idleSettingsPut, payloadOf .idleSettingsPut
      [some interval, some sources])
  | .enterStandby port => some (port, .enterStandby, payloadOf .enterStandby [])
  | .readEvents port => some (port, .readEvents, payloadOf .readEvents [])
  | .ackEvents port kinds => some (port, .ackEvents, payloadOf .ackEvents [some kinds])
  | .setEventMask port kinds => some (port, .setEventMask, payloadOf .setEventMask [some kinds])
  | .readStatus port => some (port, .readStatus, payloadOf .readStatus [])
  | .rejectedRequestFrame _ _ | .busyPortFrame _ | .responseRead _ _ | .serviceResponseSent
  | .serviceFrameGap | .pulseArrival _ _ _ | .sensorFrame _ _ | .sensorTimeout _ | .probeFrame _ _
  | .probeTimeout _ | .sensorFrameGap _ | .tagFrame _ _ | .tagFrameTruncated _ | .candidateLapse _
  | .presentIdentityGap _ | .graceTimerExpiry _ | .armedTimeout _ | .firstFlowTimeout _ | .noFlowTimeout _
  | .pauseLimit _ | .settleEnd _ | .attemptTimerExpiry _ | .holdTimerExpiry | .receiptSettleEnd
  | .idleTimerExpiry | .clockTick | .rollover | .watchExpiry _ | .priceActivation _ | .deferredEntryWrite
  | .estopActive | .powerfailActive | .powerfailInactive | .earthBondInactive | .earthBondActive
  | .overfillActive | .ignitionActive | .supplyLowActive | .supplyLowInactive | .tiltActive | .nozzleStowed _
  | .nozzleLifted _ | .pumpRunActive _ | .pumpRunInactive _ | .calSwitchInactive | .hardwareReset _ _ _
  | .calSwitchActive | .estopInactive | .overfillInactive | .tiltInactive | .ignitionInactive => none

/-- The request frame of a kind and a payload (Table 13-1). -/
def requestFrame (k : ReqKind) (payload : List Byte) : List Byte :=
  let body := bigEndian 2 (payload.length + 5) ++ [BitVec.ofNat 8 (requestCode k)] ++ payload
  body ++ crcBytes body

end Sys2Proof.Machine
end

