-- ==== Sys2Proof/Machine/Outputs.lean ====
section
/-! DEFINITION. The part's output lines, which follow from its state (R95, R140, R196, R200; log entry 33). -/

namespace Sys2Proof.Machine

/-- Whether every valve and pump output is off (R95). -/
def outputsOff (s : State) : Bool := s.itu.latch || powerFail s

/-- The main valve output of a hose (R95, Table 6-1). -/
def mainValve (s : State) (h : Hose) : Bool :=
  !outputsOff s &&
    match (hoseCtx s h).state with
    | .ready | .flowing => true
    | _ => false

/-- The slow valve output of a hose (R95, Table 6-1). -/
def slowValve (s : State) (h : Hose) : Bool :=
  !outputsOff s &&
    match (hoseCtx s h).state with
    | .ready | .flowing | .slowing => true
    | _ => false

/-- The inlet valve output (R140, Table 8-2). -/
def inletValve (s : State) : Bool := !outputsOff s && s.rcp.receipt.state == .receiving

/-- The pump request output (R95, R110). -/
def pumpRequest (s : State) (c : Comp) : Bool := !outputsOff s && pumpAsks (s.hsc.pumps.get c).state

/-- The event line of a port (R200). -/
def portEventLine (s : State) (p : Port) : Bool := eventLine (s.prt.ports.get p)

/-- The response-ready line of a port (R196). -/
def portReadyLine (s : State) (p : Port) : Bool := responseReady (s.prt.ports.get p)

end Sys2Proof.Machine
end

