-- ==== Sys2Proof/Safety.lean ====
section
/-! DEFINITION. What a sound state of the part is, in the terms the claims use: the machine table (R43), the ring
(R158), the totalisers (R10), the ports (R197), what the state of a hose and of the receipt says of its context and of
its meter (Tables 6-1, 8-2, R2), the compartments' claims (R128), the contractors' commitments (R58), and the OPEN
records and their shadows (R173); and how a request that is executed ends (R197, R198). -/

namespace Sys2Proof.Machine

/-- Numbers rise strictly. -/
def rising : List MachineEntry → Bool
  | e :: f :: rest => decide (e.number < f.number) && rising (f :: rest)
  | _ => true

/-- The machine table holds at most 512 entries in strictly rising number (R43). -/
def tableOk (s : State) : Bool := s.mtb.machines.length ≤ 512 && rising s.mtb.machines

/-- The records from one numbered `n` on carry consecutive numbers, and `next` follows the last (R158, R159). -/
def consecutive (next : Nat) : Nat → List Record → Bool
  | n, [] => n == next
  | n, r :: rest => r.seq == n && consecutive next (nextNumber n) rest

/-- The ring is no longer than its slots, its cursor is a slot, and its numbers are consecutive (R158). -/
def ringOk (j : Jnl) : Bool := j.ring.length ≤ 1024 && decide (j.cursor < 1024) && consecutive j.nextSeq (oldestNumber j) j.ring

/-- The totals of a meter are 64-bit values (R10). -/
def totalsFit (m : MeterState) : Bool := m.totalPulses ≤ max64 && m.totalGross ≤ max64

def totalsOk (s : State) : Bool :=
  totalsFit s.mtr.meters.m1 && totalsFit s.mtr.meters.m2 && totalsFit s.mtr.meters.mi

/-- A port is READY exactly while its response queue is empty (R197), and counts at most 255 refused frames. -/
def portOk (x : PortState) : Bool :=
  ((x.phase == .ready) == (x.answer.isNone && x.refused == 0)) && decide (x.refused ≤ 255)

def portsOk (s : State) : Bool := portOk s.prt.ports.console && portOk s.prt.ports.uplink && portOk s.prt.ports.service

/-- A hose holds a dispense, and owns its meter, exactly in PRIMING to ENDING (Table 6-1, R2). -/
def hoseOk (s : State) (h : Hose) : Bool :=
  ((hoseCtx s h).dispense.isSome == hasDispense (hoseCtx s h).state)
    && ((s.mtr.meters.get (hoseMeter h)).owned == hasDispense (hoseCtx s h).state)

/-- A receipt has a docket outside IDLE, and has started and owns MI in RECEIVING, HELD and SETTLING (Table 8-2, R2). -/
def receiptOk (s : State) : Bool :=
  let r := s.rcp.receipt
  let flows := receiptRuns r.state || r.state == .settling
  (r.docket.isSome == (r.state != .idle)) && (r.started.isSome == flows) && ((s.mtr.meters.get .mi).owned == flows)

/-- The states of hoses, receipt and meters agree. -/
def ownersOk (s : State) : Bool := hoseOk s .h1 && hoseOk s .h2 && receiptOk s

/-- A sound state. -/
def sound (s : State) : Bool :=
  tableOk s && ringOk s.jnl && totalsOk s && portsOk s && ownersOk s

/-! ## Claims on the compartments (R128) -/

/-- Whether a hose holds a dispense that draws on a compartment. -/
def drawsOn (s : State) (h : Hose) (c : Comp) : Bool := ((hoseCtx s h).dispense.map fun d => d.comp == c).getD false

/-- How many hoses draw on a compartment. -/
def drawCount (s : State) (c : Comp) : Nat := boolCode (drawsOn s .h1 c) + boolCode (drawsOn s .h2 c)

/-- The operation state of a compartment is that of the receipt, the reconcile or the dispenses that hold it, of which
there is one kind at a time. -/
def claimOk (s : State) (c : Comp) : Bool :=
  let receipt := (s.rcp.receipt.docket.map fun d => d.comp == c).getD false
  let reconcile := (s.tpi.reconciles.get c).isSome
  let draws := drawCount s c
  if receipt then (compartment s c).op == .receiving && !reconcile && draws == 0
  else if reconcile then (compartment s c).op == .reconciling && draws == 0
  else (compartment s c).op == if draws = 0 then .free else .drawn draws

/-- A hose in a dispense draws on the compartment it is mapped to (R121, R176). -/
def mappedOk (s : State) (h : Hose) : Bool := ((hoseCtx s h).dispense.map fun d => d.comp == hoseComp s h).getD true

/-- The claims on both compartments. -/
def claimsOk (s : State) : Bool := claimOk s .c1 && claimOk s .c2 && mappedOk s .h1 && mappedOk s .h2

/-! ## Commitments (R58) -/

/-- What the dispense of a hose has committed of a contractor. -/
def committedBy (s : State) (h : Hose) (index : Nat) : Nat :=
  match (hoseCtx s h).dispense with
  | some d => if d.granted.map (·.contractor) = some index then d.committedAmount else 0
  | none => 0

/-- A contractor's committed amount is the sum of those of its open dispenses. -/
def contractorOk (s : State) (index : Nat) : Prop :=
  (contractorOf s index).committed = committedBy s .h1 index + committedBy s .h2 index

/-! ## OPEN records (R173) -/

/-- An OPEN record is that of the operation in progress of its kind: a DISPENSE record's hose, and a RECEIPT record's
receipt, has its shadow open under its number, and a RECONCILE record's compartment has a reconcile. -/
def openRecordOk (s : State) (r : Record) : Bool :=
  !r.isOpen ||
    match r.body with
    | .dispense d => (s.hsc.shadows.get d.hose).opened && (s.hsc.shadows.get d.hose).seq == r.seq
    | .receipt _ => s.rcp.shadow.opened && s.rcp.shadow.seq == r.seq
    | .reconcile x => (s.tpi.reconciles.get x.comp).any fun k => k.seq == r.seq
    | .adjust _ | .fault _ => false

/-- The shadow of a hose is open exactly while the hose holds a dispense, under its number (R96). -/
def shadowOk (s : State) (h : Hose) : Bool :=
  match (hoseCtx s h).dispense with
  | some d => (s.hsc.shadows.get h).opened && (s.hsc.shadows.get h).seq == d.seq
  | none => !(s.hsc.shadows.get h).opened

/-- The receipt shadow is open exactly while a receipt is, under its number (R140). -/
def receiptShadowOk (s : State) : Bool :=
  match s.rcp.receipt.docket with
  | some d => s.rcp.shadow.opened && s.rcp.shadow.seq == d.seq
  | none => !s.rcp.shadow.opened

/-- Every OPEN record belongs to what runs. -/
def recordsOk (s : State) : Bool :=
  s.jnl.ring.all (openRecordOk s) && shadowOk s .h1 && shadowOk s .h2 && receiptShadowOk s

/-! ## The inlet fault level (R148) -/

/-- A receipt that flows has no inlet fault, and one that settles has none that is LOCKED. -/
def inletOk (s : State) : Bool :=
  match s.rcp.receipt.state with
  | .receiving | .held => s.rcp.fault == .clear
  | .settling => s.rcp.fault.code != 2
  | .idle | .docketed => true

/-! ## Classes of commands -/

/-- Bytes on a port's line, which may carry any request (R196, R198). -/
def carriesFrames : Instr → Bool
  | .rejectedRequestFrame _ _ | .serviceFrameGap => true
  | _ => false

/-- Bytes on the service line. -/
def carriesService : Instr → Bool
  | .rejectedRequestFrame .service _ | .serviceFrameGap => true
  | _ => false

/-- A hardware reset. -/
def isReset : Instr → Bool
  | .hardwareReset _ _ _ => true
  | _ => false

/-- A release of records, or bytes that may carry one. -/
def mayRelease : Instr → Bool
  | .exportRelease _ _ => true
  | c => carriesFrames c

/-- What may take kinds out of the pending set of a port: an acknowledgement on it, a start, or bytes that may carry
them. -/
def mayClearEvents (p : Port) : Instr → Bool
  | .ackEvents q _ => q == p
  | .restart _ => true
  | c => isReset c || carriesFrames c

/-! ## What a change of one hose's state leaves -/

/-- The hose beside a hose. -/
def otherHose : Hose → Hose
  | .h1 => .h2
  | .h2 => .h1

/-- From `s` to `t` hose `h` alone changed its state: beside its context, its shadow, its reader and the pumps nothing
changed but that its change event is pending on each port; its reader is enabled as R24 has it. -/
def hoseMoves (h : Hose) (s t : State) : Prop :=
  { t with hsc := s.hsc, idu := s.idu, prt := s.prt } = s ∧ t.prt = (raise (Event.ofHose h) s).prt ∧
  t.hsc = { s.hsc with hoses := t.hsc.hoses, shadows := t.hsc.shadows, pumps := t.hsc.pumps } ∧
  t.idu = { s.idu with readers := t.idu.readers } ∧
  hoseCtx t (otherHose h) = hoseCtx s (otherHose h) ∧
  t.hsc.shadows.get (otherHose h) = s.hsc.shadows.get (otherHose h) ∧
  t.idu.readers.get (otherHose h) = s.idu.readers.get (otherHose h) ∧
  (t.idu.readers.get h).enabled = readerWanted t h

/-- The context of a hose that has entered ENDING with an outcome (R108). -/
def endingCtx (o : DispenseOutcome) (now : Nat) (d : Dispense) (c : HoseCtx) : HoseCtx :=
  { c with
    state := .ending, timer := some (now + 2000), dispense := some { withOutcome o d with grossAtEnding := some d.gross } }

/-- The context of a hose that has returned to IDLE (R98). -/
def idleCtx (c : HoseCtx) : HoseCtx := { c with state := .idle, timer := none, operator := none, requested := none }

/-- The context of a PAUSED hose whose dispense has come to a cause set: with an empty one it flows again (R104). -/
def resumedCtx (s : State) (h : Hose) (d : Dispense) (c : HoseCtx) : HoseCtx :=
  if d.causes = {} then
    { c with
      state := if d.preset - d.gross ≤ (s.hsc.params.get h).slowDown then .slowing else .flowing
      timer := some (s.itu.mono + (s.hsc.params.get h).noFlow * 1000), dispense := some d }
  else { c with dispense := some d }

/-- The context of a hose in flow that a cause set has paused (R103). -/
def pausedCtx (s : State) (h : Hose) (causes : Causes) (d : Dispense) (c : HoseCtx) : HoseCtx :=
  { c with
    state := .paused, timer := some (s.itu.mono + (s.hsc.params.get h).pauseLimit * 1000)
    dispense := some { d with causes := causes, pauseCount := min 255 (d.pauseCount + 1) } }

/-- A pump whose demand set a hose has left: with the set empty it stops, unless it has FAILED (R110). -/
def leftPump (h : Hose) (p : Pump) : Pump :=
  { p with
    demand := p.demand.set h false
    state := if p.demand.get (otherHose h) = true ∨ p.state = .failed then p.state else .stopped }

/-! ## A new record -/

/-- The journal with one more record, which takes the next sequence number and the part time; `closed` when it is closed
at once (R158, R159, R162, R166). -/
def appended (s : State) (closed : Bool) (body : Body) : Jnl :=
  { s.jnl with
    ring := s.jnl.ring ++
      [{ seq := s.jnl.nextSeq, openTime := s.itu.clock, closeTime := if closed then some s.itu.clock else none
         body := body }]
    nextSeq := nextNumber s.jnl.nextSeq }

/-! ## What a fault leaves -/

/-- From `s` to `t` an event kind was raised when `b` holds, and not otherwise. -/
def raisedIf (b : Bool) (e : Event) (s t : State) : Prop :=
  ∀ q, hasEvent (t.prt.ports.get q).pending e = (hasEvent (s.prt.ports.get q).pending e || b)

/-- The body of the FAULT record of a fault (R113, R148). -/
def faultBody (source : Source) (kind : FaultKind) (locked : Bool) (volume : Option Nat) : Body :=
  .fault { source := source, kind := kind, locked := locked, volume := volume, repeats := none }

/-- A fault has its FAULT record, or is held in its source's deferred entry where no slot is free (R113, R148, R167). -/
def faultStored (source : Source) (kind : FaultKind) (locked : Bool) (volume : Option Nat) (s t : State) : Prop :=
  (freeSlots s.jnl ≠ 0 → t.jnl = appended s true (faultBody source kind locked volume)) ∧
  (freeSlots s.jnl = 0 → t.jnl = { s.jnl with
    deferred := s.jnl.deferred.set source
      (some (holdFault s.itu.clock kind locked volume (s.jnl.deferred.get source))) })

/-- A fault's events: FAULT, and LOCKED when the level before was not LOCKED and becomes it (R113, R148). -/
def faultRaised (locked : Bool) (before : FaultLevel) (s t : State) : Prop :=
  raisedIf true .fault s t ∧ raisedIf (locked && before.code != 2) .locked s t

/-- A fault taken while the journal's other records stay. -/
def faultTaken (source : Source) (kind : FaultKind) (locked : Bool) (volume : Option Nat) (before : FaultLevel)
    (s t : State) : Prop :=
  faultStored source kind locked volume s t ∧ faultRaised locked before s t

/-! ## How a request ends -/

/-- Whether a frame that completes at a port is neither turned away as too early nor for the power-fail warning. -/
def takes (s : State) (p : Port) : Bool := portReady s p && !powerFail s

/-- An executed request: its answer first in the port's queue, after the idle timer's reload (R192, R197). -/
def answered (p : Port) (r : Response) (s : State) : Out := .next (answer p r (reloadByRequest p s))

end Sys2Proof.Machine
end

