-- ==== Sys2Proof/Certificates/Slice0/Obligations.lean ====
section
/-! DEFINITION. The statements for the provers, each with the rule of spec/ that it follows. `answered`, `takes` and
the predicates of the invariants are in Safety.lean; a request taken in standby wakes the part first (R194), so the
statements about requests speak of `wake s`. -/

open Sys2Proof Sys2Proof.Machine

/-! ## The queue of commands, and reset -/

/-- A step runs the command at the front of the queue (the model's own queue, log entry 29). -/
def Obligations.StepRunsFrontCommand : Prop :=
  ∀ (c : Instr) (rest : List Instr) (s : State), s.pending = c :: rest → step s = exec c { s with pending := rest }

/-- With no command waiting, a step passes a millisecond and enqueues what falls due, among it the event of each input
whose line has held the level of the other state for its debounce time. A change of a line to that level starts the
measurement, the line's return ends it, and with debounce 0 the change is the event at once (R186). The idle timer's expiry
is enqueued once its deadline is reached (R192). That time passes so, and that line changes wait in a store, are the
model's choice (log entries 1, 6 and 35). -/
def Obligations.IdleStepPassesMillisecond : Prop :=
  (∀ (d : Nat) (s : State), s.pending = [] → s.itu.idleDeadline = some d → d ≤ s.itu.mono →
    step s = .next { s with pending := [.idleTimerExpiry] }) ∧
  ∀ s : State, s.pending = [] → (∀ d ∈ s.itu.idleDeadline, s.itu.mono < d) →
    let later (lines : List LineChange) : State :=
      { s with itu := { s.itu with mono := s.itu.mono + 1, lines := lines } }
    let ends (v : State) : Prop :=
      ∃ t, step s = .next t ∧ t.pending = dueCommands t ∧ { t with pending := [] } = v
    (s.itu.lines = [] → ends (later []) ∧
      ∀ t, step s = .next t → ∀ (i : Input) (active : Bool),
        let x := s.itu.inputs.get i
        inputRow i active ∈ t.pending ↔ active ≠ x.active ∧ ∃ d, x.heldAt = some d ∧ d ≤ s.itu.mono + 1) ∧
    ∀ (c : LineChange) (rest : List LineChange), s.itu.lines = c :: rest →
      (1 < c.wait → ends (later ({ c with wait := c.wait - 1 } :: rest))) ∧
      (c.wait ≤ 1 → (∀ c' ∈ rest.head?, c'.wait ≠ 0) →
        let x := s.itu.inputs.get c.input
        let active := c.level != x.activeLow
        let v := later rest
        let put (y : InputState) : State := { v with itu := { v.itu with inputs := s.itu.inputs.set c.input y } }
        (x.level = c.level → ends v) ∧
        (x.level ≠ c.level → active = x.active → ends (put { x with level := c.level, heldAt := none })) ∧
        (x.level ≠ c.level → active ≠ x.active → x.debounce ≠ 0 →
          ends (put { x with level := c.level, heldAt := some (s.itu.mono + 1 + x.debounce) })) ∧
        (x.level ≠ c.level → active ≠ x.active → x.debounce = 0 →
          ∃ u, exec (inputRow c.input active) v = .next u ∧ ends u))

/-- No command stops the part. None touches the queue of the commands that wait: that clause speaks of the model's own
queue (the model's choice, log entry 29). -/
def Obligations.CommandsCompleteAndKeepQueue : Prop :=
  ∀ (c : Instr) (s : State), ∃ t, exec c s = .next t ∧ t.pending = s.pending

/-- A new part after reset is sound in every sense that the invariants have. -/
def Obligations.ResetStateIsSound : Prop :=
  sound State.reset = true ∧ claimsOk State.reset = true ∧ recordsOk State.reset = true ∧ inletOk State.reset = true ∧
    ∀ i, contractorOk State.reset i

/-! ## Invariants that every step keeps -/

/-- The machine table holds at most 512 entries in strictly rising number (R43). -/
def Obligations.MachineTableStaysOrdered : Prop :=
  ∀ s t : State, tableOk s = true → step s = .next t → tableOk t = true

/-- The ring's records keep consecutive numbers, and FREE, OPEN and CLOSED slots sum to 1,024 (R158). -/
def Obligations.RingStaysConsecutive : Prop :=
  ∀ s t : State, ringOk s.jnl = true → step s = .next t →
    ringOk t.jnl = true ∧ freeSlots t.jnl + openCount t.jnl + closedCount t.jnl = 1024

/-- A port is READY exactly while its response queue is empty (R197). -/
def Obligations.PortsStayConsistent : Prop :=
  ∀ s t : State, portsOk s = true → step s = .next t → portsOk t = true

/-- The hoses' and the receipt's states fix who holds a context and owns a meter (R2, Tables 6-1 and 8-2). -/
def Obligations.OwnersStayConsistent : Prop :=
  ∀ s t : State, ownersOk s = true → step s = .next t → ownersOk t = true

/-- The claims on the compartments stay exclusive; while they are, a compartment that is RECEIVING or RECONCILING has
no hose mapped to it in PRIMING through ENDING (R128). -/
def Obligations.ClaimsStayExclusive : Prop :=
  (∀ s t : State, ownersOk s = true → claimsOk s = true → step s = .next t → claimsOk t = true) ∧
  ∀ (s : State) (c : Comp) (h : Hose), ownersOk s = true → claimsOk s = true →
    ((compartment s c).op = .receiving ∨ (compartment s c).op = .reconciling) → hoseComp s h = c →
      hasDispense (hoseCtx s h).state = false

/-- Each contractor's committed amount stays the sum of those of its open dispenses (R58). -/
def Obligations.CommitmentsStaySummed : Prop :=
  ∀ s t : State, ownersOk s = true → (∀ i, contractorOk s i) → step s = .next t → ∀ i, contractorOk t i

/-- An OPEN DISPENSE or RECEIPT record always has its shadow open (R173), and an OPEN RECONCILE record its reconcile.
-/
def Obligations.OpenRecordsKeepShadows : Prop :=
  ∀ s t : State, ringOk s.jnl = true → ownersOk s = true → claimsOk s = true → recordsOk s = true →
    step s = .next t → recordsOk t = true

/-- The totals of a meter stay 64-bit values and never decrease (R10). -/
def Obligations.TotalsNeverDecrease : Prop :=
  ∀ s t : State, totalsOk s = true → step s = .next t →
    totalsOk t = true ∧ ∀ m : MeterId,
      (s.mtr.meters.get m).totalPulses ≤ (t.mtr.meters.get m).totalPulses ∧
      (s.mtr.meters.get m).totalGross ≤ (t.mtr.meters.get m).totalGross

/-! ## What only some commands change -/

/-- Once set, the emergency stop latch stays set until a hardware reset (R188). The monotonic time base does not go
back, and the clock's validity flag does not become false, but at a hardware reset (R191, R79). A pending event kind
stays pending at a port until it is acknowledged on that port (R200), or the part starts. -/
def Obligations.LatchTimeAndEventsStay : Prop :=
  (∀ (c : Instr) (s t : State), isReset c = false → s.itu.latch = true → exec c s = .next t → t.itu.latch = true) ∧
  (∀ (c : Instr) (s t : State), isReset c = false → exec c s = .next t →
     s.itu.mono ≤ t.itu.mono ∧ (s.itu.clockValid = true → t.itu.clockValid = true)) ∧
  ∀ (p : Port) (c : Instr) (s t : State), mayClearEvents p c = false → exec c s = .next t →
    (s.prt.ports.get p).pending &&& (t.prt.ports.get p).pending = (s.prt.ports.get p).pending

/-- A hose in LOCKED leaves it only by CLEAR LOCK on the service port (R118), sent as a command or as bytes. An inlet
that is LOCKED has no receipt in RECEIVING, HELD or SETTLING (R142, R148), which every step keeps; and it leaves
LOCKED only by CLEAR INLET LOCK on the service port (R149). -/
def Obligations.LockedLevelsStayLocked : Prop :=
  (∀ (h : Hose) (c : Instr) (s t : State), carriesService c = false → c ≠ .clearLock .service (hoseCode h) →
     (hoseCtx s h).state = .locked → (s.hsc.faults.get h).code = 2 → exec c s = .next t →
       (hoseCtx t h).state = .locked ∧ (t.hsc.faults.get h).code = 2) ∧
  (∀ s t : State, ownersOk s = true → inletOk s = true → step s = .next t → inletOk t = true) ∧
  ∀ (c : Instr) (s t : State), carriesService c = false → c ≠ .clearInletLock .service → inletOk s = true →
    s.rcp.fault.code = 2 → exec c s = .next t → t.rcp.fault.code = 2

/-- While calibration mode is OFF no command changes a metrological parameter: those of the meters, the hose map, the
parameters, the strapping tables and the product codes of the compartments (R176, R177, R183). -/
def Obligations.ParametersSealedOutsideCalibration : Prop :=
  ∀ (c : Instr) (s t : State), s.cal.on = false → exec c s = .next t →
    (∀ m, (t.mtr.meters.get m).params = (s.mtr.meters.get m).params) ∧ t.hsc.map = s.hsc.map ∧
    ∀ k, (compartment t k).params = (compartment s k).params ∧ (compartment t k).strapping = (compartment s k).strapping ∧
      (priceRecord t k).product = (priceRecord s k).product

/-- The release cursor never passes an OPEN record (R170), and a CLOSED record leaves the ring only by release and is
not changed (R162). -/
def Obligations.RecordsLeaveOnlyByRelease : Prop :=
  ∀ (c : Instr) (s t : State), exec c s = .next t →
    (∀ r ∈ s.jnl.ring, r.isOpen = true → ∃ r' ∈ t.jnl.ring, r'.seq = r.seq) ∧
    (mayRelease c = false → ∀ r ∈ s.jnl.ring, r.isOpen = false → r ∈ t.jnl.ring)

/-! ## Frames -/

/-- The payload of a request that can be sent decodes to the request (R204, R205, Table 13-10). -/
def Obligations.PayloadDecodesToCommand : Prop :=
  ∀ (i : Instr) (p : Port) (k : ReqKind) (payload : List Byte), i.wf = true → asRequest i = some (p, k, payload) →
    payloadCommand p k payload = some i

/-- A request sent as the bytes of its frame on the console or the uplink does what the request does; sent byte by
byte on the service line, with no frame begun there, it does that as well, and the time of the last byte before the
frame's end is kept beside it (R196 to R198). That the row REJECTED_REQUEST_FRAME carries good frames too, and executes
them, is the model's choice (log entry 27). -/
def Obligations.FramesActAsTheirRequests : Prop :=
  (∀ (i : Instr) (p : Port) (k : ReqKind) (payload : List Byte) (s : State), i.wf = true →
     asRequest i = some (p, k, payload) → p ≠ .service →
       exec (.rejectedRequestFrame p (requestFrame k payload)) s = exec i s) ∧
  ∀ (i : Instr) (k : ReqKind) (payload : List Byte) (s : State), i.wf = true →
    asRequest i = some (.service, k, payload) → (s.prt.ports.get .service).rx = [] →
      exec (.rejectedRequestFrame .service (requestFrame k payload)) s =
        exec i (modPort .service (fun x => { x with rxTime := s.itu.mono }) s)

/-- A record's image has the length that Table 13-5 and its kind's table give, and a response frame starts with its
own length (R204, R206). -/
def Obligations.ImagesAndFramesHaveTheirLengths : Prop :=
  (∀ r : Record, (recordImage r).length =
    match r.body with
    | .dispense _ => 84
    | .receipt _ => 57
    | .reconcile _ => 44
    | .adjust _ => 35
    | .fault _ => 25) ∧
  ∀ r : Response, (responseFrame r).length < 65536 →
    beValue ((responseFrame r).take 2) = (responseFrame r).length ∧
    ((responseFrame r).drop 2).take 1 = [BitVec.ofNat 8 r.status.ctorIdx]

/-- A request that is not executed: BUSY_PORT counting at a port that is not READY, POWER_FAIL while that warning is
active, NOT_PERMITTED on a port that Table 12-1 does not give (R197 to R199). Beside the wake (R194) and the answer nothing
changes: checks 1 to 5 change no state (R198), and no reload is made (R192). -/
def Obligations.RequestsTurnedAway : Prop :=
  ∀ (i : Instr) (p : Port) (k : ReqKind) (payload : List Byte) (s : State), asRequest i = some (p, k, payload) →
    (portReady s p = false → exec i s = .next (countRefused p (wake s))) ∧
    (portReady s p = true → powerFail s = true → exec i s = .next (answer p (plain .powerFail) (wake s))) ∧
    (takes s p = true → permitted k p = false → exec i s = .next (answer p (plain .notPermitted) (wake s)))

/-- The frames that no owner sees: too early, failing the frame check, during POWERFAIL, of an unknown code, or of a
wrong form (R196 to R199). An empty transfer is no frame. A frame that completes while a port is not READY is counted,
up to 255, and not examined (R197); at a READY port there is no such frame (the model's choice, log entry 30). A frame
cut short on the service line is answered FRAME_ERROR (R196); that the gap's row takes the time base to the end of the gap
is the model's choice (log entry 2). -/
def Obligations.FramesTurnedAway : Prop :=
  (∀ (p : Port) (bytes : List Byte) (s : State), p ≠ .service →
     exec (.rejectedRequestFrame p []) s = .next s ∧
     (bytes ≠ [] → portReady s p = false → exec (.rejectedRequestFrame p bytes) s = .next (countRefused p (wake s))) ∧
     (bytes ≠ [] → portReady s p = true → frameOk bytes = false →
       exec (.rejectedRequestFrame p bytes) s = .next (answer p (plain .frameError) (wake s))) ∧
     (portReady s p = true → frameOk bytes = true → powerFail s = true →
       exec (.rejectedRequestFrame p bytes) s = .next (answer p (plain .powerFail) (wake s))) ∧
     (takes s p = true → frameOk bytes = true → frameKind bytes = none →
       exec (.rejectedRequestFrame p bytes) s = .next (answer p (plain .badRequest) (wake s))) ∧
     (∀ k, takes s p = true → frameOk bytes = true → frameKind bytes = some k → permitted k p = false →
       exec (.rejectedRequestFrame p bytes) s = .next (answer p (plain .notPermitted) (wake s))) ∧
     (∀ k, takes s p = true → frameOk bytes = true → frameKind bytes = some k → permitted k p = true →
       payloadCommand p k (framePayload bytes) = none →
       exec (.rejectedRequestFrame p bytes) s = .next (answer p (plain .badRequest) (wake s)))) ∧
  (∀ (p : Port) (s : State), portReady s p = false →
    ∃ t, exec (.busyPortFrame p) s = .next t ∧
      t.prt.ports = s.prt.ports.set p
        { s.prt.ports.get p with refused := min 255 ((s.prt.ports.get p).refused + 1) } ∧
      { t with prt := s.prt, itu := s.itu } = s ∧ t.itu.standby = false) ∧
  (∀ (p : Port) (s : State), portReady s p = true → exec (.busyPortFrame p) s = .next s) ∧
  (∀ s : State, (s.prt.ports.get .service).rx = [] → exec .serviceFrameGap s = .next s) ∧
  ∀ s : State, (s.prt.ports.get .service).rx ≠ [] → frameOk (s.prt.ports.get .service).rx = false →
    portReady s .service = true →
      exec .serviceFrameGap s = .next (answer .service (plain .frameError)
        (wake (modPort .service (fun x => { x with rx := [] }) (reachTime ((s.prt.ports.get .service).rxTime + 101) s))))

/-- A response leaves its queue when its last byte has been read or sent, and not before; an empty queue gives the
empty fill, FF hex (R196, R206). The port is READY again when its queue is empty (R197). -/
def Obligations.ResponsesLeaveWhenRead : Prop :=
  (∀ (p : Port) (n : Nat) (s : State), p ≠ .service → firstResponse (s.prt.ports.get p) = none →
    exec (.responseRead p n) s = .next (modPort p (fun x => { x with sent := List.replicate n 0xFF#8 }) s)) ∧
  (∀ (p : Port) (n : Nat) (r : Response) (s : State), p ≠ .service → firstResponse (s.prt.ports.get p) = some r →
    n < (responseFrame r).length →
      exec (.responseRead p n) s = .next (modPort p (fun x => { x with sent := (responseFrame r).take n }) s)) ∧
  (∀ (p : Port) (n : Nat) (r : Response) (s : State), p ≠ .service → portOk (s.prt.ports.get p) = true →
    firstResponse (s.prt.ports.get p) = some r → (responseFrame r).length ≤ n →
      ∃ t, exec (.responseRead p n) s = .next t ∧ (t.prt.ports.get p).sent.take (responseFrame r).length = responseFrame r ∧
        (t.prt.ports.get p).sent.length = n ∧
        ((s.prt.ports.get p).answer.isSome = true ∧ (s.prt.ports.get p).refused ≠ 0 →
          firstResponse (t.prt.ports.get p) = some { status := .busyPort, payload := [.nat 1 (s.prt.ports.get p).refused] }) ∧
        ((s.prt.ports.get p).answer = none ∨ (s.prt.ports.get p).refused = 0 → portReady t p = true) ∧
        { t with prt := s.prt, fresh := s.fresh } = s) ∧
  ∀ (r : Response) (s : State), firstResponse (s.prt.ports.get .service) = some r →
    exec .serviceResponseSent s =
      .next (modPort .service (fun x => dropFirst { x with sent := responseFrame r }) s)

/-! ## Requests: meters, tags, tables -/

/-- READ METER and READ SENSORS (R21, R22). -/
def Obligations.MeterAndSensorReads : Prop :=
  ∀ (p : Port) (s : State), takes s p = true →
    (∀ m, exec (.readMeter p (meterCode m)) s = answered p (okWith (meterFields (wake s) m)) (wake s)) ∧
    (∀ n, 2 < n → exec (.readMeter p n) s = answered p (plain .badValue) (wake s)) ∧
    exec (.readSensors p) s = answered p
      (okWith ([MeterId.m1, .m2, .mi].flatMap (fun m => sensorFields s.itu.mono (s.tpi.sensors.get m))
        ++ [MeterId.m1, .m2, .mi].flatMap (fun m => [.int 2 (currentTemp s m).1, yesNo (currentTemp s m).2])
        ++ [.int 2 s.stk.comps.c1.params.fallback, .int 2 s.stk.comps.c2.params.fallback])) (wake s)

/-- TEMPLATE PUT with fields in their ranges stores the template, TEMPLATE CLEAR makes it UNUSED, TEMPLATE READ gives
it; an index above 7 is refused (R28, R40). -/
def Obligations.TemplateRequests : Prop :=
  (∀ (i : Nat) (t : Template) (s : State), takes s .uplink = true → i ≤ 7 → 8 ≤ t.minLen → t.minLen ≤ t.maxLen →
    t.maxLen ≤ 64 → t.offsets ≠ [] → t.offsets.length ≤ 16 → t.offsets.Nodup → (∀ o ∈ t.offsets, o ≤ 63) →
    t.check ≤ 65535 → 2 ≤ t.idLength → t.idLength ≤ 6 → t.idOffset + t.idLength ≤ t.minLen →
    (∀ o ∈ t.hoursOffset, o + 3 ≤ t.minLen) →
      exec (.templatePut .uplink i t.minLen t.maxLen t.offsets t.check t.idOffset t.idLength t.hoursOffset) s =
        answered .uplink (plain .ok)
          { wake s with idu := { s.idu with templates := s.idu.templates.set i (some t) } }) ∧
  (∀ (i : Nat) (s : State), takes s .uplink = true → i ≤ 7 →
    exec (.templateClear .uplink i) s =
      answered .uplink (plain .ok) { wake s with idu := { s.idu with templates := s.idu.templates.set i none } }) ∧
  (∀ (i : Nat) (t : Template) (s : State), takes s .uplink = true → 7 < i →
    exec (.templateClear .uplink i) s = answered .uplink (plain .badValue) (wake s) ∧
    exec (.templatePut .uplink i t.minLen t.maxLen t.offsets t.check t.idOffset t.idLength t.hoursOffset) s =
      answered .uplink (plain .badValue) (wake s)) ∧
  ∀ (p : Port) (i : Nat) (s : State), takes s p = true →
    (∀ t, s.idu.templates[i]? = some t → exec (.templateRead p i) s = answered p (okWith (templateFields t)) (wake s)) ∧
    (s.idu.templates[i]? = none → exec (.templateRead p i) s = answered p (plain .badValue) (wake s))

/-- TAG SETTINGS PUT stores the confirm count, clamped to 1..8, on the uplink port alone; TAG SETTINGS READ gives it
on every port; it is 3 in a new part, and a hardware reset keeps it; a good frame that is not of the present identity is
taken with the count that is stored, at a bound reader and at one with a present identity as well (R39). What a
confirmation at an ARMED hose with no comparison identity does beyond it, TagFramesAreJudged says. -/
def Obligations.TagSettingsWriteAndRead : Prop :=
  (∀ (v : Nat) (s : State), takes s .uplink = true →
    exec (.tagSettingsPut .uplink v) s =
      answered .uplink (if 1 ≤ v ∧ v ≤ 8 then plain .ok else { status := .okClamped, payload := [.nat 1 (max 1 (min 8 v))] })
        { wake s with idu := { s.idu with confirmCount := max 1 (min 8 v) } }) ∧
  (∀ (v : Nat) (p : Port) (s : State), takes s p = true → p ≠ .uplink →
    exec (.tagSettingsPut p v) s = .next (answer p (plain .notPermitted) (wake s))) ∧
  (∀ (p : Port) (s : State), takes s p = true →
    exec (.tagSettingsRead p) s = answered p (okWith [.nat 1 s.idu.confirmCount]) (wake s)) ∧
  State.reset.idu.confirmCount = 3 ∧
  (∀ (levels : BitVec 12) (battery : Bool) (down : Nat) (s t : State),
    exec (.hardwareReset levels battery down) s = .next t → t.idu.confirmCount = s.idu.confirmCount) ∧
  ∀ (h : Hose) (len : Byte) (payload crc : List Byte) (g : GoodFrame) (s t : State),
    let r := s.idu.readers.get h
    r.enabled = true → r.phase = .hunt → payload.length = len.toNat → crc.length = 2 → 8 ≤ len.toNat → len.toNat ≤ 64 →
    judgeFrame s.idu.templates len.toNat payload crc = .ok g → (∀ id ∈ r.present, id.machine ≠ g.machine) →
    exec (.tagFrame h ([0xA5#8, len] ++ payload ++ crc)) s = .next t →
      let k := growCandidate g s.itu.mono r.candidate
      (k.count < s.idu.confirmCount →
        (t.idu.readers.get h).candidate = some k ∧ (t.idu.readers.get h).present = r.present) ∧
      (s.idu.confirmCount ≤ k.count → readerWanted s h = true →
        ((hoseCtx s h).state ≠ .armed ∨ r.present ≠ none ∨ r.bound ≠ none) →
          (t.idu.readers.get h).candidate = none ∧ (t.idu.readers.get h).present = some k.ident)

/-- READ TAG DIAGNOSTICS gives the state of one reader, and then clears its counters and its last bad cause, and
nothing else; a reader other than T1 and T2 is refused (R41). -/
def Obligations.TagDiagnosticsReadAndClear : Prop :=
  ∀ (p : Port) (s : State), takes s p = true →
    (∀ h : Hose,
      let r := s.idu.readers.get h
      exec (.readTagDiagnostics p (hoseCode h)) s =
        answered p
          (okWith
            [.nat 1 (if r.enabled then 1 else 0), .nat 1 r.reception.ctorIdx,
             .optNat 6 (r.present.map (·.machine)), .optNat 1 (r.present.map (·.template)),
             .optNat 4 (r.present.bind (·.hours)), .optNat 6 (r.candidate.map (·.ident.machine)),
             .optNat 1 (r.candidate.map (·.count)), .nat 1 (if r.lost then 1 else 0), .optNat 6 r.bound,
             .nat 1 r.badFrames, .nat 1 r.lastBad.ctorIdx, .nat 2 r.goodFrames])
          { wake s with
            idu := { s.idu with
              readers := s.idu.readers.set h { r with badFrames := 0, lastBad := .none, goodFrames := 0 } } }) ∧
    ∀ n, 1 < n → exec (.readTagDiagnostics p n) s = answered p (plain .badValue) (wake s)

/-- MACHINE PUT: an entry is inserted or replaced, keeping consumption, markers, hours and last fill; the refusals
REMOVING, field errors and FULL come in that order (R44, R45). The form of the answer, 0 or 1 and the entry count where the
entry was inserted, is the model's choice (log entry 12). -/
def Obligations.MachinePutWritesEntry : Prop :=
  ∀ (n st k cs mn tg : Nat) (c1 a1 c2 a2 : Option Nat) (s : State), takes s .uplink = true →
    let put := exec (.machinePut .uplink n st k cs c1 a1 c2 a2 mn tg) s
    let inRange := n ≠ 0 ∧ n ≤ 281474976710655 ∧ k ≤ 31 ∧ (cs = 1 ∨ cs = 2 ∨ cs = 3) ∧ mn ≤ 1 ∧ tg ≤ 1 ∧ st ≤ 1 ∧
      (∀ v ∈ c1, v ≠ 0 ∧ v ≤ 99999999) ∧ (∀ v ∈ c2, v ≠ 0 ∧ v ≤ 99999999) ∧
      (∀ v ∈ a1, v ≤ 4294967295) ∧ (∀ v ∈ a2, v ≤ 4294967295)
    let entry : MachineEntry :=
      { number := n, status := if st = 0 then .active else .barred, origin := .listed, contractor := k
        comps := ⟨cs.testBit 0, cs.testBit 1⟩, capacity := ⟨c1, c2⟩, allowance := ⟨a1, a2⟩, manual := mn == 1
        tagRequired := tg == 1 }
    (st = 2 → put = answered .uplink (plain .badRequest) (wake s)) ∧
    (st ≠ 2 → ¬inRange → put = answered .uplink (plain .badValue) (wake s)) ∧
    (inRange → lookup s.mtb.machines n = none → 512 ≤ s.mtb.machines.length →
      put = answered .uplink (plain .full) (wake s)) ∧
    (inRange → lookup s.mtb.machines n = none → s.mtb.machines.length < 512 →
      put = answered .uplink (okWith [.nat 1 0, .optNat 2 (some (s.mtb.machines.length + 1))])
        { wake s with mtb := { s.mtb with machines := insertEntry entry s.mtb.machines } }) ∧
    ∀ old, inRange → lookup s.mtb.machines n = some old →
      put = answered .uplink (okWith [.nat 1 1, .optNat 2 none])
        { wake s with
          mtb := { s.mtb with
            machines := insertEntry
              { entry with consumed := old.consumed, marker := old.marker, hours := old.hours, lastFill := old.lastFill }
              s.mtb.machines } }

/-- MACHINE REMOVE takes an entry without open markers out, and makes one with a marker REMOVING; MACHINE READ and
MACHINE LIST, of at most 16 entries, give entries (R46, R47). -/
def Obligations.MachineRemoveAndReads : Prop :=
  (∀ (n : Nat) (s : State), takes s .uplink = true →
    (lookup s.mtb.machines n = none → exec (.machineRemove .uplink n) s = answered .uplink (plain .notFound) (wake s)) ∧
    (∀ e, lookup s.mtb.machines n = some e → e.status = .removing →
      exec (.machineRemove .uplink n) s = answered .uplink (okWith [.nat 1 1]) (wake s)) ∧
    (∀ e, lookup s.mtb.machines n = some e → e.status ≠ .removing → (e.marker.c1.isSome ∨ e.marker.c2.isSome) →
      exec (.machineRemove .uplink n) s = answered .uplink (okWith [.nat 1 1])
        { wake s with
          mtb := { s.mtb with
            machines := s.mtb.machines.map fun x => if x.number = n then { x with status := .removing } else x } }) ∧
    ∀ e, lookup s.mtb.machines n = some e → e.status ≠ .removing → e.marker = ⟨none, none⟩ →
      exec (.machineRemove .uplink n) s = answered .uplink (okWith [.nat 1 0])
        { wake s with mtb := { s.mtb with machines := s.mtb.machines.filter fun x => x.number ≠ n } }) ∧
  ∀ (p : Port) (n : Nat) (s : State), takes s p = true → p ≠ .service →
    (lookup s.mtb.machines n = none → exec (.machineRead p n) s = answered p (plain .notFound) (wake s)) ∧
    (∀ e, lookup s.mtb.machines n = some e → exec (.machineRead p n) s = answered p (okWith (entryFields e)) (wake s)) ∧
    let rest := s.mtb.machines.filter fun e => n ≤ e.number
    exec (.machineList p n) s =
      answered p
        (okWith (.nat 1 (min 16 rest.length) :: (rest.take 16).flatMap entryFields
          ++ [yesNo (decide (16 < rest.length)), .nat 2 s.mtb.machines.length])) (wake s)

/-- OPEN SITE PUT, PERIOD SETTINGS PUT, with the rollover it may bring, and GROUP RULE PUT, which disarms the rule's
watch; and their reads (R52 to R55). The two bytes of the period day and the site day are the model's choice (log entry 12),
and so is the yes-or-no code of open-site mode (log entry 13). -/
def Obligations.SiteAndRuleSettings : Prop :=
  (∀ (md k : Nat) (a1 a2 : Option Nat) (s : State), takes s .uplink = true → md ≤ 1 → k ≤ 31 →
    (∀ v ∈ a1, v ≤ 4294967295) → (∀ v ∈ a2, v ≤ 4294967295) →
      exec (.openSitePut .uplink md k a1 a2) s =
        answered .uplink (plain .ok)
          { wake s with
            mtb := { s.mtb with openSite := { on := md == 1, contractor := k, allowance := ⟨a1, a2⟩ } } }) ∧
  (∀ (d : Nat) (s : State), takes s .uplink = true →
    exec (.periodSettingsPut .uplink d) s =
      answered .uplink (if d ≤ 1439 then plain .ok else { status := .okClamped, payload := [.nat 2 1439] })
        (evalRollover { wake s with mtb := { s.mtb with dayStart := min 1439 d } })) ∧
  (∀ (i st lo hi k cs w : Nat) (a1 a2 : Option Nat) (s : State), takes s .uplink = true → i ≤ 7 → st ≤ 1 → lo ≠ 0 →
    lo ≤ hi → hi ≤ 281474976710655 → k ≤ 31 → (cs = 1 ∨ cs = 2 ∨ cs = 3) → (∀ v ∈ a1, v ≤ 4294967295) →
    (∀ v ∈ a2, v ≤ 4294967295) →
      let interval := if w = 0 then 0 else max 10 (min 10080 w)
      exec (.groupRulePut .uplink i st lo hi k cs a1 a2 w) s =
        answered .uplink (if interval = w then plain .ok else { status := .okClamped, payload := [.nat 2 interval] })
          { wake s with
            mtb := { s.mtb with
              rules := s.mtb.rules.set i
                { active := st == 1, low := lo, high := hi, contractor := k, comps := ⟨cs.testBit 0, cs.testBit 1⟩
                  allowance := ⟨a1, a2⟩, interval := interval, watch := .disarmed } } }) ∧
  ∀ (p : Port) (s : State), takes s p = true → p ≠ .service →
    exec (.openSiteRead p) s =
      answered p
        (okWith [yesNo s.mtb.openSite.on, .nat 1 s.mtb.openSite.contractor, .optNat 4 s.mtb.openSite.allowance.c1,
                 .optNat 4 s.mtb.openSite.allowance.c2]) (wake s) ∧
    exec (.periodSettingsRead p) s =
      answered p
        (okWith [.nat 2 s.mtb.dayStart, .nat 2 s.mtb.periodDay,
                 .optNat 2 (if s.itu.clockValid then some ((s.itu.clock - s.mtb.dayStart * 60) / 86400) else none)])
        (wake s) ∧
    (∀ (i : Nat) (r : GroupRule), s.mtb.rules[i]? = some r →
      exec (.groupRuleRead p i) s = answered p (okWith (ruleFields r)) (wake s)) ∧
    ∀ i : Nat, s.mtb.rules[i]? = none → exec (.groupRuleRead p i) s = answered p (plain .badValue) (wake s)

/-- CONTRACTOR PUT writes state, adjustment, basis and credit limit, and leaves the accrued and committed amounts; a
field outside its range is refused (R59). -/
def Obligations.ContractorPutWritesEntry : Prop :=
  ∀ (i st b : Nat) (adj : Int) (lim : Option Nat) (s : State), takes s .uplink = true →
    (i ≤ 31 → st ≤ 2 → -2000 ≤ adj → adj ≤ 2000 → b ≤ 1 → (∀ v ∈ lim, v ≤ 4294967295) →
      exec (.contractorPut .uplink i st adj b lim) s =
        answered .uplink (plain .ok)
          { wake s with
            bil := { s.bil with
              contractors := s.bil.contractors.modify i fun k =>
                { k with
                  state := if st = 0 then .unused else if st = 1 then .opened else .hold
                  adjustment := adj, basis := if b = 0 then .standard else .gross, limit := lim } } }) ∧
    ((31 < i ∨ 2 < st ∨ adj < -2000 ∨ 2000 < adj ∨ 1 < b) →
      exec (.contractorPut .uplink i st adj b lim) s = answered .uplink (plain .badValue) (wake s))

/-- CONTRACTOR SETTLE lowers the accrued amount, to 0 at least, and nothing else, in every state of the entry, on the
uplink port alone (R60). CONTRACTOR READ gives every field of the entry, on the console and uplink ports, and changes
nothing (R61). -/
def Obligations.ContractorSettleAndRead : Prop :=
  ((∀ (i a : Nat) (p : Port) (s : State), takes s p = true → p ≠ .uplink →
     exec (.contractorSettle p i a) s = .next (answer p (plain .notPermitted) (wake s))) ∧
   ∀ (i a : Nat) (s : State), takes s .uplink = true → a ≤ 4294967295 →
     (31 < i → exec (.contractorSettle .uplink i a) s = answered .uplink (plain .badValue) (wake s)) ∧
     (∀ k, i ≤ 31 → s.bil.contractors[i]? = some k →
       exec (.contractorSettle .uplink i a) s =
         answered .uplink (okWith [.nat 4 (if k.accrued < a then 0 else k.accrued - a)])
           { wake s with
             bil := { s.bil with
               contractors := s.bil.contractors.set i
                 { k with accrued := if k.accrued < a then 0 else k.accrued - a } } })) ∧
  (∀ (p : Port) (i : Nat) (s : State), takes s p = true → p ≠ .service →
    (31 < i → exec (.contractorRead p i) s = answered p (plain .badValue) (wake s)) ∧
    (∀ k, i ≤ 31 → s.bil.contractors[i]? = some k →
      exec (.contractorRead p i) s =
        answered p
          (okWith [.nat 1 k.state.ctorIdx, .int 2 k.adjustment, .nat 1 k.basis.ctorIdx, .optNat 4 k.limit,
                   .nat 4 k.accrued, .nat 4 k.committed]) (wake s))) ∧
  ∀ (i : Nat) (s : State), takes s .service = true →
    exec (.contractorRead .service i) s = .next (answer .service (plain .notPermitted) (wake s))

/-- PRICE SET takes effect at once, with its ADJUST record, PRICE_CHANGED and, at 64 free slots or fewer, JOURNAL_LOW, or
waits for its time; WRONG_PRODUCT,
TIME_INVALID and JOURNAL_FULL turn it away (R64, R65). PRICE READ gives both records (R74). -/
def Obligations.PriceSetAndRead : Prop :=
  (∀ (c : Comp) (pr v : Nat) (e : Option Nat) (s : State), takes s .uplink = true → 1 ≤ pr → pr ≤ 15 → v ≤ 99999 →
    let put := exec (.priceSet .uplink (compCode c) pr v e) s
    (pr ≠ (priceRecord s c).product → put = answered .uplink (refusedFor .wrongProduct) (wake s)) ∧
    (pr = (priceRecord s c).product → e.isSome = true → s.itu.clockValid = false →
      put = answered .uplink (refusedFor .timeInvalid) (wake s)) ∧
    (∀ t, pr = (priceRecord s c).product → e = some t → s.itu.clockValid = true → s.itu.clock < t →
      put = answered .uplink (plain .ok)
        { wake s with
          bil := { s.bil with
            prices := s.bil.prices.set c
              { priceRecord s c with pending := some { price := v, effective := t, origin := .uplink } } } }) ∧
    (pr = (priceRecord s c).product → (e = none ∨ ∃ t, e = some t ∧ s.itu.clockValid = true ∧ t ≤ s.itu.clock) →
      (freeSlots s.jnl = 0 → put = answered .uplink (refusedFor .journalFull) (wake s)) ∧
      (freeSlots s.jnl ≠ 0 →
        ∃ t, put = answered .uplink (plain .ok) t ∧
          t.bil = { s.bil with prices := s.bil.prices.set c { priceRecord s c with current := some v } } ∧
          t.jnl = { s.jnl with
            ring := s.jnl.ring ++
              [{ seq := s.jnl.nextSeq, openTime := s.itu.clock, closeTime := some s.itu.clock
                 body := .adjust
                   { param := .price, subject := Subject.ofComp c, old := (priceRecord s c).current.map Int.ofNat
                     new := v, origin := .uplink } }]
            nextSeq := nextNumber s.jnl.nextSeq } ∧
          t.prt = (raise .priceChanged (raiseIf (decide (freeSlots t.jnl ≤ 64)) .journalLow s)).prt ∧
          t.itu = (wake s).itu ∧ { t with bil := s.bil, jnl := s.jnl, prt := s.prt, itu := s.itu } = s))) ∧
  ∀ (p : Port) (s : State), takes s p = true →
    exec (.priceRead p) s = answered p (okWith (priceFields s .c1 ++ priceFields s .c2)) (wake s)

/-- PRICE PENDING CLEAR withdraws the pending price of one compartment, due or not: no record is written, no event
raised, and the current price stays (R66). -/
def Obligations.PricePendingClearWithdraws : Prop :=
  (∀ s : State, takes s .uplink = true →
    (∀ n, 1 < n → exec (.pricePendingClear .uplink n) s = answered .uplink (plain .badValue) (wake s)) ∧
    ∀ c : Comp,
      ((priceRecord s c).pending = none →
        exec (.pricePendingClear .uplink (compCode c)) s = answered .uplink (plain .notFound) (wake s)) ∧
      ((priceRecord s c).pending ≠ none →
        exec (.pricePendingClear .uplink (compCode c)) s =
          answered .uplink (plain .ok)
            { wake s with
              bil := { s.bil with prices := s.bil.prices.set c { priceRecord s c with pending := none } } })) ∧
  ∀ (n : Nat) (p : Port) (s : State), takes s p = true → p ≠ .uplink →
    exec (.pricePendingClear p n) s = .next (answer p (plain .notPermitted) (wake s))

/-! ## Hoses and their pumps -/

/-- ARM HOSE arms an IDLE hose when checks 1 to 4 pass (R97); DISARM HOSE and the ARMED timeout return an ARMED hose
to IDLE, with its operator code and requested preset cleared (R98). That the timeout's row takes the time base to the
deadline is the model's choice (log entry 2). -/
def Obligations.ArmingAndDisarming : Prop :=
  (∀ (h : Hose) (op : Nat) (v : Option Nat) (s : State), takes s .console = true → op ≤ 65535 →
    (∀ x ∈ v, x ≠ 0 ∧ x ≤ 99999999) →
      (commonRefusal s = none → (hoseCtx s h).state = .idle →
        ∃ t, exec (.armHose .console (hoseCode h) op v) s = answered .console (plain .ok) t ∧ hoseMoves h (wake s) t ∧
          t.hsc.pumps = s.hsc.pumps ∧
          hoseCtx t h =
            { hoseCtx s h with
              state := .armed, operator := some op, requested := v
              timer := some (s.itu.mono + (s.hsc.params.get h).armed * 1000) }) ∧
      (∀ r, commonRefusal s = some r →
        exec (.armHose .console (hoseCode h) op v) s = answered .console (refusedFor r) (wake s)) ∧
      (commonRefusal s = none → (hoseCtx s h).state ≠ .idle →
        exec (.armHose .console (hoseCode h) op v) s = answered .console (refusedFor .busy) (wake s))) ∧
  (∀ (h : Hose) (s : State), takes s .console = true →
    ((hoseCtx s h).state = .armed →
      ∃ t, exec (.disarmHose .console (hoseCode h)) s = answered .console (plain .ok) t ∧ hoseMoves h (wake s) t ∧
        t.hsc.pumps = s.hsc.pumps ∧ hoseCtx t h = idleCtx (hoseCtx s h)) ∧
    (hasDispense (hoseCtx s h).state = true →
      exec (.disarmHose .console (hoseCode h)) s = answered .console (plain .busy) (wake s)) ∧
    (inUse (hoseCtx s h).state = false →
      exec (.disarmHose .console (hoseCode h)) s = answered .console (plain .notActive) (wake s))) ∧
  ∀ (h : Hose) (d : Nat) (s : State), (hoseCtx s h).state = .armed → (hoseCtx s h).timer = some d →
    ∃ t, exec (.armedTimeout h) s = .next t ∧ hoseMoves h (reachTime d s) t ∧ t.hsc.pumps = s.hsc.pumps ∧
      hoseCtx t h = idleCtx (hoseCtx s h)

/-- PAUSE HOSE and RESUME HOSE (R105), with the pause and the return that R103 and R104 give. -/
def Obligations.PauseAndResume : Prop :=
  (∀ (h : Hose) (d : Dispense) (s : State), takes s .console = true → (hoseCtx s h).dispense = some d →
    let pause := exec (.pauseHose .console (hoseCode h)) s
    let resume := exec (.resumeHose .console (hoseCode h)) s
    (((hoseCtx s h).state = .flowing ∨ (hoseCtx s h).state = .slowing) →
      ∃ t, pause = answered .console (plain .ok) t ∧ hoseMoves h (wake s) t ∧ t.hsc.pumps = s.hsc.pumps ∧
        hoseCtx t h =
          { hoseCtx s h with
            state := .paused, timer := some (s.itu.mono + (s.hsc.params.get h).pauseLimit * 1000)
            dispense := some { d with
              causes := { d.causes with operator := true }, pauseCount := min 255 (d.pauseCount + 1) } }) ∧
    ((hoseCtx s h).state = .paused →
      pause = answered .console (plain .ok)
        { wake s with
          hsc := { s.hsc with
            hoses := s.hsc.hoses.set h
              { hoseCtx s h with dispense := some { d with causes := { d.causes with operator := true } } } } }) ∧
    ((hoseCtx s h).state = .paused → d.causes.operator = true → (d.causes.tag = true ∨ d.causes.pump = true) →
      resume = answered .console (plain .ok)
        { wake s with
          hsc := { s.hsc with
            hoses := s.hsc.hoses.set h
              { hoseCtx s h with dispense := some { d with causes := { d.causes with operator := false } } } } }) ∧
    ((hoseCtx s h).state = .paused → d.causes = { operator := true } →
      ∃ t, resume = answered .console (plain .ok) t ∧ hoseMoves h (wake s) t ∧ t.hsc.pumps = s.hsc.pumps ∧
        hoseCtx t h =
          { hoseCtx s h with
            state := if d.preset - d.gross ≤ (s.hsc.params.get h).slowDown then .slowing else .flowing
            timer := some (s.itu.mono + (s.hsc.params.get h).noFlow * 1000), dispense := some { d with causes := {} } })) ∧
  (∀ (h : Hose) (s : State), takes s .console = true →
    ((hoseCtx s h).state ≠ .flowing → (hoseCtx s h).state ≠ .slowing → (hoseCtx s h).state ≠ .paused →
      exec (.pauseHose .console (hoseCode h)) s = answered .console (plain .notActive) (wake s)) ∧
    (((hoseCtx s h).state ≠ .paused ∨ ∀ d ∈ (hoseCtx s h).dispense, d.causes.operator = false) →
      exec (.resumeHose .console (hoseCode h)) s = answered .console (plain .notActive) (wake s))) ∧
  (∀ (n : Nat) (s : State), takes s .console = true → 1 < n →
    exec (.pauseHose .console n) s = answered .console (plain .badValue) (wake s) ∧
    exec (.resumeHose .console n) s = answered .console (plain .badValue) (wake s)) ∧
  ∀ (n : Nat) (p : Port) (s : State), takes s p = true → p ≠ .console →
    exec (.pauseHose p n) s = .next (answer p (plain .notPermitted) (wake s)) ∧
    exec (.resumeHose p n) s = .next (answer p (plain .notPermitted) (wake s))

/-- STOP HOSE by the hose's state; REMOTE_STOP is set by the uplink's stop alone (R106). -/
def Obligations.StopHoseEndsDispense : Prop :=
  (∀ (h : Hose) (p : Port) (s : State), takes s p = true → p ≠ .service →
    ((hoseCtx s h).state = .armed →
      ∃ t, exec (.stopHose p (hoseCode h)) s = answered p (plain .ok) t ∧ hoseMoves h (wake s) t ∧
        t.hsc.pumps = s.hsc.pumps ∧ hoseCtx t h = idleCtx (hoseCtx s h)) ∧
    (∀ d, inDemand (hoseCtx s h).state = true → (hoseCtx s h).dispense = some d →
      ∃ t, exec (.stopHose p (hoseCode h)) s = answered p (plain .ok) t ∧ hoseMoves h (wake s) t ∧
        hoseCtx t h =
          endingCtx .stopped s.itu.mono
            { d with flags := { d.flags with remoteStop := d.flags.remoteStop || p == .uplink } } (hoseCtx s h) ∧
        t.hsc.pumps = s.hsc.pumps.set d.comp (leftPump h (s.hsc.pumps.get d.comp))) ∧
    ((hoseCtx s h).state = .ending →
      exec (.stopHose p (hoseCode h)) s = answered p (plain .ok) (wake s)) ∧
    (inUse (hoseCtx s h).state = false →
      exec (.stopHose p (hoseCode h)) s = answered p (plain .notActive) (wake s))) ∧
  (∀ (n : Nat) (p : Port) (s : State), takes s p = true → p ≠ .service → 1 < n →
    exec (.stopHose p n) s = answered p (plain .badValue) (wake s)) ∧
  ∀ (n : Nat) (s : State), takes s .service = true →
    exec (.stopHose .service n) s = .next (answer .service (plain .notPermitted) (wake s))

/-- CLEAR HALT and CLEAR LOCK return a hose to IDLE with fault level NONE, and a FAILED pump of its compartment to
STOPPED, and no other pump changes; a metrological halt is cleared on the service port alone, and a hose that is not HALTED
answers NOT_ACTIVE to CLEAR HALT on every port (R118, R111). -/
def Obligations.ClearsReturnHoseToIdle : Prop :=
  let cleared (h : Hose) (s t : State) : Prop :=
    let p := s.hsc.pumps.get (hoseComp s h)
    hoseCtx t h = { hoseCtx s h with state := .idle } ∧ hoseCtx t (otherHose h) = hoseCtx s (otherHose h) ∧
    t.hsc.faults = s.hsc.faults.set h .clear ∧
    t.hsc.pumps = s.hsc.pumps.set (hoseComp s h) (if p.state = .failed then { p with state := .stopped } else p) ∧
    t.mtr = s.mtr ∧ t.stk = s.stk ∧ t.jnl = s.jnl ∧ t.rcp = s.rcp ∧ t.bil = s.bil ∧ t.mtb = s.mtb
  (∀ (h : Hose) (k : FaultKind) (p : Port) (s : State), takes s p = true → (hoseCtx s h).state = .halted →
    s.hsc.faults.get h = .halted k →
      ((k = .pumpStart ∨ p = .service) →
        ∃ t, exec (.clearHalt p (hoseCode h)) s = answered p (plain .ok) t ∧ cleared h s t) ∧
      ((k = .channel ∨ k = .overrun ∨ k = .leak) → p ≠ .service →
        exec (.clearHalt p (hoseCode h)) s = answered p (plain .notPermitted) (wake s))) ∧
  (∀ (h : Hose) (p : Port) (s : State), takes s p = true → (hoseCtx s h).state ≠ .halted →
    exec (.clearHalt p (hoseCode h)) s = answered p (plain .notActive) (wake s)) ∧
  (∀ (n : Nat) (p : Port) (s : State), takes s p = true → 1 < n →
    exec (.clearHalt p n) s = answered p (plain .badValue) (wake s)) ∧
  ∀ (h : Hose) (s : State), takes s .service = true →
    ((hoseCtx s h).state = .locked →
      ∃ t, exec (.clearLock .service (hoseCode h)) s = answered .service (plain .ok) t ∧ cleared h s t) ∧
    ((hoseCtx s h).state ≠ .locked →
      exec (.clearLock .service (hoseCode h)) s = answered .service (plain .notActive) (wake s))

/-- The parameters of the hoses, the site and the compartments' books are stored clamped to their ranges, and read
back; READ HOSE and READ STOCK give the state they name and change nothing (R121, R122, R127, R137). -/
def Obligations.HoseAndStockSettings : Prop :=
  (∀ (h : Hose) (x : HoseParams) (s : State), takes s .uplink = true →
    let y : HoseParams :=
      { armed := max 30 (min 600 x.armed), firstFlow := max 10 (min 300 x.firstFlow), noFlow := max 5 (min 255 x.noFlow)
        grace := max 1 (min 10 x.grace), pauseLimit := max 10 (min 300 x.pauseLimit), slowDown := min 20000 x.slowDown
        hoseMax := max 100000 (min 9000000 x.hoseMax), overrun := max 500 (min 20000 x.overrun) }
    exec (.hoseSettingsPut .uplink (hoseCode h) x.armed x.firstFlow x.noFlow x.grace x.pauseLimit x.slowDown x.hoseMax
        x.overrun) s =
      answered .uplink (if y = x then plain .ok else { status := .okClamped, payload := paramFields y })
        { wake s with hsc := { s.hsc with params := s.hsc.params.set h y } }) ∧
  (∀ (m r : Nat) (s : State), takes s .uplink = true →
    exec (.deliverySettingsPut .uplink m r) s =
      answered .uplink
        (if m ≤ 20000 ∧ r ≤ 3 then plain .ok
         else { status := .okClamped, payload := [.nat 4 (min 20000 m), .nat 1 (min 3 r)] })
        { wake s with hsc := { s.hsc with minDelivery := min 20000 m, retries := min 3 r } }) ∧
  (∀ (c : Comp) (x : StockSettings) (s : State), takes s .uplink = true →
    let y : StockSettings :=
      { level := min 99999999 x.level, hysteresis := min 10000000 x.hysteresis, tolerance := min 1000000 x.tolerance }
    exec (.stockSettingsPut .uplink (compCode c) x.level x.hysteresis x.tolerance) s =
      answered .uplink
        (if y = x then plain .ok
         else { status := .okClamped, payload := [.nat 4 y.level, .nat 4 y.hysteresis, .nat 4 y.tolerance] })
        { wake s with stk := { comps := s.stk.comps.set c { compartment s c with settings := y } } }) ∧
  ∀ (p : Port) (s : State), takes s p = true →
    exec (.hoseSettingsRead p) s =
      answered p
        (okWith (paramFields s.hsc.params.h1 ++ paramFields s.hsc.params.h2
          ++ [.nat 4 s.hsc.minDelivery, .nat 1 s.hsc.retries])) (wake s) ∧
    (∀ h : Hose, exec (.readHose p (hoseCode h)) s = answered p (okWith (hoseFields (wake s) h)) (wake s)) ∧
    exec (.stockSettingsRead p) s =
      answered p
        (okWith
          [.nat 4 s.stk.comps.c1.settings.level, .nat 4 s.stk.comps.c1.settings.hysteresis,
           .nat 4 s.stk.comps.c1.settings.tolerance, .nat 4 s.stk.comps.c2.settings.level,
           .nat 4 s.stk.comps.c2.settings.hysteresis, .nat 4 s.stk.comps.c2.settings.tolerance]) (wake s) ∧
    exec (.readStock p) s = answered p (okWith (compFields s .c1 ++ compFields s .c2)) (wake s)

/-- The preset of a grant is the least of the figures of the present limits, its limiter is the first limit that has
it, and it is at least 1 mL and the minimum delivery; the committed volume is its standard volume (R86, R87). -/
def Obligations.PresetIsTheFirstLeastFigure : Prop :=
  ∀ (h : Hose) (tr : Trigger) (e : MachineEntry) (cls : IdClass) (s : State) (g : Grant),
    presetCheck h tr e cls s = .ok g →
      let ctl := ctlAt s (hoseComp s h) (currentTemp s (hoseMeter h)).1
      let figures := limitFigures h e g.granted.price ctl s
      (∀ x ∈ figures, g.preset ≤ x.2) ∧
      (∃ before after, figures = before ++ (g.limiter, g.preset) :: after ∧ ∀ x ∈ before, g.preset < x.2) ∧
      s.hsc.minDelivery ≤ g.preset ∧ 1 ≤ g.preset ∧ g.preset ≤ (s.hsc.params.get h).hoseMax ∧
      g.standard = roundNat (g.preset * ctl) 1000000

/-- AUTHORISE MANUAL on an ARMED hose whose fourteen checks pass makes the grant with all its reservations, and
answers its number, preset and limiter (R88 to R90, R99, R71). A refused authorisation reserves nothing: the hose
returns to IDLE with a refusal note, and the refusal event is raised, with JOURNAL_FULL at check 6 (R80, R161); in the
other states it is turned away (R90). -/
def Obligations.ManualAuthorisation : Prop :=
  (∀ (h : Hose) (n : Nat) (hours : Option Nat) (s w : State) (g : Grant), takes s .console = true → n ≠ 0 →
     n ≤ 281474976710655 → (∀ x ∈ hours, x ≤ 9999999) → (hoseCtx s h).state = .armed →
     runChecks h { machine := n, mode := .manual, template := none, hours := hours } (wake s) = (w, .ok g) →
       ∃ t, exec (.authoriseManual .console (hoseCode h) n hours) s =
           answered .console (okWith [.nat 4 s.jnl.nextSeq, .nat 4 g.preset, .nat 1 g.limiter.ctorIdx]) t ∧
         ((hoseCtx t h).state = .priming ∨ (hoseCtx t h).state = .ready) ∧
         (hoseCtx t h).dispense = some (grantDispense s.jnl.nextSeq g) ∧
         t.mtb.machines =
           s.mtb.machines.map (fun e => if e.number = g.granted.machine then { e with marker := e.marker.set g.comp (some h) } else e) ∧
         t.jnl = { s.jnl with
           ring := s.jnl.ring ++
             [{ seq := s.jnl.nextSeq, openTime := s.itu.clock, closeTime := none
                body := .dispense (grantRecord h ((hoseCtx s h).operator.getD 0) g) }]
           nextSeq := nextNumber s.jnl.nextSeq } ∧
         (compartment t g.comp).committed = (compartment s g.comp).committed + g.standard ∧
         (compartment t g.comp).op = draw (compartment s g.comp).op ∧
         t.bil.contractors =
           s.bil.contractors.modify g.granted.contractor (fun k => { k with committed := k.committed + g.amount }) ∧
         (t.mtr.meters.get (hoseMeter h)).owned = true ∧ (t.mtr.meters.get (hoseMeter h)).counts = {} ∧
         (t.hsc.shadows.get h).opened = true ∧ (t.hsc.shadows.get h).seq = s.jnl.nextSeq ∧
         (t.idu.readers.get h).bound = some n ∧ (t.hsc.pumps.get g.comp).demand.get h = true) ∧
  ∀ (h : Hose) (n : Nat) (hours : Option Nat) (s : State), takes s .console = true → n ≠ 0 →
    n ≤ 281474976710655 → (∀ x ∈ hours, x ≤ 9999999) →
      (∀ w r, (hoseCtx s h).state = .armed →
        runChecks h { machine := n, mode := .manual, template := none, hours := hours } (wake s) = (w, .error r) →
          ∃ t, exec (.authoriseManual .console (hoseCode h) n hours) s = answered .console (refusedFor r) t ∧
            hoseCtx t h =
              { idleCtx (hoseCtx s h) with note := some { reason := r, machine := n, mode := .manual, time := s.itu.clock } } ∧
            (∀ q, hasEvent (t.prt.ports.get q).pending (Event.refusedOf h) = true ∧
              (r = .journalFull → hasEvent (t.prt.ports.get q).pending .journalFull = true)) ∧
            t.jnl = s.jnl ∧ t.stk = s.stk ∧ t.bil = s.bil ∧ t.mtb = s.mtb ∧ t.mtr = s.mtr ∧
            hoseCtx t (otherHose h) = hoseCtx s (otherHose h)) ∧
      (inUse (hoseCtx s h).state = false →
        exec (.authoriseManual .console (hoseCode h) n hours) s = answered .console (plain .notActive) (wake s)) ∧
      (hasDispense (hoseCtx s h).state = true →
        exec (.authoriseManual .console (hoseCode h) n hours) s = answered .console (plain .busy) (wake s))

/-- The first-flow and no-flow timeouts and the pause limit end the flow, each with its outcome, which a proving run
maps under R181, and with the settle time from then (R100, R101, R104, R108). The hose leaves its pump's demand set, which
stops a pump that no other hose demands (R110). That a timer's row takes the time base to the deadline is the model's
choice (log entry 2). -/
def Obligations.FlowTimersEnterEnding : Prop :=
  ∀ (h : Hose) (n : Nat) (d : Dispense) (s : State), (hoseCtx s h).timer = some n → (hoseCtx s h).dispense = some d →
    let ends (c : Instr) (o : DispenseOutcome) : Prop :=
      ∃ t, exec c s = .next t ∧ hoseMoves h (reachTime n s) t ∧
        hoseCtx t h = endingCtx o (max s.itu.mono n) d (hoseCtx s h) ∧
        t.hsc.pumps = s.hsc.pumps.set d.comp (leftPump h (s.hsc.pumps.get d.comp))
    ((hoseCtx s h).state = .ready → ends (.firstFlowTimeout h) .expired) ∧
    ((hoseCtx s h).state = .flowing ∨ (hoseCtx s h).state = .slowing → ends (.noFlowTimeout h) .noFlow) ∧
    ((hoseCtx s h).state = .paused →
      ends (.pauseLimit h) (if d.causes.tag then .tagLost else .stopped))

/-- The end of the settle time closes the dispense: figures and totals of its meter (R8), the machine's entry with
consumption, marker, last fill and hours, and its removal where it was REMOVING (R49), the group watches (R56), the
contractor (R70, R72), the book with its notices (R131, R135, R136), the record with outcome and figures (R109, R163), the
proving result of a proving run (R182), the shadow and the hose. A close of zero standard volume gives no notice, as R131
has it; that this stands before R127 and R136, which have a book below a level raised since notified at the next close, is
read from the text (log entry 9). -/
def Obligations.SettleEndClosesDispense : Prop :=
  ∀ (h : Hose) (n : Nat) (d : Dispense) (s : State), (hoseCtx s h).state = .ending → (hoseCtx s h).timer = some n →
    (hoseCtx s h).dispense = some d →
      let m := s.mtr.meters.get (hoseMeter h)
      let gross := runningGross m
      let mean := meanTemp s (hoseMeter h) d.sampling.sum d.sampling.n
      let ctl := ctlAt s d.comp mean.1
      let standard := roundNat (gross * ctl) 1000000
      let amount :=
        match d.granted with
        | some g => roundNat ((if g.basis = .standard then standard else gross) * g.price) 10000
        | none => 0
      let k := compartment s d.comp
      let backward : Bool :=
        match d.granted.bind (·.hours), (d.granted.bind fun g => lookup s.mtb.machines g.machine).bind (·.hours) with
        | some given, some last => decide (given < last)
        | _, _ => false
      ∃ t, exec (.settleEnd h) s = .next t ∧
        hoseCtx t h = { state := restState (s.hsc.faults.get h), note := (hoseCtx s h).note } ∧
        t.mtr.meters = s.mtr.meters.set (hoseMeter h)
          { m with
            owned := false, leaks := {}, totalPulses := min max64 (m.totalPulses + countedPulses m.counts)
            totalGross := min max64 (m.totalGross + gross) } ∧
        (t.hsc.shadows.get h).opened = false ∧ (t.idu.readers.get h).bound = none ∧
        (∀ r ∈ t.jnl.ring, r.seq = d.seq → r.isOpen = false) ∧
        (∀ o atEnding, d.outcome = some o → d.grossAtEnding = some atEnding →
          t.jnl = { s.jnl with
            ring := s.jnl.ring.map fun r =>
              if r.seq = d.seq ∧ r.isOpen = true then
                { r with
                  closeTime := some s.itu.clock
                  body :=
                    match r.body with
                    | .dispense x =>
                      .dispense { x with
                        outcome := some o, faultKind := if o = .fault ∨ o = .interrupted then d.faultKind else none
                        flags := { d.flags with
                          hoursBackward := backward, tempFallback := d.flags.tempFallback || mean.2
                          channelLow := netA m.counts != netB m.counts }
                        figures := some
                          { counted := countedPulses m.counts, pulsesA := netA m.counts, pulsesB := netB m.counts
                            reverse := max m.counts.aRev m.counts.bRev, gross := gross, standard := standard
                            meanTemp := mean.1, ctl := ctl, amount := amount, residual := gross - atEnding
                            pauseCount := d.pauseCount } }
                    | b => b }
              else r }) ∧
        (∀ g e, d.granted = some g → lookup s.mtb.machines g.machine = some e →
          let closed : MachineEntry :=
            { e with
              consumed := e.consumed.set d.comp (min max32 (e.consumed.get d.comp + standard))
              marker := e.marker.set d.comp none
              lastFill := if 0 < gross then some s.itu.clock else e.lastFill
              hours :=
                match g.hours, e.hours with
                | some given, some last => some (max last given)
                | some given, none => some given
                | none, last => last }
          lookup t.mtb.machines g.machine =
            if e.status = .removing ∧ closed.marker = ⟨none, none⟩ then none else some closed) ∧
        (∀ g, d.granted = some g →
          let qualified (r : GroupRule) : Bool :=
            decide (0 < gross) && r.active && decide (0 < r.interval) && decide (r.low ≤ g.machine ∧ g.machine ≤ r.high)
          (∀ x, x ≠ g.machine → lookup t.mtb.machines x = lookup s.mtb.machines x) ∧
          t.mtb.rules = s.mtb.rules.map (fun r =>
            if qualified r = true then { r with watch := .armed (s.itu.clock + r.interval * 60) } else r) ∧
          raisedIf (s.mtb.rules.any fun r => qualified r && r.watch == .overdue) .groupResumed s t) ∧
        (compartment t d.comp).committed = k.committed - d.committedVolume ∧
        (compartment t d.comp).op = endDraw k.op ∧
        (compartment t d.comp).book.dispensed =
          (if d.proving then k.book.dispensed else min maxBook (k.book.dispensed + standard)) ∧
        (let book := bookOf (compartment t d.comp).book
         let due := !d.proving && decide (standard ≠ 0) && !k.notified && decide (book < k.settings.level)
         raisedIf (!d.proving && decide (0 ≤ bookOf k.book) && decide (book < 0)) .stockNegative s t ∧
         (compartment t d.comp).notified = (k.notified || due) ∧ raisedIf due .restockDue s t) ∧
        (∀ g x, d.granted = some g → s.bil.contractors[g.contractor]? = some x →
          t.bil.contractors[g.contractor]? =
            some { x with committed := x.committed - d.committedAmount, accrued := min max32 (x.accrued + amount) }) ∧
        (d.granted = none → t.bil = s.bil ∧ t.mtb = s.mtb) ∧
        (∀ cause c, d.proving = true → d.outcome = some .proving → 0 < gross → d.endCause = some cause →
          m.captured = some c →
            t.cal = { s.cal with
              results := s.cal.results.set h
                (some { seq := d.seq, gross := gross, kFactor := c.kFactor, meterFactor := c.meterFactor
                        endCause := cause }) }) ∧
        (d.proving = false ∨ d.outcome ≠ some .proving ∨ gross = 0 → t.cal = s.cal) ∧
        (∀ q, hasEvent (t.prt.ports.get q).pending .dispenseClosed = true) ∧
        hoseCtx t (otherHose h) = hoseCtx s (otherHose h)

/-- Run confirmation makes a STARTING pump RUNNING, its PRIMING hoses READY, and takes PUMP out of the cause sets of its
PAUSED ones; its loss sends the pump to STARTING, its READY hoses to PRIMING, its flowing ones to PAUSED with PUMP, and adds
PUMP to the cause sets of those PAUSED already; an attempt that runs out is tried again, or fails the pump with a PUMP_START
fault at its PRIMING hoses and at those PAUSED with PUMP (R104, R110 to R112, R114). That the attempt timer's row takes the
time base to the deadline is the model's choice (log entry 2). -/
def Obligations.PumpConfirmationAndAttempts : Prop :=
  (∀ (c : Comp) (s : State), inputActive s (pumpInput c) = false →
    ((∃ r d, (s.hsc.pumps.get c).state = .starting r d) →
      ∃ t, exec (.pumpRunActive c) s = .next t ∧ inputActive t (pumpInput c) = true ∧
        t.hsc.pumps.get c = { s.hsc.pumps.get c with state := .running, lastStartFailed := false } ∧
        ∀ h, (s.hsc.pumps.get c).demand.get h = true →
          ((hoseCtx s h).state = .priming →
            hoseCtx t h =
              { hoseCtx s h with
                state := .ready, timer := some (s.itu.mono + (s.hsc.params.get h).firstFlow * 1000) }) ∧
          ∀ d, (hoseCtx s h).state = .paused → (hoseCtx s h).dispense = some d →
            hoseCtx t h = resumedCtx s h { d with causes := { d.causes with pump := false } } (hoseCtx s h)) ∧
    ((∀ r d, (s.hsc.pumps.get c).state ≠ .starting r d) →
      ∃ t, exec (.pumpRunActive c) s = .next t ∧ inputActive t (pumpInput c) = true ∧
        { t with itu := { t.itu with inputs := s.itu.inputs } } = s)) ∧
  (∀ (c : Comp) (s : State), inputActive s (pumpInput c) = true →
    ((s.hsc.pumps.get c).state = .running →
      ∃ t, exec (.pumpRunInactive c) s = .next t ∧ inputActive t (pumpInput c) = false ∧
        t.hsc.pumps.get c = { s.hsc.pumps.get c with state := .starting s.hsc.retries (s.itu.mono + 5000) } ∧
        ∀ h, (s.hsc.pumps.get c).demand.get h = true →
          ((hoseCtx s h).state = .ready → hoseCtx t h = { hoseCtx s h with state := .priming, timer := none }) ∧
          (∀ d, (hoseCtx s h).state = .flowing ∨ (hoseCtx s h).state = .slowing → (hoseCtx s h).dispense = some d →
            hoseCtx t h = pausedCtx s h { d.causes with pump := true } d (hoseCtx s h)) ∧
          ∀ d, (hoseCtx s h).state = .paused → (hoseCtx s h).dispense = some d →
            hoseCtx t h =
              { hoseCtx s h with dispense := some { d with causes := { d.causes with pump := true } } }) ∧
    ((s.hsc.pumps.get c).state ≠ .running →
      ∃ t, exec (.pumpRunInactive c) s = .next t ∧ inputActive t (pumpInput c) = false ∧
        { t with itu := { t.itu with inputs := s.itu.inputs } } = s)) ∧
  ∀ (c : Comp) (r n : Nat) (s : State), (s.hsc.pumps.get c).state = .starting r n →
    (r ≠ 0 →
      ∃ t, exec (.attemptTimerExpiry c) s = .next t ∧ t.itu = { s.itu with mono := max s.itu.mono n } ∧
        t.hsc = { s.hsc with
          pumps := s.hsc.pumps.set c
            { s.hsc.pumps.get c with state := .starting (r - 1) (max s.itu.mono n + 5000) } } ∧
        { t with itu := s.itu, hsc := s.hsc } = s) ∧
    (r = 0 →
      ∃ t, exec (.attemptTimerExpiry c) s = .next t ∧ (t.hsc.pumps.get c).state = .failed ∧
        (t.hsc.pumps.get c).lastStartFailed = true ∧
        ∀ h d, (s.hsc.pumps.get c).demand.get h = true → (hoseCtx s h).dispense = some d →
          (((hoseCtx s h).state = .priming ∨ ((hoseCtx s h).state = .paused ∧ d.causes.pump = true)) →
            t.hsc.faults.get h = .halted .pumpStart ∧
            hoseCtx t h =
              endingCtx .fault (max s.itu.mono n) { d with faultKind := some .pumpStart } (hoseCtx s h) ∧
            ∀ q, hasEvent (t.prt.ports.get q).pending .fault = true) ∧
          ((hoseCtx s h).state = .paused → d.causes.pump = false → hoseCtx t h = hoseCtx s h))

/-- Stowing a nozzle ends what its hose does and disables its reader; lifting it wakes the part, changes no hose
state, and enables the reader in ARMED to ENDING (R107, R24, R194). -/
def Obligations.NozzleStowedAndLifted : Prop :=
  (∀ (h : Hose) (s : State), inputActive s (stowedInput h) = false →
    ∃ t, exec (.nozzleStowed h) s = .next t ∧ inputActive t (stowedInput h) = true ∧
      (t.idu.readers.get h).enabled = false ∧ hoseCtx t (otherHose h) = hoseCtx s (otherHose h) ∧
      ((hoseCtx s h).state = .armed → hoseCtx t h = idleCtx (hoseCtx s h)) ∧
      (∀ d, ((hoseCtx s h).state = .priming ∨ (hoseCtx s h).state = .ready) → (hoseCtx s h).dispense = some d →
        hoseCtx t h = endingCtx .cancelled s.itu.mono d (hoseCtx s h)) ∧
      (∀ d, ((hoseCtx s h).state = .flowing ∨ (hoseCtx s h).state = .slowing ∨ (hoseCtx s h).state = .paused) →
        (hoseCtx s h).dispense = some d → hoseCtx t h = endingCtx .complete s.itu.mono d (hoseCtx s h)) ∧
      (((hoseCtx s h).state = .ending ∨ inUse (hoseCtx s h).state = false) → hoseCtx t h = hoseCtx s h)) ∧
  ∀ (h : Hose) (s : State), inputActive s (stowedInput h) = true →
    ∃ t, exec (.nozzleLifted h) s = .next t ∧ inputActive t (stowedInput h) = false ∧ t.itu.standby = false ∧
      t.hsc = s.hsc ∧ t.jnl = s.jnl ∧ t.stk = s.stk ∧ t.mtr = s.mtr ∧ t.prt = s.prt ∧
      (t.idu.readers.get h).enabled = (inUse (hoseCtx s h).state && !inProving (hoseCtx s h))

/-- A valve is open only in the states Table 6-1 gives it; while the emergency stop latch is set or POWERFAIL is
active, every valve and pump output is off (R95). -/
def Obligations.OutputsFollowStates : Prop :=
  ∀ s : State,
    (∀ h, mainValve s h = true → (hoseCtx s h).state = .ready ∨ (hoseCtx s h).state = .flowing) ∧
    (∀ h, slowValve s h = true →
      (hoseCtx s h).state = .ready ∨ (hoseCtx s h).state = .flowing ∨ (hoseCtx s h).state = .slowing) ∧
    (s.itu.latch = true ∨ powerFail s = true →
      (∀ h, mainValve s h = false ∧ slowValve s h = false) ∧ inletValve s = false ∧ ∀ c, pumpRequest s c = false) ∧
    (s.itu.latch = false → powerFail s = false →
      (∀ h, (hoseCtx s h).state = .ready ∨ (hoseCtx s h).state = .flowing → mainValve s h = true ∧ slowValve s h = true) ∧
      (∀ h, (hoseCtx s h).state = .slowing → mainValve s h = false ∧ slowValve s h = true) ∧
      (inletValve s = true ↔ s.rcp.receipt.state = .receiving) ∧
      ∀ c, pumpRequest s c = true ↔
        (s.hsc.pumps.get c).state = .running ∨ ∃ r d, (s.hsc.pumps.get c).state = .starting r d)

/-! ## Pulses -/

/-- A pulse arrival is counted as Table 1-2 classifies it: in the transaction counts of an owned meter, whose
agreement it may end, and else in the leak counts; one above the threshold sends a LEAK report with its fault, its
totals and its loss of stock; while POWERFAIL is active it is discarded (R4, R5, R6, R18, R19, R20, R133). A LEAK halts a
hose, and a further one locks it (R116, R117); at the inlet the level before decides (R148). The CHANNEL report that ends an
agreement is a fault of the owner: it ends a dispense or a receipt that runs, makes the outcome of one that ends FAULT, and
where that is FAULT already the level becomes LOCKED and the dispense or receipt closes at once (R6, R114 to R116, R148). -/
def Obligations.PulseArrivalsAreCounted : Prop :=
  (∀ (m : MeterId) (ch : Channel) (other : Bool) (s : State),
    let x := s.mtr.meters.get m
    let after (c : Counts) : Counts :=
      match ch, other with
      | .a, false => { c with aFwd := min max32 (c.aFwd + 1) }
      | .a, true => { c with aRev := min max32 (c.aRev + 1) }
      | .b, true => { c with bFwd := min max32 (c.bFwd + 1) }
      | .b, false => { c with bRev := min max32 (c.bRev + 1) }
    let parts := exec (.pulseArrival m ch other) s
    (powerFail s = true → parts = .next s) ∧
    (powerFail s = false → x.owned = false → leakCounter (after x.leaks) ≤ x.params.leakThreshold →
      parts = .next { s with
        mtr := { s.mtr with meters := s.mtr.meters.set m { x with leaks := after x.leaks } } }) ∧
    (powerFail s = false → x.owned = true → countedPulses (after x.counts) = countedPulses x.counts →
      (x.disagreed = true ∨ ∀ k ∈ x.captured, netDifference (after x.counts) ≤ k.window) →
        parts = .next { s with
          mtr := { s.mtr with meters := s.mtr.meters.set m { x with counts := after x.counts } } }) ∧
    (powerFail s = false → x.owned = true →
      ∃ t, parts = .next t ∧ (t.mtr.meters.get m).counts = after x.counts ∧
        (∀ n, n ≠ m → t.mtr.meters.get n = s.mtr.meters.get n) ∧
        ∀ k ∈ x.captured, k.window < netDifference (after x.counts) → (t.mtr.meters.get m).disagreed = true) ∧
    (powerFail s = false → x.owned = false → x.params.leakThreshold < leakCounter (after x.leaks) → ownersOk s = true →
      let c := meterComp s m
      let pulses := leakCounter (after x.leaks)
      let gross := pulses * x.params.meterFactor / (x.params.kFactor * 1000)
      let standard := roundNat (gross * ctlAt s c (currentTemp s m).1) 1000000
      let losses := (compartment s c).book.losses
      let source : Source := match m with | .m1 => .h1 | .m2 => .h2 | .mi => .inlet
      let level (u : State) : FaultLevel := match m with | .m1 => u.hsc.faults.h1 | .m2 => u.hsc.faults.h2 | .mi => u.rcp.fault
      let haltedBefore (h : Hose) : Bool := (hoseCtx s h).state == .halted || (hoseCtx s h).state == .locked
      let locked : Bool := match m with | .m1 => haltedBefore .h1 | .m2 => haltedBefore .h2 | .mi => s.rcp.fault != .clear
      ∃ t, parts = .next t ∧ t.itu.standby = false ∧
        t.mtr.meters = s.mtr.meters.set m
          { x with
            leaks := {}, totalPulses := min max64 (x.totalPulses + pulses)
            totalGross := min max64 (x.totalGross + gross) } ∧
        (compartment t c).book =
          { (compartment s c).book with
            losses := clampBook (if m = .mi then losses - standard else losses + standard) } ∧
        level t = (if locked then .locked .leak else .halted .leak) ∧
        faultTaken source .leak locked (some standard) (level s) s t ∧ t.rcp.receipt = s.rcp.receipt ∧
        (∀ h, hoseMeter h ≠ m → hoseCtx t h = hoseCtx s h) ∧
        ∀ h, hoseMeter h = m →
          hoseCtx t h =
            if haltedBefore h then { hoseCtx s h with state := .locked }
            else { idleCtx (hoseCtx s h) with state := .halted })) ∧
  (∀ (h : Hose) (ch : Channel) (other : Bool) (d : Dispense) (k : Captured) (s : State),
    let x := s.mtr.meters.get (hoseMeter h)
    let counts := countPulse ch other x.counts
    let c := hoseCtx s h
    let before := s.hsc.faults.get h
    powerFail s = false → x.owned = true → x.disagreed = false → x.captured = some k → k.window < netDifference counts →
    countedPulses counts = countedPulses x.counts → c.dispense = some d → hasDispense c.state = true →
      ∃ t, exec (.pulseArrival (hoseMeter h) ch other) s = .next t ∧
        hoseCtx t (otherHose h) = hoseCtx s (otherHose h) ∧
        (inDemand c.state = true →
          hoseCtx t h = endingCtx .fault s.itu.mono { d with faultKind := some .channel } c ∧
          t.hsc.pumps = s.hsc.pumps.set d.comp (leftPump h (s.hsc.pumps.get d.comp)) ∧
          t.hsc.faults = s.hsc.faults.set h (.halted .channel) ∧
          faultTaken (hoseSource h) .channel false none before s t) ∧
        (c.state = .ending → d.outcome ≠ some .fault →
          hoseCtx t h =
            { c with
              dispense := some { d with outcome := some .fault, faultKind := some .channel, endCause := none } } ∧
          t.hsc.faults = s.hsc.faults.set h (.halted .channel) ∧
          faultTaken (hoseSource h) .channel false none before s t) ∧
        (c.state = .ending → d.outcome = some .fault →
          hoseCtx t h = { state := .locked, note := c.note } ∧
          t.hsc.faults = s.hsc.faults.set h (.locked .channel) ∧ faultRaised true before s t ∧
          (t.mtr.meters.get (hoseMeter h)).owned = false ∧ (t.hsc.shadows.get h).opened = false ∧
          (freeSlots s.jnl ≠ 0 →
            ∃ r ∈ t.jnl.ring, r.seq = s.jnl.nextSeq ∧ r.body = faultBody (hoseSource h) .channel true none) ∧
          (∀ r ∈ t.jnl.ring, r.seq = d.seq → r.isOpen = false) ∧
          ∀ r y, r ∈ s.jnl.ring → r.seq = d.seq → r.isOpen = true → r.body = .dispense y →
            ∃ z, z.outcome = some .fault ∧ z.faultKind = d.faultKind ∧
              { r with closeTime := some s.itu.clock, body := .dispense z } ∈ t.jnl.ring)) ∧
  ∀ (ch : Channel) (other : Bool) (k : Captured) (e : Docket) (s : State),
    let x := s.mtr.meters.mi
    let counts := countPulse ch other x.counts
    let r := s.rcp.receipt
    powerFail s = false → x.owned = true → x.disagreed = false → x.captured = some k → k.window < netDifference counts →
    countedPulses counts = countedPulses x.counts → r.docket = some e → r.started.isSome = true →
    (receiptRuns r.state = true ∨ r.state = .settling) →
      ∃ t, exec (.pulseArrival .mi ch other) s = .next t ∧ t.hsc = s.hsc ∧
        (receiptRuns r.state = true →
          t.rcp.receipt =
            { r with state := .settling, outcome := some .fault, timer := some (s.itu.mono + 20000) } ∧
          t.rcp.fault = .halted .channel ∧ faultTaken .inlet .channel false none s.rcp.fault s t) ∧
        (r.state = .settling → r.outcome ≠ some .fault →
          t.rcp.receipt = { r with outcome := some .fault } ∧ t.rcp.fault = .halted .channel ∧
          faultTaken .inlet .channel false none s.rcp.fault s t) ∧
        (r.state = .settling → r.outcome = some .fault →
          t.rcp.receipt = {} ∧ t.rcp.fault = .locked .channel ∧ t.rcp.shadow.opened = false ∧
          faultRaised true s.rcp.fault s t ∧ t.mtr.meters.mi.owned = false ∧ (compartment t e.comp).op = .free ∧
          (freeSlots s.jnl ≠ 0 →
            ∃ y ∈ t.jnl.ring, y.seq = s.jnl.nextSeq ∧ y.body = faultBody .inlet .channel true none) ∧
          ∀ y ∈ t.jnl.ring, y.seq = e.seq → y.isOpen = false)

/-- A count report moves the dispense of its hose: READY to FLOWING at the first, SLOWING near the preset, ENDING with
outcome PRESET at it, and an OVERRUN fault beyond it, which a dispense meets once; in PAUSED it ends the dispense in the same
way, in PRIMING it is taken in alone, and in ENDING it may still meet an OVERRUN fault, which locks the hose where the
outcome is FAULT already; a report of MI at the receipt limit settles the receipt (R5, R14, R100, R101, R104, R108, R115,
R116, R143). -/
def Obligations.CountReportsDriveDispense : Prop :=
  (∀ (h : Hose) (ch : Channel) (other : Bool) (d : Dispense) (s : State),
    let x := s.mtr.meters.get (hoseMeter h)
    let counts := countPulse ch other x.counts
    let pulses := countedPulses counts
    let gross := runningGross { x with counts := counts }
    let params := s.hsc.params.get h
    let taken := takeCount (currentTemp s (hoseMeter h)) pulses gross d
    let c := hoseCtx s h
    let overrun := d.preset + params.overrun < gross ∧ d.overrunMet = false
    let flows := c.state = .ready ∨ c.state = .flowing ∨ c.state = .slowing
    powerFail s = false → x.owned = true → c.dispense = some d → pulses ≠ countedPulses x.counts →
    (x.disagreed = true ∨ ∀ k ∈ x.captured, netDifference counts ≤ k.window) →
      taken.counted = pulses ∧ taken.gross = gross ∧
      ∃ t, exec (.pulseArrival (hoseMeter h) ch other) s = .next t ∧
        hoseCtx t (otherHose h) = hoseCtx s (otherHose h) ∧
        (hasDispense c.state = true → (c.state ≠ .ending ∨ d.outcome ≠ some .fault ∨ ¬overrun) →
          t.stk = s.stk ∧ t.bil = s.bil ∧ t.mtb = s.mtb ∧ (¬overrun → t.jnl = s.jnl ∧ t.hsc.faults = s.hsc.faults)) ∧
        (flows → gross < d.preset →
          hoseCtx t h =
            { c with
              state := if c.state = .slowing ∨ d.preset - gross ≤ params.slowDown then .slowing else .flowing
              timer := some (s.itu.mono + params.noFlow * 1000), dispense := some taken }) ∧
        (c.state = .priming ∨ (c.state = .paused ∧ gross < d.preset) ∨ (c.state = .ending ∧ ¬overrun) →
          hoseCtx t h = { c with dispense := some taken }) ∧
        (flows ∨ c.state = .paused →
          (d.preset ≤ gross → ¬overrun →
            hoseCtx t h = endingCtx .preset s.itu.mono taken c ∧
            t.hsc.pumps = s.hsc.pumps.set d.comp (leftPump h (s.hsc.pumps.get d.comp))) ∧
          (overrun →
            hoseCtx t h = endingCtx .fault s.itu.mono { taken with overrunMet := true, faultKind := some .overrun } c ∧
            t.hsc.faults = s.hsc.faults.set h (.halted .overrun) ∧
            faultTaken (hoseSource h) .overrun false none (s.hsc.faults.get h) s t)) ∧
        (c.state = .ending → overrun → d.outcome ≠ some .fault →
          hoseCtx t h =
            { c with
              dispense := some { taken with
                overrunMet := true, outcome := some .fault, faultKind := some .overrun, endCause := none } } ∧
          t.hsc.faults = s.hsc.faults.set h (.halted .overrun) ∧
          faultTaken (hoseSource h) .overrun false none (s.hsc.faults.get h) s t) ∧
        (c.state = .ending → overrun → d.outcome = some .fault →
          hoseCtx t h = { state := .locked, note := c.note } ∧ t.hsc.faults = s.hsc.faults.set h (.locked .overrun) ∧
          faultRaised true (s.hsc.faults.get h) s t ∧ (t.mtr.meters.get (hoseMeter h)).owned = false ∧
          ∀ r ∈ t.jnl.ring, r.seq = d.seq → r.isOpen = false)) ∧
  ∀ (ch : Channel) (other : Bool) (x : Started) (s : State),
    let m := s.mtr.meters.mi
    let counts := countPulse ch other m.counts
    let pulses := countedPulses counts
    let gross := runningGross { m with counts := counts }
    powerFail s = false → m.owned = true → receiptRuns s.rcp.receipt.state = true → s.rcp.receipt.started = some x →
    pulses ≠ countedPulses m.counts → (m.disagreed = true ∨ ∀ k ∈ m.captured, netDifference counts ≤ k.window) →
      let taken := takeReceiptCount (currentTemp s .mi) pulses gross s.rcp.receipt
      taken.counted = pulses ∧ taken.gross = gross ∧
      (takesSample s.rcp.receipt.sampling pulses gross = true →
        taken.tempFallback = (s.rcp.receipt.tempFallback || (currentTemp s .mi).2)) ∧
      ∃ t, exec (.pulseArrival .mi ch other) s = .next t ∧ t.hsc = s.hsc ∧ t.jnl = s.jnl ∧ t.stk = s.stk ∧
        t.rcp.receipt =
          if x.limit ≤ gross then
            { taken with state := .settling, timer := some (s.itu.mono + 20000), outcome := some .limit }
          else taken

/-! ## Sensors, probes and tags -/

/-- A good sensor frame gives its reading and makes the sensor VALID or INVALID, a frame whose CRC is wrong gives
none, and 3 s without one make it INVALID; so for a probe, whose compartment is not reconciling, which a level above 40,000
makes INVALID as well (R12, R152, R206). A probe that becomes INVALID is a SENSOR fault of a receipt that started from it
(R148). In standby frames are discarded (R20). That the rows of the timeouts and gaps take the time base to their moment is
the model's choice (log entry 2). -/
def Obligations.SensorAndProbeFrames : Prop :=
  (∀ (m : MeterId) (a b : Byte) (crc : List Byte) (s : State), s.itu.standby = false → (s.tpi.sensors.get m).rx = [] →
    crc.length = 2 →
      let x := s.tpi.sensors.get m
      exec (.sensorFrame m ([0x5A#8, a, b] ++ crc)) s = .next { s with
        tpi := { s.tpi with
          sensors := s.tpi.sensors.set m
            (if crc = crcBytes [a, b] then
              { latest := some { value := beSigned [a, b], time := s.itu.mono }
                valid := decide (-500 ≤ beSigned [a, b] ∧ beSigned [a, b] ≤ 1000), rx := [], rxTime := s.itu.mono }
             else { x with rxTime := s.itu.mono }) } }) ∧
  (∀ (c : Comp) (a b e f : Byte) (crc : List Byte) (s : State), s.itu.standby = false → (s.tpi.probes.get c).rx = [] →
    crc.length = 2 → s.tpi.reconciles.get c = none → beValue [a, b] ≤ 40000 →
      let x := s.tpi.probes.get c
      exec (.probeFrame c ([0x5B#8, a, b, e, f] ++ crc)) s = .next { s with
        tpi := { s.tpi with
          probes := s.tpi.probes.set c
            (if crc = crcBytes [a, b, e, f] then
              { latest := some { level := beValue [a, b], temp := beSigned [e, f], time := s.itu.mono }
                valid := true, rx := [], rxTime := s.itu.mono }
             else { x with rxTime := s.itu.mono }) } }) ∧
  (∀ (c : Comp) (a b e f : Byte) (s : State), s.itu.standby = false → (s.tpi.probes.get c).rx = [] →
    s.tpi.reconciles.get c = none → 40000 < beValue [a, b] →
      let parts := exec (.probeFrame c ([0x5B#8, a, b, e, f] ++ crcBytes [a, b, e, f])) s
      let high : ProbeState :=
        { latest := some { level := beValue [a, b], temp := beSigned [e, f], time := s.itu.mono }
          valid := false, rx := [], rxTime := s.itu.mono }
      ((s.tpi.probes.get c).valid = false ∨ (∀ x ∈ s.rcp.receipt.started, x.source ≠ .probe) →
        parts = .next { s with tpi := { s.tpi with probes := s.tpi.probes.set c high } }) ∧
      ∀ d x, (s.tpi.probes.get c).valid = true → receiptRuns s.rcp.receipt.state = true →
        s.rcp.receipt.started = some x → x.source = .probe → s.rcp.receipt.docket = some d → d.comp = c →
          ∃ t, parts = .next t ∧ t.tpi.probes.get c = high ∧ t.rcp.fault = .halted .sensor ∧
            t.rcp.receipt.state = .settling ∧ t.rcp.receipt.outcome = some .fault) ∧
  (∀ (m : MeterId) (r : SensorReading) (s : State), (s.tpi.sensors.get m).valid = true →
    (s.tpi.sensors.get m).latest = some r →
      exec (.sensorTimeout m) s = .next { s with
        itu := { s.itu with mono := max s.itu.mono (r.time + 3000) }
        tpi := { s.tpi with sensors := s.tpi.sensors.set m { s.tpi.sensors.get m with valid := false } } }) ∧
  (∀ (c : Comp) (r : ProbeReading) (s : State), (s.tpi.probes.get c).valid = true → (s.tpi.probes.get c).latest = some r →
    s.tpi.reconciles.get c = none → (∀ x ∈ s.rcp.receipt.started, x.source ≠ .probe) →
      exec (.probeTimeout c) s = .next { s with
        itu := { s.itu with mono := max s.itu.mono (r.time + 3000) }
        tpi := { s.tpi with probes := s.tpi.probes.set c { s.tpi.probes.get c with valid := false } } }) ∧
  (∀ (c : Comp) (d : Docket) (x : Started) (r : ProbeReading) (s : State), (s.tpi.probes.get c).valid = true →
    (s.tpi.probes.get c).latest = some r → s.tpi.reconciles.get c = none → receiptRuns s.rcp.receipt.state = true →
    s.rcp.receipt.started = some x → x.source = .probe → s.rcp.receipt.docket = some d → d.comp = c →
      ∃ t, exec (.probeTimeout c) s = .next t ∧ (t.tpi.probes.get c).valid = false ∧ t.rcp.fault = .halted .sensor ∧
        t.rcp.receipt.state = .settling ∧ t.rcp.receipt.outcome = some .fault) ∧
  (∀ (m : MeterId) (s : State), (s.tpi.sensors.get m).rx ≠ [] →
    exec (.sensorFrameGap (.sensor m)) s = .next { s with
      itu := { s.itu with mono := max s.itu.mono ((s.tpi.sensors.get m).rxTime + 21) }
      tpi := { s.tpi with sensors := s.tpi.sensors.set m { s.tpi.sensors.get m with rx := [] } } }) ∧
  (∀ (c : Comp) (s : State), (s.tpi.probes.get c).rx ≠ [] →
    exec (.sensorFrameGap (.probe c)) s = .next { s with
      itu := { s.itu with mono := max s.itu.mono ((s.tpi.probes.get c).rxTime + 21) }
      tpi := { s.tpi with probes := s.tpi.probes.set c { s.tpi.probes.get c with rx := [] } } }) ∧
  ∀ (m : MeterId) (c : Comp) (bytes : List Byte) (s : State), s.itu.standby = true →
    exec (.sensorFrame m bytes) s = .next s ∧ exec (.probeFrame c bytes) s = .next s

/-- A frame that an enabled reader receives whole is judged, and a bad one is counted with its cause (R25 to R30); a
good one of the present identity renews it, and in GRACE returns the reader to PRESENT, with RETURNED where the tag was lost
(R35, R36); one of another identity builds a candidate (R32). A confirmation with no comparison identity at an ARMED hose
makes the authorisation (R33, R37, R77); one that equals the comparison identity is RETURNED where the tag was lost and
nothing otherwise, and one that differs is REPLACED, which ends the dispense with WRONG_MACHINE (R33, R102, R104). A disabled
reader discards its bytes (R24). -/
def Obligations.TagFramesAreJudged : Prop :=
  ∀ (h : Hose) (len : Byte) (payload crc : List Byte) (s : State),
    let r := s.idu.readers.get h
    let c := hoseCtx s h
    let frame := exec (.tagFrame h ([0xA5#8, len] ++ payload ++ crc)) s
    let judged := judgeFrame s.idu.templates len.toNat payload crc
    let idle : Reader := { r with phase := .hunt, rxBytes := [], rxLength := 0, rxTime := s.itu.mono }
    let put (x : Reader) : State := { s with idu := { s.idu with readers := s.idu.readers.set h x } }
    let returned (lost : Bool) (x : Reader) : Prop :=
      (lost = false ∨ c.state ≠ .paused → frame = .next (reloadIdle .tag (put x))) ∧
      ∀ d, lost = true → c.state = .paused → c.dispense = some d → readerWanted s h = true →
        ∃ t, frame = .next t ∧ t.idu.readers.get h = x ∧
          hoseCtx t h = resumedCtx s h { d with causes := { d.causes with tag := false } } c
    (∀ bytes, r.enabled = false → exec (.tagFrame h bytes) s = .next s) ∧
    (r.enabled = true → r.phase = .hunt → payload.length = len.toNat → crc.length = 2 → 8 ≤ len.toNat →
      len.toNat ≤ 64 →
        (crc ≠ crcBytes (len :: payload) → judged = .error .crc) ∧
        (∀ cause, judged = .error cause →
          frame = .next (put { idle with badFrames := min 255 (r.badFrames + 1), lastBad := cause })) ∧
        (∀ g id, judged = .ok g → r.present = some id → id.machine = g.machine →
          let renewed : Reader :=
            { idle with
              goodFrames := min 65535 (r.goodFrames + 1), lost := false, graceDeadline := none, reception := .present
              present := some { id with
                template := g.template, lastFrame := s.itu.mono
                hours := if g.hours.isSome then g.hours else id.hours } }
          (r.reception = .present → frame = .next (reloadIdle .tag (put renewed))) ∧
          (r.reception = .grace → returned r.lost renewed)) ∧
        (∀ g, judged = .ok g → (∀ id ∈ r.present, id.machine ≠ g.machine) →
          (growCandidate g s.itu.mono r.candidate).count < s.idu.confirmCount →
            frame = .next (reloadIdle .tag (put
              { idle with
                goodFrames := min 65535 (r.goodFrames + 1), candidate := some (growCandidate g s.itu.mono r.candidate)
                reception := if r.reception = .absent then .confirming else r.reception }))) ∧
        ∀ g, judged = .ok g → (∀ id ∈ r.present, id.machine ≠ g.machine) →
          s.idu.confirmCount ≤ (growCandidate g s.itu.mono r.candidate).count →
            let id := (growCandidate g s.itu.mono r.candidate).ident
            let confirmed : Reader :=
              { idle with
                goodFrames := min 65535 (r.goodFrames + 1), candidate := none, reception := .present
                present := some id, lost := false, graceDeadline := none }
            let comparison := if r.bound.isSome then r.bound else r.present.map (·.machine)
            (comparison = none →
              (c.state = .armed →
                frame = .next (authorise h
                  { machine := id.machine, mode := .tag, template := some id.template, hours := id.hours }
                  (reloadIdle .tag (put confirmed))).1) ∧
              (c.state ≠ .armed → frame = .next (reloadIdle .tag (put confirmed)))) ∧
            (comparison = some id.machine → returned r.lost confirmed) ∧
            ∀ n, comparison = some n → n ≠ id.machine →
              (inDemand c.state = false → frame = .next (reloadIdle .tag (put confirmed))) ∧
              ∀ d, inDemand c.state = true → c.dispense = some d → readerWanted s h = true →
                ∃ t, frame = .next t ∧ t.idu.readers.get h = confirmed ∧
                  hoseCtx t h = endingCtx .wrongMachine s.itu.mono d c ∧
                  t.hsc.pumps = s.hsc.pumps.set d.comp (leftPump h (s.hsc.pumps.get d.comp)))

/-- The gaps of a reader: more than 20 ms within a frame count it as TRUNCATED, more than 500 ms drop a candidate or
take PRESENT to GRACE; the grace timer's running out is LOST, which ends a dispense before flow, pauses a flowing one, and
adds TAG to the cause set of a paused one, where the tag is required (R25, R34 to R36, R102, R103). That each row takes the
time base to its moment is the model's choice (log entry 2). -/
def Obligations.TagGapsAndGrace : Prop :=
  ∀ (h : Hose) (s : State),
    let r := s.idu.readers.get h
    let put (now : Nat) (x : Reader) : State :=
      { s with
        itu := { s.itu with mono := max s.itu.mono now }, idu := { s.idu with readers := s.idu.readers.set h x } }
    (r.enabled = true → r.phase ≠ .hunt →
      exec (.tagFrameTruncated h) s = .next (put (r.rxTime + 21)
        { r with
          phase := .hunt, rxBytes := [], rxLength := 0, badFrames := min 255 (r.badFrames + 1)
          lastBad := .truncated })) ∧
    (∀ k, r.candidate = some k →
      exec (.candidateLapse h) s = .next (put (k.ident.lastFrame + 501)
        { r with candidate := none, reception := if r.reception = .confirming then .absent else r.reception })) ∧
    (∀ id, r.reception = .present → r.present = some id →
      exec (.presentIdentityGap h) s = .next (put (id.lastFrame + 501)
        { r with
          reception := .grace
          graceDeadline := some (max s.itu.mono (id.lastFrame + 501) + (s.hsc.params.get h).grace * 1000) })) ∧
    ∀ n, r.graceDeadline = some n →
      let now := max s.itu.mono n
      let c := hoseCtx s h
      (tagApplies s h = false ∨ hasDispense c.state = false ∨ c.state = .ending →
        exec (.graceTimerExpiry h) s = .next (put n { r with lost := true, graceDeadline := none })) ∧
      ∀ d, tagApplies s h = true → c.dispense = some d →
        (c.state = .priming ∨ c.state = .ready →
          ∃ t, exec (.graceTimerExpiry h) s = .next t ∧ hoseCtx t h = endingCtx .tagLost now d c ∧
            (t.hsc.pumps.get d.comp).demand.get h = false) ∧
        (c.state = .flowing ∨ c.state = .slowing →
          ∃ t, exec (.graceTimerExpiry h) s = .next t ∧ (t.idu.readers.get h).graceDeadline = none ∧
            hoseCtx t h =
              { c with
                state := .paused, timer := some (now + (s.hsc.params.get h).pauseLimit * 1000)
                dispense := some { d with
                  causes := { d.causes with tag := true }, pauseCount := min 255 (d.pauseCount + 1) } }) ∧
        (c.state = .paused →
          ∃ t, exec (.graceTimerExpiry h) s = .next t ∧ (t.idu.readers.get h).graceDeadline = none ∧
            (t.idu.readers.get h).lost = true ∧
            hoseCtx t h = { c with dispense := some { d with causes := { d.causes with tag := true } } })

/-! ## The receipt -/

/-- OPEN, START and CLOSE RECEIPT: the refusals in their order, and what an accepted one does (R141, R142, R145). -/
def Obligations.ReceiptRequests : Prop :=
  (∀ (c : Comp) (n e : Nat) (docket : List Byte) (p : Port) (s : State), takes s p = true → p ≠ .service → n ≤ 65535 →
    docket ≠ [] → docket.length ≤ 12 → (∀ b ∈ docket, 0x20 ≤ b.toNat ∧ b.toNat ≤ 0x7E) → e ≠ 0 → e ≤ 99999999 →
      let opening := exec (.openReceipt p (compCode c) n docket e) s
      let refused (r : Reason) : Prop := opening = answered p (refusedFor r) (wake s)
      if s.itu.latch = true then refused .estop
      else if s.cal.on = true then refused .calibration
      else if s.rcp.receipt.state ≠ .idle then refused .busy
      else if s.rcp.fault ≠ .clear then refused .inletFault
      else if (compartment s c).op ≠ .free then refused .compartmentBusy
      else if freeSlots s.jnl ≤ 4 then refused .journalFull
      else
        ∃ t, opening = answered p (okWith [.nat 4 s.jnl.nextSeq]) t ∧
          t.rcp.receipt =
            { s.rcp.receipt with
              state := .docketed
              docket := some { comp := c, supplier := n, number := docket, expected := e, seq := s.jnl.nextSeq } } ∧
          t.rcp.shadow.opened = true ∧ t.rcp.shadow.seq = s.jnl.nextSeq ∧ t.rcp.fault = s.rcp.fault ∧
          t.stk = { comps := s.stk.comps.set c { compartment s c with op := .receiving } } ∧
          t.jnl = appended s false (.receipt { comp := c, supplier := n, docket := docket, expected := e }) ∧
          t.mtr = { s.mtr with inletComp := c } ∧ t.hsc = s.hsc ∧ t.bil = s.bil ∧ t.mtb = s.mtb) ∧
  (∀ (d : Docket) (s : State), takes s .console = true → s.rcp.receipt.state = .docketed →
    s.rcp.receipt.docket = some d →
      let start := exec (.startReceipt .console) s
      let refused (r : Reason) : Prop := start = answered .console (refusedFor r) (wake s)
      let k := compartment s d.comp
      let probe := s.tpi.probes.get d.comp
      let source := startPoint d.comp s
      let limit := k.params.capacity * k.params.safeFill / 1000000 - source.2.2
      (∀ x, probe.valid = true → probe.latest = some x → inputActive s .tilt = false →
        source = (.probe, some x.level, (strapVolume k.strapping x.level).1)) ∧
      (probe.valid = false ∨ inputActive s .tilt = true →
        source = (.book, none, (bookOf k.book).toNat * 1000000 / ctlOf k.params.alpha k.params.fallback)) ∧
      if s.itu.latch = true then refused .estop
      else if s.rcp.fault ≠ .clear then refused .inletFault
      else if inputActive s .earthBond = false then refused .earthRequired
      else if inputActive s .overfill = true then refused .overfill
      else if limit = 0 then refused .noUllage
      else
        ∃ t, start = answered .console (okWith [.nat 1 source.1.ctorIdx, .nat 4 source.2.2, .nat 4 limit]) t ∧
          t.rcp.receipt =
            { s.rcp.receipt with
              state := .receiving, counted := 0, gross := 0, sampling := {}
              started := some { source := source.1, startLevel := source.2.1, startGross := source.2.2, limit := limit } } ∧
          inletValve t = true ∧ t.mtr.meters.mi.owned = true ∧ t.mtr.meters.mi.counts = {} ∧
          t.mtr.meters.mi.disagreed = false ∧ t.mtr.meters.m1 = s.mtr.meters.m1 ∧ t.mtr.meters.m2 = s.mtr.meters.m2 ∧
          t.stk = s.stk ∧ t.hsc = s.hsc ∧ t.bil = s.bil ∧ t.mtb = s.mtb) ∧
  (∀ (s : State), takes s .console = true →
    (s.rcp.receipt.state = .idle → exec (.startReceipt .console) s = answered .console (plain .notActive) (wake s)) ∧
    ((receiptRuns s.rcp.receipt.state = true ∨ s.rcp.receipt.state = .settling) →
      exec (.startReceipt .console) s = answered .console (plain .busy) (wake s))) ∧
  ∀ (p : Port) (s : State), takes s p = true → p ≠ .service →
    let close := exec (.closeReceipt p) s
    (s.rcp.receipt.state = .idle → close = answered p (plain .notActive) (wake s)) ∧
    (s.rcp.receipt.state = .settling → close = answered p (plain .ok) (wake s)) ∧
    (receiptRuns s.rcp.receipt.state = true →
      ∃ t, close = answered p (plain .ok) t ∧
        t.rcp.receipt =
          { s.rcp.receipt with
            state := .settling, outcome := some .complete, timer := some (s.itu.mono + 20000) } ∧
        t.stk = s.stk ∧ t.jnl = s.jnl ∧ t.mtr = s.mtr) ∧
    ∀ d, s.rcp.receipt.state = .docketed → s.rcp.receipt.started = none → s.rcp.receipt.docket = some d →
      ∃ t, close = answered p (plain .ok) t ∧ t.rcp.receipt = {} ∧ t.rcp.shadow.opened = false ∧ t.mtr = s.mtr ∧
        (compartment t d.comp).op = .free ∧ (∀ r ∈ t.jnl.ring, r.seq = d.seq → r.isOpen = false) ∧
        ∀ q, hasEvent (t.prt.ports.get q).pending .receiptClosed = true

/-- What moves a receipt that runs: the earth bond, the overfill input, the hold timer and the settle time, whose end
closes it; and the inlet clears, by level, receipt, class and port (R143, R144, R146, R148, R149, R132). That the rows of the
hold timer and the settle time take the time base to the deadline is the model's choice (log entry 2). -/
def Obligations.ReceiptEventsAndClears : Prop :=
  (∀ s : State, inputActive s .earthBond = true →
    ∃ t, exec .earthBondInactive s = .next t ∧ inputActive t .earthBond = false ∧
      { t with rcp := s.rcp, itu := s.itu, prt := s.prt } = s ∧
      t.rcp.receipt =
        if s.rcp.receipt.state = .receiving then
          { s.rcp.receipt with state := .held, timer := some (s.itu.mono + 300000) }
        else s.rcp.receipt) ∧
  (∀ s : State, inputActive s .earthBond = false →
    ∃ t, exec .earthBondActive s = .next t ∧ inputActive t .earthBond = true ∧
      { t with rcp := s.rcp, itu := s.itu, prt := s.prt } = s ∧
      t.rcp.receipt =
        if s.rcp.receipt.state = .held then { s.rcp.receipt with state := .receiving, timer := none }
        else s.rcp.receipt) ∧
  (∀ s : State, inputActive s .overfill = false →
    ∃ t, exec .overfillActive s = .next t ∧ inputActive t .overfill = true ∧
      { t with rcp := s.rcp, itu := s.itu, prt := s.prt } = s ∧
      t.rcp.receipt =
        if receiptRuns s.rcp.receipt.state then
          { s.rcp.receipt with state := .settling, outcome := some .overfill, timer := some (s.itu.mono + 20000) }
        else s.rcp.receipt) ∧
  (∀ (n : Nat) (s : State), s.rcp.receipt.state = .held → s.rcp.receipt.timer = some n →
    ∃ t, exec .holdTimerExpiry s = .next t ∧ { t with rcp := s.rcp, itu := s.itu, prt := s.prt } = s ∧
      t.rcp.receipt =
        { s.rcp.receipt with
          state := .settling, outcome := some .earthLost, timer := some (max s.itu.mono n + 20000) }) ∧
  (∀ (n : Nat) (d : Docket) (s : State), s.rcp.receipt.state = .settling → s.rcp.receipt.timer = some n →
    s.rcp.receipt.docket = some d → s.rcp.receipt.started.isSome = true →
      let m := s.mtr.meters.mi
      let gross := runningGross m
      let mean := (meanTemp s .mi s.rcp.receipt.sampling.sum s.rcp.receipt.sampling.n).1
      let standard := roundNat (gross * ctlAt s d.comp mean) 1000000
      let variance := (standard : Int) - d.expected
      ∃ t, exec .receiptSettleEnd s = .next t ∧ t.rcp.receipt = {} ∧ t.rcp.fault = s.rcp.fault ∧
        t.rcp.shadow.opened = false ∧
        t.mtr.meters = s.mtr.meters.set .mi
          { m with
            owned := false, leaks := {}, totalPulses := min max64 (m.totalPulses + countedPulses m.counts)
            totalGross := min max64 (m.totalGross + gross) } ∧
        (compartment t d.comp).op = .free ∧
        (compartment t d.comp).book =
          { (compartment s d.comp).book with
            receipts := min maxBook ((compartment s d.comp).book.receipts + standard) } ∧
        (∀ r ∈ t.jnl.ring, r.seq = d.seq → r.isOpen = false) ∧
        ∀ q, hasEvent (t.prt.ports.get q).pending .receiptClosed = true ∧
          ((compartment s d.comp).settings.tolerance < variance.natAbs →
            hasEvent (t.prt.ports.get q).pending .varianceHigh = true)) ∧
  (∀ (k : FaultKind) (p : Port) (s : State), takes s p = true → s.rcp.fault = .halted k →
    (s.rcp.receipt.state = .idle ∨ s.rcp.receipt.state = .docketed) →
      ((k = .sensor ∨ p = .service) →
        exec (.clearInletHalt p) s = answered p (plain .ok) { wake s with rcp := { s.rcp with fault := .clear } }) ∧
      ((k = .channel ∨ k = .leak) → p ≠ .service →
        exec (.clearInletHalt p) s = answered p (plain .notPermitted) (wake s))) ∧
  (∀ (k : FaultKind) (p : Port) (s : State), takes s p = true → s.rcp.fault = .halted k →
    (receiptRuns s.rcp.receipt.state = true ∨ s.rcp.receipt.state = .settling) → (k = .sensor ∨ p = .service) →
      exec (.clearInletHalt p) s = answered p (plain .busy) (wake s)) ∧
  (∀ (p : Port) (s : State), takes s p = true → s.rcp.fault.code ≠ 1 →
    exec (.clearInletHalt p) s = answered p (plain .notActive) (wake s)) ∧
  ∀ s : State, takes s .service = true →
    (∀ k, s.rcp.fault = .locked k →
      exec (.clearInletLock .service) s =
        answered .service (plain .ok) { wake s with rcp := { s.rcp with fault := .clear } }) ∧
    (s.rcp.fault.code ≠ 2 → exec (.clearInletLock .service) s = answered .service (plain .notActive) (wake s))

/-! ## The dip, the journal and calibration -/

/-- RECONCILE: its refusals in their order and its claim (R154); readings, the dip that the tenth completes and the
book that mode SET rebases (R155, R156, R134); and its early ends by tilt and by the probe (R155). READ RECEIPT, READ
PROBES, READ RECONCILE and STRAPPING READ give their state (R157). Which fields of READ RECEIPT are absent before START and
in IDLE, and that it and READ PROBES give a field named twice once, are the model's choice (log entry 16). -/
def Obligations.ReconcileAndDipReads : Prop :=
  (∀ (c : Comp) (md : ReconcileMode) (p : Port) (s : State), takes s p = true → (md = .check ∨ p ≠ .console) →
    let start := exec (.reconcile p (compCode c) md.ctorIdx) s
    let refused (r : Reason) : Prop := start = answered p (refusedFor r) (wake s)
    if (compartment s c).op ≠ .free then refused .compartmentBusy
    else if (s.tpi.probes.get c).valid = false then refused .probeFault
    else if inputActive s .tilt = true then refused .tilted
    else if freeSlots s.jnl = 0 then refused .journalFull
    else
      ∃ t, start = answered p (okWith [.nat 4 s.jnl.nextSeq]) t ∧
        t.tpi = { s.tpi with
          reconciles := s.tpi.reconciles.set c
            (some { mode := md, seq := s.jnl.nextSeq, readings := 0, levelSum := 0, tempSum := 0 }) } ∧
        t.stk = { comps := s.stk.comps.set c { compartment s c with op := .reconciling } } ∧
        t.jnl = appended s false (.reconcile { comp := c, mode := md }) ∧
        t.hsc = s.hsc ∧ t.mtr = s.mtr ∧ t.bil = s.bil ∧ t.mtb = s.mtb ∧ t.rcp = s.rcp) ∧
  (∀ (c : Comp) (s : State), takes s .console = true →
    exec (.reconcile .console (compCode c) 1) s = answered .console (plain .notPermitted) (wake s)) ∧
  (∀ (c : Comp) (k : ReconcileCtx) (a b e f : Byte) (s : State), s.itu.standby = false → (s.tpi.probes.get c).rx = [] →
    s.tpi.reconciles.get c = some k → beValue [a, b] ≤ 40000 →
      let temp := if -500 ≤ beSigned [e, f] ∧ beSigned [e, f] ≤ 1000 then max (-400) (min 800 (beSigned [e, f]))
        else (compartment s c).params.fallback
      let frame := [0x5B#8, a, b, e, f] ++ crcBytes [a, b, e, f]
      (k.readings + 1 < 10 →
        ∃ t, exec (.probeFrame c frame) s = .next t ∧ { t with tpi := s.tpi } = s ∧
          t.tpi.reconciles = s.tpi.reconciles.set c
            (some { k with
              readings := k.readings + 1, levelSum := k.levelSum + beValue [a, b], tempSum := k.tempSum + temp })) ∧
      (10 ≤ k.readings + 1 →
        let mean := roundNat (k.levelSum + beValue [a, b]) 10
        let tempMean := roundInt (k.tempSum + temp) 10
        let gross := (strapVolume (compartment s c).strapping mean).1
        let standard := roundNat (gross * ctlAt s c tempMean) 1000000
        let book := bookOf (compartment s c).book
        ∃ t, exec (.probeFrame c frame) s = .next t ∧ t.tpi.reconciles = s.tpi.reconciles.set c none ∧
          t.tpi.lastReconcile =
            some
              { comp := c, mode := k.mode, outcome := .complete
                figures :=
                  { meanLevel := mean, probeTemp := tempMean, dipGross := gross, dipStandard := standard
                    bookBefore := clampBook book, variance := (standard : Int) - book }
                ctlProbe := ctlAt s c tempMean
                above := (strapVolume (compartment s c).strapping mean).2 } ∧
          (compartment t c).op = .free ∧
          (k.mode = .set →
            (compartment t c).book =
              { base := standard, receipts := 0, dispensed := 0, losses := 0
                baseTime := if s.itu.clockValid then some s.itu.clock else none }) ∧
          (k.mode = .check → (compartment t c).book = (compartment s c).book) ∧
          (∀ r ∈ t.jnl.ring, r.seq = k.seq → r.isOpen = false) ∧
          ∀ q, hasEvent (t.prt.ports.get q).pending .reconcileDone = true ∧
            ((compartment s c).settings.tolerance < ((standard : Int) - book).natAbs →
              hasEvent (t.prt.ports.get q).pending .varianceHigh = true))) ∧
  (∀ s : State, inputActive s .tilt = false →
    ∃ t, exec .tiltActive s = .next t ∧ inputActive t .tilt = true ∧ t.tpi.reconciles = ⟨none, none⟩ ∧
      ∀ c, (compartment t c).book = (compartment s c).book ∧
        ∀ k, s.tpi.reconciles.get c = some k →
          (compartment t c).op = .free ∧ (∀ r ∈ t.jnl.ring, r.seq = k.seq → r.isOpen = false) ∧
          ∀ q, hasEvent (t.prt.ports.get q).pending .reconcileDone = true) ∧
  (∀ (c : Comp) (k : ReconcileCtx) (r : ProbeReading) (s : State), (s.tpi.probes.get c).valid = true →
    (s.tpi.probes.get c).latest = some r → s.tpi.reconciles.get c = some k →
      ∃ t, exec (.probeTimeout c) s = .next t ∧ (t.tpi.probes.get c).valid = false ∧
        t.tpi.reconciles = s.tpi.reconciles.set c none ∧ (compartment t c).op = .free ∧
        (∀ r ∈ t.jnl.ring, r.seq = k.seq → r.isOpen = false)) ∧
  ∀ (p : Port) (s : State), takes s p = true →
    exec (.readReceipt p) s = answered p (okWith (receiptFields s)) (wake s) ∧
    exec (.readProbes p) s =
      answered p (okWith (probeFields s .c1 ++ probeFields s .c2 ++ [.nat 1 (activeCode (inputActive s .tilt))])) (wake s) ∧
    ((s.tpi.reconciles.c1 = none ∨ s.tpi.reconciles.c2 = none) →
      exec (.readReconcile p) s = answered p (okWith (reconcileFields s)) (wake s)) ∧
    (∀ c : Comp, exec (.strappingRead p (compCode c)) s =
      answered p (okWith [.bytes (strappingImage (compartment s c).strapping)]) (wake s)) ∧
    ∀ n, 1 < n → exec (.strappingRead p n) s = answered p (plain .badValue) (wake s)

/-- EXPORT READ gives CLOSED records alone, at most 8 of them, in ring order, from the oldest or from a number in the ring,
and a number behind the ring is read as the oldest (R169); EXPORT RELEASE frees a closed front of the ring (R170); VIEW
RECORD and READ JOURNAL read (R171); a HELD deferred entry takes a free slot (R168). That eight records taken give no number
of an OPEN record, and that a release behind the ring is answered with the oldest number too, are the model's choice (log
entry 16), and so is the order in which the row DEFERRED_ENTRY_WRITE takes the sources, one entry to a row (log entry 25). -/
def Obligations.JournalRequests : Prop :=
  (∀ (p : Port) (s : State), takes s p = true → p ≠ .console →
    let read (rest : List Record) : Out :=
      let taken := (rest.takeWhile fun r => !r.isOpen).take 8
      let next := rest[taken.length]?
      answered p
        (okWith (.nat 1 taken.length :: taken.map (fun r => .bytes (recordImage r))
          ++ [.nat 1 (if (next.map fun r => !r.isOpen) = some true then 1 else 0),
              .optNat 4 (if taken.length < 8 then (next.filter (·.isOpen)).map (·.seq) else none),
              .nat 4 (oldestNumber s.jnl), .nat 4 s.jnl.nextSeq])) (wake s)
    exec (.exportRead p none) s = read s.jnl.ring ∧
    (∀ n, (n = 0 ∨ max32 < n) → exec (.exportRead p (some n)) s = answered p (plain .badValue) (wake s)) ∧
    ∀ n, n ≠ 0 → n ≤ max32 →
      (∀ i, positionOf s.jnl n = .inRing i → exec (.exportRead p (some n)) s = read (s.jnl.ring.drop i)) ∧
      (positionOf s.jnl n = .behind → exec (.exportRead p (some n)) s = read s.jnl.ring) ∧
      (positionOf s.jnl n = .ahead → exec (.exportRead p (some n)) s = answered p (plain .notFound) (wake s))) ∧
  (∀ (n : Nat) (s : State), takes s .uplink = true → n ≠ 0 → n ≤ max32 →
    let release := exec (.exportRelease .uplink n) s
    (positionOf s.jnl n = .behind →
      release = answered .uplink (okWith [.nat 1 0, .nat 4 (oldestNumber s.jnl)]) (wake s)) ∧
    (positionOf s.jnl n = .ahead → release = answered .uplink (plain .notFound) (wake s)) ∧
    ∀ i, positionOf s.jnl n = .inRing i →
      ((∃ r ∈ s.jnl.ring.take (i + 1), r.isOpen = true) →
        release = answered .uplink (plain .notClosed) (wake s)) ∧
      ((∀ r ∈ s.jnl.ring.take (i + 1), r.isOpen = false) → saturated s.jnl = false →
        dueFor s .c1 = none → dueFor s .c2 = none →
          let j := { s.jnl with ring := s.jnl.ring.drop (i + 1), cursor := (s.jnl.cursor + i + 1) % 1024 }
          release = answered .uplink (okWith [.nat 1 (i + 1), .nat 4 (oldestNumber j)]) { wake s with jnl := j })) ∧
  (∀ (p : Port) (n : Nat) (s : State), takes s p = true → n ≠ 0 → n ≤ max32 →
    (∀ i r, positionOf s.jnl n = .inRing i → s.jnl.ring[i]? = some r →
      exec (.viewRecord p n) s = answered p (okWith [.bytes (recordImage r)]) (wake s)) ∧
    ((positionOf s.jnl n = .ahead ∨ positionOf s.jnl n = .behind) →
      exec (.viewRecord p n) s = answered p (plain .notFound) (wake s))) ∧
  (∀ (p : Port) (s : State), takes s p = true →
    exec (.readJournal p) s = answered p (okWith (journalFields s.jnl)) (wake s)) ∧
  ∀ (source : Source) (e : Deferred) (s : State), s.jnl.deferred.get source = some e → freeSlots s.jnl ≠ 0 →
    (∀ other, other.ctorIdx < source.ctorIdx → s.jnl.deferred.get other = none) →
      ∃ t, exec .deferredEntryWrite s = .next t ∧ { t with jnl := s.jnl, prt := s.prt } = s ∧
        t.jnl =
          { s.jnl with
            ring := s.jnl.ring ++
              [{ seq := s.jnl.nextSeq, openTime := e.firstTime, closeTime := some s.itu.clock
                 body := .fault
                   { source := source, kind := e.kind, locked := e.locked, volume := e.volume
                     repeats := if e.repeats = 0 then none else some e.repeats } }]
            nextSeq := nextNumber s.jnl.nextSeq, deferred := s.jnl.deferred.set source none }

/-- ENTER CALIBRATION with its refusals in their order (R174), the end of the mode by EXIT CALIBRATION or by the
switch, which stops a proving run (R175, R181), and READ CALIBRATION (R185). -/
def Obligations.CalibrationModeBeginsAndEnds : Prop :=
  (∀ s : State, takes s .service = true →
    let enter := exec (.enterCalibration .service) s
    if s.cal.on = true then enter = answered .service (plain .ok) (wake s)
    else if inputActive s .calSwitch = false then enter = answered .service (refusedFor .switchOpen) (wake s)
    else if inUse (hoseCtx s .h1).state = true ∨ inUse (hoseCtx s .h2).state = true ∨ s.rcp.receipt.state ≠ .idle ∨
        (compartment s .c1).op = .reconciling ∨ (compartment s .c2).op = .reconciling then
      enter = answered .service (refusedFor .busy) (wake s)
    else
      ∃ t, enter = answered .service (plain .ok) t ∧ t.cal = { on := true, results := ⟨none, none⟩ } ∧
        (∀ q, hasEvent (t.prt.ports.get q).pending .calibration = true) ∧
        { t with cal := s.cal, prt := s.prt } = wake s) ∧
  (let ended (s t : State) : Prop :=
      t.cal = { s.cal with on := false } ∧ t.mtr = s.mtr ∧ t.stk = s.stk ∧ t.jnl = s.jnl ∧
      (∀ q, hasEvent (t.prt.ports.get q).pending .calibration = true) ∧
      ∀ h, (∀ d, (hoseCtx s h).dispense = some d → d.proving = true → inDemand (hoseCtx s h).state = true →
            hoseCtx t h = endingCtx .stopped s.itu.mono d (hoseCtx s h)) ∧
        (inProving (hoseCtx s h) = false ∨ inDemand (hoseCtx s h).state = false → hoseCtx t h = hoseCtx s h)
    ∀ s : State,
      (takes s .service = true →
        (s.cal.on = false → exec (.exitCalibration .service) s = answered .service (plain .notActive) (wake s)) ∧
        (s.cal.on = true →
          ∃ t, exec (.exitCalibration .service) s = answered .service (plain .ok) t ∧ ended s t)) ∧
      (inputActive s .calSwitch = true →
        ∃ t, exec .calSwitchInactive s = .next t ∧ inputActive t .calSwitch = false ∧
          (s.cal.on = true → powerFail s = false → ended s t) ∧
          (s.cal.on = false ∨ powerFail s = true → { t with itu := { t.itu with inputs := s.itu.inputs } } = s))) ∧
  (∀ s : State, inputActive s .calSwitch = false →
    ∃ t, exec .calSwitchActive s = .next t ∧ inputActive t .calSwitch = true ∧
      { t with itu := { t.itu with inputs := s.itu.inputs } } = s) ∧
  ∀ (p : Port) (s : State), takes s p = true →
    exec (.readCalibration p) s =
      answered p
        (okWith ([.nat 1 (if s.cal.on then 1 else 0), .nat 1 (activeCode (inputActive s .calSwitch))]
          ++ resultFields s.cal.results.h1 ++ resultFields s.cal.results.h2 ++ runFields (hoseCtx s .h1)
          ++ runFields (hoseCtx s .h2))) (wake s)

/-- The metrological writes: NOT_ACTIVE outside the mode, then in it the ADJUST record with the old and the new value,
and the parameter, table, book or factor stored (R176 to R178, R183); and PROVE HOSE, which begins a proving run
(R179). -/
def Obligations.CalibrationWritesAndProving : Prop :=
  (∀ (param subject meter comp hose a : Nat) (v : Int) (points : List (Nat × Nat)) (s : State), takes s .service = true →
    s.cal.on = false →
      exec (.calibrationWrite .service param subject v) s = answered .service (plain .notActive) (wake s) ∧
      exec (.strappingWrite .service comp points) s = answered .service (plain .notActive) (wake s) ∧
      exec (.stockLoad .service comp a) s = answered .service (plain .notActive) (wake s) ∧
      exec (.proveHose .service hose a) s = answered .service (plain .notActive) (wake s) ∧
      exec (.applyProving .service meter a) s = answered .service (plain .notActive) (wake s)) ∧
  (∀ (m : MeterId) (v : Int) (s : State), takes s .service = true → s.cal.on = true → freeSlots s.jnl ≠ 0 →
    let x := s.mtr.meters.get m
    let put (param : Nat) := exec (.calibrationWrite .service param (meterCode m) v) s
    let stored (param : Nat) (id : ParamId) (old : Nat) (y : MeterParams) : Prop :=
      ∃ t, put param = answered .service (plain .ok) t ∧ (t.mtr.meters.get m) = { x with params := y } ∧
        t.jnl = appended s true (.adjust
          { param := id, subject := Subject.ofMeter m, old := some old, new := v, origin := .service }) ∧
        t.stk = s.stk ∧ t.bil = s.bil ∧ t.hsc = s.hsc ∧ t.mtb = s.mtb ∧ t.cal.on = true ∧
        ∀ h, hoseMeter h = m → (param = 1 ∨ param = 2) → t.cal.results.get h = none
    (10 ≤ v → v ≤ 5000 → stored 1 .kFactor x.params.kFactor { x.params with kFactor := v.toNat }) ∧
    (900000 ≤ v → v ≤ 1100000 → stored 2 .meterFactor x.params.meterFactor { x.params with meterFactor := v.toNat }) ∧
    (1 ≤ v → v ≤ 15 → stored 3 .channelWindow x.params.window { x.params with window := v.toNat }) ∧
    (1 ≤ v → v ≤ 50 → stored 4 .leakThreshold x.params.leakThreshold { x.params with leakThreshold := v.toNat }) ∧
    (v < 10 ∨ 5000 < v → put 1 = answered .service (plain .badValue) (wake s))) ∧
  (∀ (c : Comp) (v : Int) (s : State), takes s .service = true → s.cal.on = true →
    let k := compartment s c
    let put (param : Nat) := exec (.calibrationWrite .service param (compCode c + 3) v) s
    let stored (param : Nat) (id : ParamId) (old : Int) (y : CompParams) : Prop :=
      ∃ t, put param = answered .service (plain .ok) t ∧ t.stk = { comps := s.stk.comps.set c { k with params := y } } ∧
        t.jnl = appended s true (.adjust
          { param := id, subject := Subject.ofComp c, old := some old, new := v, origin := .service }) ∧
        t.mtr = s.mtr ∧ t.bil = s.bil ∧ t.hsc = s.hsc ∧ t.mtb = s.mtb ∧ t.cal = s.cal
    (k.op ≠ .free → 1000000 ≤ v → v ≤ 60000000 →
      put 6 = answered .service (refusedFor .compartmentBusy) (wake s)) ∧
    (k.op = .free → freeSlots s.jnl = 0 → 1000000 ≤ v → v ≤ 60000000 →
      put 6 = answered .service (refusedFor .journalFull) (wake s)) ∧
    (k.op = .free → freeSlots s.jnl ≠ 0 →
      (1000000 ≤ v → v ≤ 60000000 → stored 6 .capacity k.params.capacity { k.params with capacity := v.toNat }) ∧
      (0 ≤ v → v ≤ 5000000 → stored 7 .heel k.params.heel { k.params with heel := v.toNat }) ∧
      (800000 ≤ v → v ≤ 980000 → stored 8 .safeFill k.params.safeFill { k.params with safeFill := v.toNat }) ∧
      (0 ≤ v → v ≤ 2000 → stored 9 .alpha k.params.alpha { k.params with alpha := v.toNat }) ∧
      (-400 ≤ v → v ≤ 800 → stored 10 .fallbackTemp k.params.fallback { k.params with fallback := v }) ∧
      (1 ≤ v → v ≤ 15 → v.toNat ≠ (priceRecord s c).product →
        ∃ t, put 11 = answered .service (plain .ok) t ∧
          priceRecord t c = { product := v.toNat, current := none, pending := none } ∧
          ∀ q, hasEvent (t.prt.ports.get q).pending .priceChanged = true))) ∧
  (∀ (h : Hose) (v : Int) (s : State), takes s .service = true → s.cal.on = true → v = 0 ∨ v = 1 →
    let put := exec (.calibrationWrite .service 5 (hoseCode h + 5) v) s
    (hasDispense (hoseCtx s .h1).state = true ∨ hasDispense (hoseCtx s .h2).state = true →
      put = answered .service (refusedFor .busy) (wake s)) ∧
    (hasDispense (hoseCtx s .h1).state = false → hasDispense (hoseCtx s .h2).state = false → freeSlots s.jnl ≠ 0 →
      ∃ t, put = answered .service (plain .ok) t ∧
        t.hsc = { s.hsc with map := s.hsc.map.set h (if v = 0 then .c1 else .c2) } ∧ t.stk = s.stk ∧ t.mtr = s.mtr)) ∧
  (∀ (c : Comp) (points : List (Nat × Nat)) (s : State), takes s .service = true → s.cal.on = true →
    2 ≤ points.length → points.length ≤ 32 → (∀ x ∈ points, x.1 ≤ 40000 ∧ x.2 ≤ 99999999) →
    List.Pairwise (fun x y => x.1 < y.1 ∧ x.2 < y.2) points →
      let put := exec (.strappingWrite .service (compCode c) points) s
      let table : List StrapPoint := points.map fun x => { level := x.1, gross := x.2 }
      if (compartment s c).op ≠ .free then put = answered .service (refusedFor .compartmentBusy) (wake s)
      else if freeSlots s.jnl = 0 then put = answered .service (refusedFor .journalFull) (wake s)
      else
        ∃ t, put = answered .service (plain .ok) t ∧
          t.stk = { comps := s.stk.comps.set c { compartment s c with strapping := table } } ∧
          t.jnl = appended s true (.adjust
            { param := .strapping, subject := Subject.ofComp c
              old := some ((crc16 (strappingImage (compartment s c).strapping)).toNat : Int)
              new := (crc16 (strappingImage table)).toNat, origin := .service })) ∧
  (∀ (c : Comp) (v : Nat) (s : State), takes s .service = true → s.cal.on = true → v ≤ 99999999 →
    let load := exec (.stockLoad .service (compCode c) v) s
    if (compartment s c).op ≠ .free then load = answered .service (refusedFor .compartmentBusy) (wake s)
    else if freeSlots s.jnl = 0 then load = answered .service (refusedFor .journalFull) (wake s)
    else
      ∃ t, load = answered .service (okWith [.int 8 v]) t ∧
        (compartment t c).book =
          { base := v, receipts := 0, dispensed := 0, losses := 0
            baseTime := if s.itu.clockValid then some s.itu.clock else none } ∧
        t.jnl = appended s true (.adjust
          { param := .initialLoad, subject := Subject.ofComp c, old := some (clampBook (bookOf (compartment s c).book))
            new := v, origin := .service })) ∧
  (∀ (h : Hose) (can : Nat) (s : State), takes s .service = true → s.cal.on = true → 1 ≤ can → can ≤ 99999999 →
    let apply := exec (.applyProving .service (hoseCode h) can) s
    (s.cal.results.get h = none → apply = answered .service (plain .notFound) (wake s)) ∧
    ∀ r, s.cal.results.get h = some r →
      let f := roundNat (r.meterFactor * can) r.gross
      if f < 900000 ∨ 1100000 < f then apply = answered .service (plain .badValue) (wake s)
      else if freeSlots s.jnl = 0 then apply = answered .service (refusedFor .journalFull) (wake s)
      else
        let x := s.mtr.meters.get (hoseMeter h)
        ∃ t, apply = answered .service (okWith [.nat 4 f]) t ∧
          t.mtr.meters = s.mtr.meters.set (hoseMeter h) { x with params := { x.params with meterFactor := f } } ∧
          t.cal = { s.cal with results := s.cal.results.set h none } ∧
          t.jnl = appended s true (.adjust
            { param := .meterFactor, subject := Subject.ofMeter (hoseMeter h), old := some x.params.meterFactor, new := f
              origin := .service })) ∧
  ∀ (h : Hose) (target : Nat) (s : State), takes s .service = true → s.cal.on = true → 1000 ≤ target → target ≤ 9000000 →
    let prove := exec (.proveHose .service (hoseCode h) target) s
    let c := hoseComp s h
    let refused (r : Reason) : Prop := prove = answered .service (refusedFor r) (wake s)
    if s.itu.latch = true then refused .estop
    else if inputActive s .supplyLow = true then refused .supplyLow
    else if (hoseCtx s h).state ≠ .idle then refused .busy
    else if (s.hsc.pumps.get c).state = .failed then refused .pumpFailed
    else if drawRefused (compartment s c).op = true then refused .compartmentBusy
    else if freeSlots s.jnl ≤ 4 then refused .journalFull
    else
      ∃ t, prove = answered .service (okWith [.nat 4 s.jnl.nextSeq]) t ∧ t.cal.results.get h = none ∧
        ((hoseCtx t h).state = .priming ∨ (hoseCtx t h).state = .ready) ∧
        (hoseCtx t h).dispense =
          some
            { comp := c, granted := none, preset := target, limiter := .requested, committedVolume := 0
              committedAmount := 0, seq := s.jnl.nextSeq, proving := true } ∧
        (compartment t c).op = draw (compartment s c).op ∧ (compartment t c).committed = (compartment s c).committed ∧
        t.jnl = appended s false (.dispense
          { hose := h, comp := c, ident := none, hours := none, preset := target, limiter := .requested, flags := {} }) ∧
        (t.mtr.meters.get (hoseMeter h)).owned = true ∧ (t.mtr.meters.get (hoseMeter h)).counts = {} ∧
        (t.hsc.shadows.get h).opened = true ∧ (t.hsc.shadows.get h).proving = true ∧
        (t.hsc.pumps.get c).demand.get h = true ∧ t.bil = s.bil ∧ t.mtb = s.mtb

/-! ## The site, time and events -/

/-- INPUT SETTINGS PUT stores the settings and takes the state afresh under a polarity that is new, where a difference is the
input's event at once (R187), SET TIME sets clock and flag (R191), IDLE SETTINGS PUT (R192) and ENTER STANDBY (R193) act, the
event requests change their own port's set and mask (R201), and the reads of the site and of the status read (R187, R191, R192, R202). The two bytes of the seconds in READ TIME are the model's choice (log
entry 12), and so is the absent time to the deadline of an idle timer that is STOPPED (log entry 16); the codes of line
levels, polarities and the idle timer's state, and that a PUT of the polarity an input had leaves its state and a measurement
that runs, are read from the text (log entries 13 and 6). -/
def Obligations.SiteAndEventRequests : Prop :=
  (∀ (i : Input) (low : Bool) (ms : Nat) (s : State), takes s .service = true → i ≠ .estop → i ≠ .powerfail →
    let put := exec (.inputSettingsPut .service i.ctorIdx (boolCode low) ms) s
    let x := s.itu.inputs.get i
    let stored := if ms < 10 then 0 else if ms < 135 then 20 else if ms < 625 then 250 else 1000
    let reply := if stored = ms then plain .ok else { status := .okClamped, payload := [.nat 2 stored] }
    let set (y : InputState) : State := { wake s with itu := { (wake s).itu with inputs := s.itu.inputs.set i y } }
    let active := x.level != low
    (low = x.activeLow → put = answered .service reply (set { x with debounce := stored })) ∧
    (low ≠ x.activeLow → active = x.active →
      put = answered .service reply (set { x with activeLow := low, debounce := stored, heldAt := none })) ∧
    (low ≠ x.activeLow → active ≠ x.active →
      ∃ t, put = answered .service reply t ∧
        exec (inputRow i active) (set { x with activeLow := low, debounce := stored }) = .next t ∧
        t.itu.inputs =
          s.itu.inputs.set i
            { level := x.level, active := active, activeLow := low, debounce := stored, heldAt := none })) ∧
  (∀ (n low ms : Nat) (s : State), takes s .service = true → n < 2 ∨ 11 < n ∨ 1 < low →
    exec (.inputSettingsPut .service n low ms) s = answered .service (plain .badValue) (wake s)) ∧
  (∀ (n : Nat) (s : State), takes s .uplink = true →
    (max32 < n → exec (.setTime .uplink n) s = answered .uplink (plain .badValue) (wake s)) ∧
    (n ≤ max32 →
      ∃ t, exec (.setTime .uplink n) s =
          answered .uplink (okWith [.nat 4 s.itu.clock, .nat 1 (if s.itu.clockValid then 1 else 0)]) t ∧
        t.itu = { (wake s).itu with clock := n, clockValid := true } ∧ rolloverDue t = false ∧
        (∀ r ∈ t.mtb.rules.take 8, watchDue t r = false) ∧
        (∀ c, priceWaiting t c = true → powerFail t = true ∨ freeSlots t.jnl = 0 ∨ saturated t.jnl = true))) ∧
  (∀ (n set : Nat) (p : Port) (s : State), takes s p = true → p ≠ .service →
    (63 < set → exec (.idleSettingsPut p n set) s = answered p (plain .badValue) (wake s)) ∧
    (set ≤ 63 →
      exec (.idleSettingsPut p n set) s =
        answered p (if 1 ≤ n ∧ n ≤ 240 then plain .ok else { status := .okClamped, payload := [.nat 2 (max 1 (min 240 n))] })
          { wake s with
            itu := { (wake s).itu with idleInterval := max 1 (min 240 n), idleSources := BitVec.ofNat 6 set } })) ∧
  (∀ s : State, takes s .console = true →
    (partInUse s = true → exec (.enterStandby .console) s = answered .console (plain .busy) (wake s)) ∧
    (partInUse s = false →
      ∃ t, exec (.enterStandby .console) s = answered .console (plain .ok) t ∧
        t.itu = { s.itu with standby := true, idleDeadline := none } ∧
        (∀ m, (t.tpi.sensors.get m).valid = false) ∧ (∀ c, (t.tpi.probes.get c).valid = false) ∧
        (∀ h, (t.idu.readers.get h).enabled = false) ∧
        { t with itu := s.itu, tpi := s.tpi, idu := s.idu } = s)) ∧
  (∀ (p : Port) (n : Nat) (s : State), takes s p = true →
    let x := s.prt.ports.get p
    let ack := exec (.ackEvents p n) s
    let mask := exec (.setEventMask p n) s
    let remain := x.pending &&& ~~~(BitVec.ofNat 24 n)
    (16777215 < n → ack = answered p (plain .badValue) (wake s) ∧ mask = answered p (plain .badValue) (wake s)) ∧
    (n ≤ 16777215 →
      ack = answered p (okWith [.nat 4 remain.toNat])
        { wake s with prt := { ports := s.prt.ports.set p { x with pending := remain } } } ∧
      mask = answered p (plain .ok)
        { wake s with prt := { ports := s.prt.ports.set p { x with mask := BitVec.ofNat 24 n } } }) ∧
    exec (.readEvents p) s = answered p (okWith [.nat 4 x.pending.toNat, .nat 4 x.mask.toNat]) (wake s)) ∧
  ∀ (p : Port) (s : State), takes s p = true →
    exec (.readInputs p) s =
      answered p
        (okWith
          (([.estop, .powerfail, .earthBond, .overfill, .ignition, .supplyLow, .tilt, .stowed1, .stowed2, .pumpRun1,
             .pumpRun2, .calSwitch] : List Input).flatMap (fun i =>
                let x := s.itu.inputs.get i
                [.nat 1 (boolCode x.level), .nat 1 (activeCode x.active), .nat 1 (boolCode x.activeLow),
                 .nat 2 x.debounce])
            ++ [.nat 1 (boolCode s.itu.latch)])) (wake s) ∧
    exec (.readTime p) s =
      answered p (okWith [.nat 4 s.itu.clock, .nat 1 (boolCode s.itu.clockValid), .nat 2 (wholeSeconds s.itu.mono)])
        (wake s) ∧
    exec (.idleSettingsRead p) s =
      answered p
        (okWith
          [.nat 2 s.itu.idleInterval, .nat 1 s.itu.idleSources.toNat, .nat 1 (boolCode (wake s).itu.idleDeadline.isNone),
           .optNat 2 ((wake s).itu.idleDeadline.map (secondsTo s))]) (wake s) ∧
    exec (.readStatus p) s = answered p (okWith (statusFields s p)) (wake s)

/-- A clock tick advances the clock, which stays at its greatest value (R191); the rollover clears what every machine
has consumed (R54); a watch past its deadline is OVERDUE (R57); a due price becomes current (R67); the idle timer
stops with IDLE_EXPIRED (R192). That a tick alone does not do the clock's other work is the model's choice (log entry
23), and so is that the idle timer's row takes the time base to the deadline (log entry 2). -/
def Obligations.ClockAndIdleTimer : Prop :=
  (∀ s : State, exec .clockTick s = .next { s with itu := { s.itu with clock := min max32 (s.itu.clock + 1) } }) ∧
  (∀ s : State,
    let day := (s.itu.clock - s.mtb.dayStart * 60) / 86400
    (s.itu.clockValid = true → s.mtb.periodDay < day →
      ∃ t, exec .rollover s = .next t ∧ { t with prt := s.prt, mtb := s.mtb } = s ∧
        t.mtb = { s.mtb with
          machines := s.mtb.machines.map fun e => { e with consumed := ⟨0, 0⟩ }, periodDay := day } ∧
        ∀ q, hasEvent (t.prt.ports.get q).pending .periodRollover = true) ∧
    ((s.itu.clockValid = false ∨ day ≤ s.mtb.periodDay) → exec .rollover s = .next s)) ∧
  (∀ (i d : Nat) (r : GroupRule) (s : State), s.mtb.rules[i]? = some r → r.watch = .armed d →
    (s.itu.clockValid = true → d ≤ s.itu.clock →
      ∃ t, exec (.watchExpiry i) s = .next t ∧ { t with prt := s.prt, mtb := s.mtb } = s ∧
        t.mtb = { s.mtb with rules := s.mtb.rules.set i { r with watch := .overdue } } ∧
        ∀ q, hasEvent (t.prt.ports.get q).pending .groupOverdue = true) ∧
    ((s.itu.clockValid = false ∨ s.itu.clock < d) → exec (.watchExpiry i) s = .next s)) ∧
  (∀ (c : Comp) (x : PendingPrice) (s : State), (priceRecord s c).pending = some x → s.itu.clockValid = true →
    x.effective ≤ s.itu.clock → (c = .c2 → dueFor s .c1 = none) →
      (powerFail s = false → freeSlots s.jnl ≠ 0 → saturated s.jnl = false →
        ∃ t, exec (.priceActivation c) s = .next t ∧
          priceRecord t c = { priceRecord s c with current := some x.price, pending := none } ∧
          t.jnl = appended s true (.adjust
            { param := .price, subject := Subject.ofComp c, old := (priceRecord s c).current.map Int.ofNat
              new := x.price, origin := x.origin }) ∧
          (∀ q, hasEvent (t.prt.ports.get q).pending .priceChanged = true) ∧
          { t with bil := s.bil, jnl := s.jnl, prt := s.prt } = s) ∧
      ((powerFail s = true ∨ freeSlots s.jnl = 0 ∨ saturated s.jnl = true) → exec (.priceActivation c) s = .next s)) ∧
  ∀ (d : Nat) (s : State), s.itu.idleDeadline = some d →
    ∃ t, exec .idleTimerExpiry s = .next t ∧ t.itu = { s.itu with mono := max s.itu.mono d, idleDeadline := none } ∧
      { t with itu := s.itu, prt := s.prt } = s ∧ ∀ q, hasEvent (t.prt.ports.get q).pending .idleExpired = true

/-- The emergency stop ends what flows and sets the latch (R188, R119, R150); the power-fail warning closes what is
open, and its end starts the idle timer (R189, R120, R150, R155); the other input events do what Table 11-1 gives
(R190, R194). -/
def Obligations.InputEventsAct : Prop :=
  (∀ s : State, inputActive s .estop = false →
    ∃ t, exec .estopActive s = .next t ∧ inputActive t .estop = true ∧ t.itu.latch = true ∧
      (s.itu.latch = true → { t with itu := { t.itu with inputs := s.itu.inputs } } = s) ∧
      (s.itu.latch = false →
        (∀ q, hasEvent (t.prt.ports.get q).pending .estop = true) ∧
        (∀ h, (hoseCtx s h).state = .armed → hoseCtx t h = idleCtx (hoseCtx s h)) ∧
        (∀ h d, inDemand (hoseCtx s h).state = true → (hoseCtx s h).dispense = some d →
          hoseCtx t h = endingCtx .estop s.itu.mono d (hoseCtx s h)) ∧
        (∀ h, inUse (hoseCtx s h).state = false ∨ (hoseCtx s h).state = .ending → hoseCtx t h = hoseCtx s h) ∧
        (receiptRuns s.rcp.receipt.state = true →
          t.rcp.receipt =
            { s.rcp.receipt with state := .settling, outcome := some .estop, timer := some (s.itu.mono + 20000) }) ∧
        t.tpi = s.tpi ∧ t.jnl = s.jnl ∧ t.stk = s.stk ∧ t.mtr = s.mtr)) ∧
  (∀ s : State, inputActive s .powerfail = false → ownersOk s = true → claimsOk s = true →
    ∃ t, exec .powerfailActive s = .next t ∧ powerFail t = true ∧
      (∀ h, inUse (hoseCtx t h).state = false ∧ (hoseCtx t h).dispense = none) ∧ t.rcp.receipt.state = .idle ∧
      t.rcp.receipt.docket = none ∧
      t.tpi.reconciles = ⟨none, none⟩ ∧ (∀ c, (compartment t c).op = .free) ∧
      (∀ m, (t.mtr.meters.get m).owned = false ∧ (t.mtr.meters.get m).leaks = {}) ∧
      (∀ c, (t.hsc.pumps.get c).state = .stopped) ∧ t.cal.on = s.cal.on ∧ t.itu.latch = s.itu.latch) ∧
  (∀ s : State, inputActive s .powerfail = true →
    ∃ t, exec .powerfailInactive s = .next t ∧ powerFail t = false ∧
      (s.itu.standby = false → t.itu.idleDeadline = some (s.itu.mono + s.itu.idleInterval * 60000)) ∧
      (s.itu.standby = true → t.itu.standby = true) ∧
      (inputActive s .calSwitch = false → t.cal.on = false) ∧ (∀ m, (t.mtr.meters.get m).leaks = {})) ∧
  (∀ s : State, inputActive s .ignition = false →
    ∃ t, exec .ignitionActive s = .next t ∧ inputActive t .ignition = true ∧ t.itu.standby = false ∧
      ((s.itu.standby = true ∨ s.itu.idleSources.getLsbD 5 = true) →
        t.itu.idleDeadline = some (s.itu.mono + s.itu.idleInterval * 60000)) ∧
      { t with itu := s.itu } = s) ∧
  (∀ s : State, inputActive s .supplyLow = false →
    ∃ t, exec .supplyLowActive s = .next t ∧ inputActive t .supplyLow = true ∧
      (∀ q, hasEvent (t.prt.ports.get q).pending .supplyLow = true) ∧
      { t with itu := { t.itu with inputs := s.itu.inputs }, prt := s.prt } = s) ∧
  ∀ (i : Input) (c : Instr) (s : State),
    (i, c) ∈ ([(.estop, .estopInactive), (.overfill, .overfillInactive), (.ignition, .ignitionInactive),
               (.supplyLow, .supplyLowInactive), (.tilt, .tiltInactive)] : List (Input × Instr)) →
    inputActive s i = true →
      ∃ t, exec c s = .next t ∧ inputActive t i = false ∧ { t with itu := { t.itu with inputs := s.itu.inputs } } = s

/-- A hardware reset, and RESTART of a part not in use, leave the volatile state as Tables 1-7, 2-5, 3-5, 6-7, 7-4,
8-4, 10-3 and 11-2 give it, the fault levels kept, no record OPEN and STARTUP pending (R123, R151, R156, R173, R195,
R203). -/
def Obligations.ResetAndRestartStartThePart : Prop :=
  let started (s t : State) : Prop :=
    (∀ h, hoseCtx t h = { state := restState (s.hsc.faults.get h) } ∧ (t.hsc.shadows.get h).opened = false ∧
      t.idu.readers.get h = {}) ∧
    t.hsc.faults = s.hsc.faults ∧ t.hsc.pumps = ⟨{}, {}⟩ ∧ t.hsc.map = s.hsc.map ∧ t.hsc.params = s.hsc.params ∧
    t.rcp.receipt = {} ∧ t.rcp.shadow.opened = false ∧ t.rcp.fault = s.rcp.fault ∧
    t.cal = { on := false, results := ⟨none, none⟩ } ∧ t.tpi.reconciles = ⟨none, none⟩ ∧
    (∀ m, (t.mtr.meters.get m).owned = false ∧ (t.mtr.meters.get m).params = (s.mtr.meters.get m).params) ∧
    (∀ c, (compartment t c).op = .free ∧ (compartment t c).committed = 0 ∧
      (compartment t c).params = (compartment s c).params ∧ (compartment t c).strapping = (compartment s c).strapping) ∧
    (∀ i, (contractorOf t i).committed = 0) ∧ (∀ r ∈ t.jnl.ring, r.isOpen = false) ∧
    (∀ i, inputActive t i = ((t.itu.inputs.get i).level != (s.itu.inputs.get i).activeLow)) ∧
    t.itu.standby = false ∧ t.itu.idleDeadline = some (t.itu.mono + s.itu.idleInterval * 60000) ∧
    ∀ q, hasEvent (t.prt.ports.get q).pending .startup = true ∧ (t.prt.ports.get q).mask = 0xFFFFFF#24 ∧
      (t.prt.ports.get q).answer = none ∧ (t.prt.ports.get q).phase = .ready
  (∀ (levels : BitVec 12) (battery : Bool) (down : Nat) (s : State), ringOk s.jnl = true → recordsOk s = true →
    ∃ t, exec (.hardwareReset levels battery down) s = .next t ∧ started s t ∧ t.itu.mono = 0 ∧
      (∀ i, (t.itu.inputs.get i).level = levels.getLsbD i.ctorIdx) ∧ t.itu.latch = inputActive t .estop ∧
      t.itu.clockValid = battery ∧ t.itu.clock = (if battery then min max32 (s.itu.clock + down) else 0) ∧
      (battery = false → ∀ q, hasEvent (t.prt.ports.get q).pending .fault = true)) ∧
  ∀ s : State, takes s .service = true →
    (partInUse s = true → exec (.restart .service) s = answered .service (plain .busy) (wake s)) ∧
    (partInUse s = false → ringOk s.jnl = true → recordsOk s = true →
      ∃ t, exec (.restart .service) s = answered .service (plain .ok) t ∧ started s t ∧ t.itu.mono = s.itu.mono ∧
        t.itu.latch = s.itu.latch ∧ t.itu.clock = s.itu.clock ∧ t.itu.clockValid = s.itu.clockValid ∧
        ∀ i, (t.itu.inputs.get i).level = (s.itu.inputs.get i).level)
end

