-- ==== Sys2Proof/Laws/State.lean ====
section
/-! SUPPORT. What reading an item gives after an item was changed, and the blocks that each operation of
Machine/Flags.lean and Machine/Ops.lean leaves as they were. -/

namespace Sys2Proof.Machine

/-! ## One value per item -/

@[simp] theorem PerHose.get_set {α : Type} (x : PerHose α) (h k : Hose) (v : α) :
    (x.set h v).get k = if k = h then v else x.get k := by
  cases h <;> cases k <;> rfl

@[simp] theorem PerHose.set_get {α : Type} (x : PerHose α) (h : Hose) : x.set h (x.get h) = x := by cases h <;> rfl

@[simp] theorem PerComp.get_set {α : Type} (x : PerComp α) (c k : Comp) (v : α) :
    (x.set c v).get k = if k = c then v else x.get k := by
  cases c <;> cases k <;> rfl

@[simp] theorem PerComp.set_get {α : Type} (x : PerComp α) (c : Comp) : x.set c (x.get c) = x := by cases c <;> rfl

@[simp] theorem PerMeter.get_set {α : Type} (x : PerMeter α) (m k : MeterId) (v : α) :
    (x.set m v).get k = if k = m then v else x.get k := by
  cases m <;> cases k <;> rfl

@[simp] theorem PerMeter.set_get {α : Type} (x : PerMeter α) (m : MeterId) : x.set m (x.get m) = x := by cases m <;> rfl

@[simp] theorem PerPort.get_set {α : Type} (x : PerPort α) (p k : Port) (v : α) :
    (x.set p v).get k = if k = p then v else x.get k := by
  cases p <;> cases k <;> rfl

@[simp] theorem PerPort.set_get {α : Type} (x : PerPort α) (p : Port) : x.set p (x.get p) = x := by cases p <;> rfl

@[simp] theorem PerSource.get_set {α : Type} (x : PerSource α) (i k : Source) (v : α) :
    (x.set i v).get k = if k = i then v else x.get k := by
  cases i <;> cases k <;> rfl

@[simp] theorem PerSource.set_get {α : Type} (x : PerSource α) (i : Source) : x.set i (x.get i) = x := by cases i <;> rfl

@[simp] theorem PerInput.get_set {α : Type} (x : PerInput α) (i k : Input) (v : α) :
    (x.set i v).get k = if k = i then v else x.get k := by
  cases i <;> cases k <;> rfl

@[simp] theorem PerInput.set_get {α : Type} (x : PerInput α) (i : Input) : x.set i (x.get i) = x := by cases i <;> rfl

@[simp] theorem PerPort.get_map {α β : Type} (f : α → β) (x : PerPort α) (p : Port) : (x.map f).get p = f (x.get p) := by
  cases p <;> rfl

/-! ## A block of the state -/

@[simp] theorem modMtr_frame (f : Mtr → Mtr) (s : State) :
    (modMtr f s).mtr = f s.mtr ∧ (modMtr f s).tpi = s.tpi ∧ (modMtr f s).idu = s.idu ∧ (modMtr f s).mtb = s.mtb ∧
      (modMtr f s).bil = s.bil ∧ (modMtr f s).hsc = s.hsc ∧ (modMtr f s).stk = s.stk ∧ (modMtr f s).rcp = s.rcp ∧
      (modMtr f s).jnl = s.jnl ∧ (modMtr f s).cal = s.cal ∧ (modMtr f s).itu = s.itu ∧ (modMtr f s).prt = s.prt ∧
      (modMtr f s).fresh = s.fresh ∧ (modMtr f s).pending = s.pending := by
  simp [modMtr]

@[simp] theorem modTpi_frame (f : Tpi → Tpi) (s : State) :
    (modTpi f s).tpi = f s.tpi ∧ (modTpi f s).mtr = s.mtr ∧ (modTpi f s).idu = s.idu ∧ (modTpi f s).mtb = s.mtb ∧
      (modTpi f s).bil = s.bil ∧ (modTpi f s).hsc = s.hsc ∧ (modTpi f s).stk = s.stk ∧ (modTpi f s).rcp = s.rcp ∧
      (modTpi f s).jnl = s.jnl ∧ (modTpi f s).cal = s.cal ∧ (modTpi f s).itu = s.itu ∧ (modTpi f s).prt = s.prt ∧
      (modTpi f s).fresh = s.fresh ∧ (modTpi f s).pending = s.pending := by
  simp [modTpi]

@[simp] theorem modIdu_frame (f : Idu → Idu) (s : State) :
    (modIdu f s).idu = f s.idu ∧ (modIdu f s).mtr = s.mtr ∧ (modIdu f s).tpi = s.tpi ∧ (modIdu f s).mtb = s.mtb ∧
      (modIdu f s).bil = s.bil ∧ (modIdu f s).hsc = s.hsc ∧ (modIdu f s).stk = s.stk ∧ (modIdu f s).rcp = s.rcp ∧
      (modIdu f s).jnl = s.jnl ∧ (modIdu f s).cal = s.cal ∧ (modIdu f s).itu = s.itu ∧ (modIdu f s).prt = s.prt ∧
      (modIdu f s).fresh = s.fresh ∧ (modIdu f s).pending = s.pending := by
  simp [modIdu]

@[simp] theorem modMtb_frame (f : Mtb → Mtb) (s : State) :
    (modMtb f s).mtb = f s.mtb ∧ (modMtb f s).mtr = s.mtr ∧ (modMtb f s).tpi = s.tpi ∧ (modMtb f s).idu = s.idu ∧
      (modMtb f s).bil = s.bil ∧ (modMtb f s).hsc = s.hsc ∧ (modMtb f s).stk = s.stk ∧ (modMtb f s).rcp = s.rcp ∧
      (modMtb f s).jnl = s.jnl ∧ (modMtb f s).cal = s.cal ∧ (modMtb f s).itu = s.itu ∧ (modMtb f s).prt = s.prt ∧
      (modMtb f s).fresh = s.fresh ∧ (modMtb f s).pending = s.pending := by
  simp [modMtb]

@[simp] theorem modBil_frame (f : Bil → Bil) (s : State) :
    (modBil f s).bil = f s.bil ∧ (modBil f s).mtr = s.mtr ∧ (modBil f s).tpi = s.tpi ∧ (modBil f s).idu = s.idu ∧
      (modBil f s).mtb = s.mtb ∧ (modBil f s).hsc = s.hsc ∧ (modBil f s).stk = s.stk ∧ (modBil f s).rcp = s.rcp ∧
      (modBil f s).jnl = s.jnl ∧ (modBil f s).cal = s.cal ∧ (modBil f s).itu = s.itu ∧ (modBil f s).prt = s.prt ∧
      (modBil f s).fresh = s.fresh ∧ (modBil f s).pending = s.pending := by
  simp [modBil]

@[simp] theorem modHsc_frame (f : Hsc → Hsc) (s : State) :
    (modHsc f s).hsc = f s.hsc ∧ (modHsc f s).mtr = s.mtr ∧ (modHsc f s).tpi = s.tpi ∧ (modHsc f s).idu = s.idu ∧
      (modHsc f s).mtb = s.mtb ∧ (modHsc f s).bil = s.bil ∧ (modHsc f s).stk = s.stk ∧ (modHsc f s).rcp = s.rcp ∧
      (modHsc f s).jnl = s.jnl ∧ (modHsc f s).cal = s.cal ∧ (modHsc f s).itu = s.itu ∧ (modHsc f s).prt = s.prt ∧
      (modHsc f s).fresh = s.fresh ∧ (modHsc f s).pending = s.pending := by
  simp [modHsc]

@[simp] theorem modStk_frame (f : Stk → Stk) (s : State) :
    (modStk f s).stk = f s.stk ∧ (modStk f s).mtr = s.mtr ∧ (modStk f s).tpi = s.tpi ∧ (modStk f s).idu = s.idu ∧
      (modStk f s).mtb = s.mtb ∧ (modStk f s).bil = s.bil ∧ (modStk f s).hsc = s.hsc ∧ (modStk f s).rcp = s.rcp ∧
      (modStk f s).jnl = s.jnl ∧ (modStk f s).cal = s.cal ∧ (modStk f s).itu = s.itu ∧ (modStk f s).prt = s.prt ∧
      (modStk f s).fresh = s.fresh ∧ (modStk f s).pending = s.pending := by
  simp [modStk]

@[simp] theorem modRcp_frame (f : Rcp → Rcp) (s : State) :
    (modRcp f s).rcp = f s.rcp ∧ (modRcp f s).mtr = s.mtr ∧ (modRcp f s).tpi = s.tpi ∧ (modRcp f s).idu = s.idu ∧
      (modRcp f s).mtb = s.mtb ∧ (modRcp f s).bil = s.bil ∧ (modRcp f s).hsc = s.hsc ∧ (modRcp f s).stk = s.stk ∧
      (modRcp f s).jnl = s.jnl ∧ (modRcp f s).cal = s.cal ∧ (modRcp f s).itu = s.itu ∧ (modRcp f s).prt = s.prt ∧
      (modRcp f s).fresh = s.fresh ∧ (modRcp f s).pending = s.pending := by
  simp [modRcp]

@[simp] theorem modJnl_frame (f : Jnl → Jnl) (s : State) :
    (modJnl f s).jnl = f s.jnl ∧ (modJnl f s).mtr = s.mtr ∧ (modJnl f s).tpi = s.tpi ∧ (modJnl f s).idu = s.idu ∧
      (modJnl f s).mtb = s.mtb ∧ (modJnl f s).bil = s.bil ∧ (modJnl f s).hsc = s.hsc ∧ (modJnl f s).stk = s.stk ∧
      (modJnl f s).rcp = s.rcp ∧ (modJnl f s).cal = s.cal ∧ (modJnl f s).itu = s.itu ∧ (modJnl f s).prt = s.prt ∧
      (modJnl f s).fresh = s.fresh ∧ (modJnl f s).pending = s.pending := by
  simp [modJnl]

@[simp] theorem modCal_frame (f : Cal → Cal) (s : State) :
    (modCal f s).cal = f s.cal ∧ (modCal f s).mtr = s.mtr ∧ (modCal f s).tpi = s.tpi ∧ (modCal f s).idu = s.idu ∧
      (modCal f s).mtb = s.mtb ∧ (modCal f s).bil = s.bil ∧ (modCal f s).hsc = s.hsc ∧ (modCal f s).stk = s.stk ∧
      (modCal f s).rcp = s.rcp ∧ (modCal f s).jnl = s.jnl ∧ (modCal f s).itu = s.itu ∧ (modCal f s).prt = s.prt ∧
      (modCal f s).fresh = s.fresh ∧ (modCal f s).pending = s.pending := by
  simp [modCal]

@[simp] theorem modItu_frame (f : Itu → Itu) (s : State) :
    (modItu f s).itu = f s.itu ∧ (modItu f s).mtr = s.mtr ∧ (modItu f s).tpi = s.tpi ∧ (modItu f s).idu = s.idu ∧
      (modItu f s).mtb = s.mtb ∧ (modItu f s).bil = s.bil ∧ (modItu f s).hsc = s.hsc ∧ (modItu f s).stk = s.stk ∧
      (modItu f s).rcp = s.rcp ∧ (modItu f s).jnl = s.jnl ∧ (modItu f s).cal = s.cal ∧ (modItu f s).prt = s.prt ∧
      (modItu f s).fresh = s.fresh ∧ (modItu f s).pending = s.pending := by
  simp [modItu]

@[simp] theorem modPort_frame (p : Port) (f : PortState → PortState) (s : State) :
    (modPort p f s).prt.ports = s.prt.ports.set p (f (s.prt.ports.get p)) ∧ (modPort p f s).mtr = s.mtr ∧
      (modPort p f s).tpi = s.tpi ∧ (modPort p f s).idu = s.idu ∧ (modPort p f s).mtb = s.mtb ∧
      (modPort p f s).bil = s.bil ∧ (modPort p f s).hsc = s.hsc ∧ (modPort p f s).stk = s.stk ∧
      (modPort p f s).rcp = s.rcp ∧ (modPort p f s).jnl = s.jnl ∧ (modPort p f s).cal = s.cal ∧
      (modPort p f s).itu = s.itu ∧ (modPort p f s).fresh = s.fresh ∧ (modPort p f s).pending = s.pending := by
  simp [modPort]

/-! ## An item of a block -/

@[simp] theorem hoseCtx_modHose (h k : Hose) (f : HoseCtx → HoseCtx) (s : State) :
    hoseCtx (modHose h f s) k = if k = h then f (hoseCtx s h) else hoseCtx s k := by
  simp [hoseCtx, modHose]

@[simp] theorem modHose_hoses (h : Hose) (f : HoseCtx → HoseCtx) (s : State) :
    (modHose h f s).hsc.hoses = s.hsc.hoses.set h (f (hoseCtx s h)) := by
  simp [hoseCtx, modHose]

@[simp] theorem hoseCtx_modDispense (h k : Hose) (f : Dispense → Dispense) (s : State) :
    hoseCtx (modDispense h f s) k =
      if k = h then { hoseCtx s h with dispense := (hoseCtx s h).dispense.map f } else hoseCtx s k := by
  simp [modDispense]

@[simp] theorem compartment_modComp (c k : Comp) (f : Compartment → Compartment) (s : State) :
    compartment (modComp c f s) k = if k = c then f (compartment s c) else compartment s k := by
  simp [compartment, modComp]

@[simp] theorem setFault_faults (h : Hose) (l : FaultLevel) (s : State) :
    (setFault h l s).hsc.faults = s.hsc.faults.set h l := by
  simp [setFault]

@[simp] theorem setShadow_shadows (h : Hose) (w : Shadow) (s : State) :
    (setShadow h w s).hsc.shadows = s.hsc.shadows.set h w := by
  simp [setShadow]

@[simp] theorem modPump_pumps (c : Comp) (f : Pump → Pump) (s : State) :
    (modPump c f s).hsc.pumps = s.hsc.pumps.set c (f (s.hsc.pumps.get c)) := by
  simp [modPump]

@[simp] theorem modReader_readers (h : Hose) (f : Reader → Reader) (s : State) :
    (modReader h f s).idu.readers = s.idu.readers.set h (f (s.idu.readers.get h)) := by
  simp [modReader]

@[simp] theorem modMeter_meters (m : MeterId) (f : MeterState → MeterState) (s : State) :
    (modMeter m f s).mtr.meters = s.mtr.meters.set m (f (s.mtr.meters.get m)) := by
  simp [modMeter]

@[simp] theorem modSensor_sensors (m : MeterId) (f : SensorState → SensorState) (s : State) :
    (modSensor m f s).tpi.sensors = s.tpi.sensors.set m (f (s.tpi.sensors.get m)) := by
  simp [modSensor]

@[simp] theorem modProbe_probes (c : Comp) (f : ProbeState → ProbeState) (s : State) :
    (modProbe c f s).tpi.probes = s.tpi.probes.set c (f (s.tpi.probes.get c)) := by
  simp [modProbe]

@[simp] theorem modReceipt_receipt (f : Receipt → Receipt) (s : State) :
    (modReceipt f s).rcp.receipt = f s.rcp.receipt := by
  simp [modReceipt]

@[simp] theorem raiseSet_ports (set : BitVec 24) (s : State) :
    (raiseSet set s).prt.ports = s.prt.ports.map fun p => { p with pending := p.pending ||| set } := rfl

/-! ## What each operation leaves -/

@[simp] theorem raiseSet_frame (set : BitVec 24) (s : State) :
    (raiseSet set s).mtr = s.mtr ∧ (raiseSet set s).tpi = s.tpi ∧ (raiseSet set s).idu = s.idu ∧
      (raiseSet set s).mtb = s.mtb ∧ (raiseSet set s).bil = s.bil ∧ (raiseSet set s).hsc = s.hsc ∧
      (raiseSet set s).stk = s.stk ∧ (raiseSet set s).rcp = s.rcp ∧ (raiseSet set s).jnl = s.jnl ∧
      (raiseSet set s).cal = s.cal ∧ (raiseSet set s).itu = s.itu ∧ (raiseSet set s).fresh = s.fresh ∧
      (raiseSet set s).pending = s.pending := by
  simp [raiseSet]

@[simp] theorem raise_frame (e : Event) (s : State) :
    (raise e s).mtr = s.mtr ∧ (raise e s).tpi = s.tpi ∧ (raise e s).idu = s.idu ∧ (raise e s).mtb = s.mtb ∧
      (raise e s).bil = s.bil ∧ (raise e s).hsc = s.hsc ∧ (raise e s).stk = s.stk ∧ (raise e s).rcp = s.rcp ∧
      (raise e s).jnl = s.jnl ∧ (raise e s).cal = s.cal ∧ (raise e s).itu = s.itu ∧ (raise e s).fresh = s.fresh ∧
      (raise e s).pending = s.pending := by
  simp [raise]

@[simp] theorem raiseIf_frame (b : Bool) (e : Event) (s : State) :
    (raiseIf b e s).mtr = s.mtr ∧ (raiseIf b e s).tpi = s.tpi ∧ (raiseIf b e s).idu = s.idu ∧
      (raiseIf b e s).mtb = s.mtb ∧ (raiseIf b e s).bil = s.bil ∧ (raiseIf b e s).hsc = s.hsc ∧
      (raiseIf b e s).stk = s.stk ∧ (raiseIf b e s).rcp = s.rcp ∧ (raiseIf b e s).jnl = s.jnl ∧
      (raiseIf b e s).cal = s.cal ∧ (raiseIf b e s).itu = s.itu ∧ (raiseIf b e s).fresh = s.fresh ∧
      (raiseIf b e s).pending = s.pending := by
  unfold raiseIf; (repeat' split) <;> simp

@[simp] theorem modHose_frame (h : Hose) (f : HoseCtx → HoseCtx) (s : State) :
    (modHose h f s).mtr = s.mtr ∧ (modHose h f s).tpi = s.tpi ∧ (modHose h f s).idu = s.idu ∧
      (modHose h f s).mtb = s.mtb ∧ (modHose h f s).bil = s.bil ∧ (modHose h f s).hsc.faults = s.hsc.faults ∧
      (modHose h f s).hsc.shadows = s.hsc.shadows ∧ (modHose h f s).hsc.pumps = s.hsc.pumps ∧
      (modHose h f s).hsc.map = s.hsc.map ∧ (modHose h f s).hsc.params = s.hsc.params ∧
      (modHose h f s).hsc.minDelivery = s.hsc.minDelivery ∧ (modHose h f s).hsc.retries = s.hsc.retries ∧
      (modHose h f s).stk = s.stk ∧ (modHose h f s).rcp = s.rcp ∧ (modHose h f s).jnl = s.jnl ∧
      (modHose h f s).cal = s.cal ∧ (modHose h f s).itu = s.itu ∧ (modHose h f s).prt = s.prt ∧
      (modHose h f s).fresh = s.fresh ∧ (modHose h f s).pending = s.pending := by
  simp [modHose]

@[simp] theorem modDispense_frame (h : Hose) (f : Dispense → Dispense) (s : State) :
    (modDispense h f s).mtr = s.mtr ∧ (modDispense h f s).tpi = s.tpi ∧ (modDispense h f s).idu = s.idu ∧
      (modDispense h f s).mtb = s.mtb ∧ (modDispense h f s).bil = s.bil ∧
      (modDispense h f s).hsc.faults = s.hsc.faults ∧ (modDispense h f s).hsc.shadows = s.hsc.shadows ∧
      (modDispense h f s).hsc.pumps = s.hsc.pumps ∧ (modDispense h f s).hsc.map = s.hsc.map ∧
      (modDispense h f s).hsc.params = s.hsc.params ∧ (modDispense h f s).hsc.minDelivery = s.hsc.minDelivery ∧
      (modDispense h f s).hsc.retries = s.hsc.retries ∧ (modDispense h f s).stk = s.stk ∧
      (modDispense h f s).rcp = s.rcp ∧ (modDispense h f s).jnl = s.jnl ∧ (modDispense h f s).cal = s.cal ∧
      (modDispense h f s).itu = s.itu ∧ (modDispense h f s).prt = s.prt ∧ (modDispense h f s).fresh = s.fresh ∧
      (modDispense h f s).pending = s.pending := by
  simp [modDispense]

@[simp] theorem setFault_frame (h : Hose) (l : FaultLevel) (s : State) :
    (setFault h l s).mtr = s.mtr ∧ (setFault h l s).tpi = s.tpi ∧ (setFault h l s).idu = s.idu ∧
      (setFault h l s).mtb = s.mtb ∧ (setFault h l s).bil = s.bil ∧ (setFault h l s).hsc.hoses = s.hsc.hoses ∧
      (setFault h l s).hsc.shadows = s.hsc.shadows ∧ (setFault h l s).hsc.pumps = s.hsc.pumps ∧
      (setFault h l s).hsc.map = s.hsc.map ∧ (setFault h l s).hsc.params = s.hsc.params ∧
      (setFault h l s).hsc.minDelivery = s.hsc.minDelivery ∧ (setFault h l s).hsc.retries = s.hsc.retries ∧
      (setFault h l s).stk = s.stk ∧ (setFault h l s).rcp = s.rcp ∧ (setFault h l s).jnl = s.jnl ∧
      (setFault h l s).cal = s.cal ∧ (setFault h l s).itu = s.itu ∧ (setFault h l s).prt = s.prt ∧
      (setFault h l s).fresh = s.fresh ∧ (setFault h l s).pending = s.pending := by
  simp [setFault]

@[simp] theorem setShadow_frame (h : Hose) (w : Shadow) (s : State) :
    (setShadow h w s).mtr = s.mtr ∧ (setShadow h w s).tpi = s.tpi ∧ (setShadow h w s).idu = s.idu ∧
      (setShadow h w s).mtb = s.mtb ∧ (setShadow h w s).bil = s.bil ∧ (setShadow h w s).hsc.hoses = s.hsc.hoses ∧
      (setShadow h w s).hsc.faults = s.hsc.faults ∧ (setShadow h w s).hsc.pumps = s.hsc.pumps ∧
      (setShadow h w s).hsc.map = s.hsc.map ∧ (setShadow h w s).hsc.params = s.hsc.params ∧
      (setShadow h w s).hsc.minDelivery = s.hsc.minDelivery ∧ (setShadow h w s).hsc.retries = s.hsc.retries ∧
      (setShadow h w s).stk = s.stk ∧ (setShadow h w s).rcp = s.rcp ∧ (setShadow h w s).jnl = s.jnl ∧
      (setShadow h w s).cal = s.cal ∧ (setShadow h w s).itu = s.itu ∧ (setShadow h w s).prt = s.prt ∧
      (setShadow h w s).fresh = s.fresh ∧ (setShadow h w s).pending = s.pending := by
  simp [setShadow]

@[simp] theorem modPump_frame (c : Comp) (f : Pump → Pump) (s : State) :
    (modPump c f s).mtr = s.mtr ∧ (modPump c f s).tpi = s.tpi ∧ (modPump c f s).idu = s.idu ∧
      (modPump c f s).mtb = s.mtb ∧ (modPump c f s).bil = s.bil ∧ (modPump c f s).hsc.hoses = s.hsc.hoses ∧
      (modPump c f s).hsc.faults = s.hsc.faults ∧ (modPump c f s).hsc.shadows = s.hsc.shadows ∧
      (modPump c f s).hsc.map = s.hsc.map ∧ (modPump c f s).hsc.params = s.hsc.params ∧
      (modPump c f s).hsc.minDelivery = s.hsc.minDelivery ∧ (modPump c f s).hsc.retries = s.hsc.retries ∧
      (modPump c f s).stk = s.stk ∧ (modPump c f s).rcp = s.rcp ∧ (modPump c f s).jnl = s.jnl ∧
      (modPump c f s).cal = s.cal ∧ (modPump c f s).itu = s.itu ∧ (modPump c f s).prt = s.prt ∧
      (modPump c f s).fresh = s.fresh ∧ (modPump c f s).pending = s.pending := by
  simp [modPump]

@[simp] theorem modReader_frame (h : Hose) (f : Reader → Reader) (s : State) :
    (modReader h f s).mtr = s.mtr ∧ (modReader h f s).tpi = s.tpi ∧
      (modReader h f s).idu.templates = s.idu.templates ∧ (modReader h f s).idu.confirmCount = s.idu.confirmCount ∧
      (modReader h f s).mtb = s.mtb ∧ (modReader h f s).bil = s.bil ∧ (modReader h f s).hsc = s.hsc ∧
      (modReader h f s).stk = s.stk ∧ (modReader h f s).rcp = s.rcp ∧ (modReader h f s).jnl = s.jnl ∧
      (modReader h f s).cal = s.cal ∧ (modReader h f s).itu = s.itu ∧ (modReader h f s).prt = s.prt ∧
      (modReader h f s).fresh = s.fresh ∧ (modReader h f s).pending = s.pending := by
  simp [modReader]

@[simp] theorem modMeter_frame (m : MeterId) (f : MeterState → MeterState) (s : State) :
    (modMeter m f s).mtr.inletComp = s.mtr.inletComp ∧ (modMeter m f s).tpi = s.tpi ∧ (modMeter m f s).idu = s.idu ∧
      (modMeter m f s).mtb = s.mtb ∧ (modMeter m f s).bil = s.bil ∧ (modMeter m f s).hsc = s.hsc ∧
      (modMeter m f s).stk = s.stk ∧ (modMeter m f s).rcp = s.rcp ∧ (modMeter m f s).jnl = s.jnl ∧
      (modMeter m f s).cal = s.cal ∧ (modMeter m f s).itu = s.itu ∧ (modMeter m f s).prt = s.prt ∧
      (modMeter m f s).fresh = s.fresh ∧ (modMeter m f s).pending = s.pending := by
  simp [modMeter]

@[simp] theorem modSensor_frame (m : MeterId) (f : SensorState → SensorState) (s : State) :
    (modSensor m f s).mtr = s.mtr ∧ (modSensor m f s).tpi.probes = s.tpi.probes ∧
      (modSensor m f s).tpi.reconciles = s.tpi.reconciles ∧
      (modSensor m f s).tpi.lastReconcile = s.tpi.lastReconcile ∧ (modSensor m f s).idu = s.idu ∧
      (modSensor m f s).mtb = s.mtb ∧ (modSensor m f s).bil = s.bil ∧ (modSensor m f s).hsc = s.hsc ∧
      (modSensor m f s).stk = s.stk ∧ (modSensor m f s).rcp = s.rcp ∧ (modSensor m f s).jnl = s.jnl ∧
      (modSensor m f s).cal = s.cal ∧ (modSensor m f s).itu = s.itu ∧ (modSensor m f s).prt = s.prt ∧
      (modSensor m f s).fresh = s.fresh ∧ (modSensor m f s).pending = s.pending := by
  simp [modSensor]

@[simp] theorem modProbe_frame (c : Comp) (f : ProbeState → ProbeState) (s : State) :
    (modProbe c f s).mtr = s.mtr ∧ (modProbe c f s).tpi.sensors = s.tpi.sensors ∧
      (modProbe c f s).tpi.reconciles = s.tpi.reconciles ∧ (modProbe c f s).tpi.lastReconcile = s.tpi.lastReconcile ∧
      (modProbe c f s).idu = s.idu ∧ (modProbe c f s).mtb = s.mtb ∧ (modProbe c f s).bil = s.bil ∧
      (modProbe c f s).hsc = s.hsc ∧ (modProbe c f s).stk = s.stk ∧ (modProbe c f s).rcp = s.rcp ∧
      (modProbe c f s).jnl = s.jnl ∧ (modProbe c f s).cal = s.cal ∧ (modProbe c f s).itu = s.itu ∧
      (modProbe c f s).prt = s.prt ∧ (modProbe c f s).fresh = s.fresh ∧ (modProbe c f s).pending = s.pending := by
  simp [modProbe]

@[simp] theorem modComp_frame (c : Comp) (f : Compartment → Compartment) (s : State) :
    (modComp c f s).mtr = s.mtr ∧ (modComp c f s).tpi = s.tpi ∧ (modComp c f s).idu = s.idu ∧
      (modComp c f s).mtb = s.mtb ∧ (modComp c f s).bil = s.bil ∧ (modComp c f s).hsc = s.hsc ∧
      (modComp c f s).rcp = s.rcp ∧ (modComp c f s).jnl = s.jnl ∧ (modComp c f s).cal = s.cal ∧
      (modComp c f s).itu = s.itu ∧ (modComp c f s).prt = s.prt ∧ (modComp c f s).fresh = s.fresh ∧
      (modComp c f s).pending = s.pending := by
  simp [modComp]

@[simp] theorem modReceipt_frame (f : Receipt → Receipt) (s : State) :
    (modReceipt f s).mtr = s.mtr ∧ (modReceipt f s).tpi = s.tpi ∧ (modReceipt f s).idu = s.idu ∧
      (modReceipt f s).mtb = s.mtb ∧ (modReceipt f s).bil = s.bil ∧ (modReceipt f s).hsc = s.hsc ∧
      (modReceipt f s).stk = s.stk ∧ (modReceipt f s).rcp.shadow = s.rcp.shadow ∧
      (modReceipt f s).rcp.fault = s.rcp.fault ∧ (modReceipt f s).jnl = s.jnl ∧ (modReceipt f s).cal = s.cal ∧
      (modReceipt f s).itu = s.itu ∧ (modReceipt f s).prt = s.prt ∧ (modReceipt f s).fresh = s.fresh ∧
      (modReceipt f s).pending = s.pending := by
  simp [modReceipt]

@[simp] theorem spend_frame (s : State) :
    (spend s).mtr = s.mtr ∧ (spend s).tpi = s.tpi ∧ (spend s).idu = s.idu ∧ (spend s).mtb = s.mtb ∧
      (spend s).bil = s.bil ∧ (spend s).hsc = s.hsc ∧ (spend s).stk = s.stk ∧ (spend s).rcp = s.rcp ∧
      (spend s).jnl = s.jnl ∧ (spend s).cal = s.cal ∧ (spend s).itu = s.itu ∧ (spend s).prt = s.prt ∧
      (spend s).pending = s.pending := by
  simp [spend]

@[simp] theorem reachTime_frame (deadline : Nat) (s : State) :
    (reachTime deadline s).mtr = s.mtr ∧ (reachTime deadline s).tpi = s.tpi ∧ (reachTime deadline s).idu = s.idu ∧
      (reachTime deadline s).mtb = s.mtb ∧ (reachTime deadline s).bil = s.bil ∧ (reachTime deadline s).hsc = s.hsc ∧
      (reachTime deadline s).stk = s.stk ∧ (reachTime deadline s).rcp = s.rcp ∧ (reachTime deadline s).jnl = s.jnl ∧
      (reachTime deadline s).cal = s.cal ∧ (reachTime deadline s).itu.inputs = s.itu.inputs ∧
      (reachTime deadline s).itu.latch = s.itu.latch ∧ (reachTime deadline s).itu.clock = s.itu.clock ∧
      (reachTime deadline s).itu.clockValid = s.itu.clockValid ∧
      (reachTime deadline s).itu.idleInterval = s.itu.idleInterval ∧
      (reachTime deadline s).itu.idleSources = s.itu.idleSources ∧
      (reachTime deadline s).itu.lines = s.itu.lines ∧
      (reachTime deadline s).itu.idleDeadline = s.itu.idleDeadline ∧
      (reachTime deadline s).itu.standby = s.itu.standby ∧ (reachTime deadline s).prt = s.prt ∧
      (reachTime deadline s).fresh = s.fresh ∧ (reachTime deadline s).pending = s.pending := by
  simp [reachTime]

@[simp] theorem startIdle_frame (s : State) :
    (startIdle s).mtr = s.mtr ∧ (startIdle s).tpi = s.tpi ∧ (startIdle s).idu = s.idu ∧ (startIdle s).mtb = s.mtb ∧
      (startIdle s).bil = s.bil ∧ (startIdle s).hsc = s.hsc ∧ (startIdle s).stk = s.stk ∧ (startIdle s).rcp = s.rcp ∧
      (startIdle s).jnl = s.jnl ∧ (startIdle s).cal = s.cal ∧ (startIdle s).itu.inputs = s.itu.inputs ∧
      (startIdle s).itu.latch = s.itu.latch ∧ (startIdle s).itu.clock = s.itu.clock ∧
      (startIdle s).itu.clockValid = s.itu.clockValid ∧ (startIdle s).itu.mono = s.itu.mono ∧
      (startIdle s).itu.idleInterval = s.itu.idleInterval ∧ (startIdle s).itu.idleSources = s.itu.idleSources ∧
      (startIdle s).itu.lines = s.itu.lines ∧
      (startIdle s).itu.standby = s.itu.standby ∧ (startIdle s).prt = s.prt ∧ (startIdle s).fresh = s.fresh ∧
      (startIdle s).pending = s.pending := by
  simp [startIdle]

@[simp] theorem reloadIdle_frame (src : IdleSource) (s : State) :
    (reloadIdle src s).mtr = s.mtr ∧ (reloadIdle src s).tpi = s.tpi ∧ (reloadIdle src s).idu = s.idu ∧
      (reloadIdle src s).mtb = s.mtb ∧ (reloadIdle src s).bil = s.bil ∧ (reloadIdle src s).hsc = s.hsc ∧
      (reloadIdle src s).stk = s.stk ∧ (reloadIdle src s).rcp = s.rcp ∧ (reloadIdle src s).jnl = s.jnl ∧
      (reloadIdle src s).cal = s.cal ∧ (reloadIdle src s).itu.inputs = s.itu.inputs ∧
      (reloadIdle src s).itu.latch = s.itu.latch ∧ (reloadIdle src s).itu.clock = s.itu.clock ∧
      (reloadIdle src s).itu.clockValid = s.itu.clockValid ∧ (reloadIdle src s).itu.mono = s.itu.mono ∧
      (reloadIdle src s).itu.idleInterval = s.itu.idleInterval ∧
      (reloadIdle src s).itu.idleSources = s.itu.idleSources ∧
      (reloadIdle src s).itu.lines = s.itu.lines ∧ (reloadIdle src s).itu.standby = s.itu.standby ∧
      (reloadIdle src s).prt = s.prt ∧ (reloadIdle src s).fresh = s.fresh ∧
      (reloadIdle src s).pending = s.pending := by
  unfold reloadIdle; (repeat' split) <;> simp

@[simp] theorem wake_frame (s : State) :
    (wake s).mtr = s.mtr ∧ (wake s).tpi = s.tpi ∧ (wake s).idu = s.idu ∧ (wake s).mtb = s.mtb ∧
      (wake s).bil = s.bil ∧ (wake s).hsc = s.hsc ∧ (wake s).stk = s.stk ∧ (wake s).rcp = s.rcp ∧
      (wake s).jnl = s.jnl ∧ (wake s).cal = s.cal ∧ (wake s).itu.inputs = s.itu.inputs ∧
      (wake s).itu.latch = s.itu.latch ∧ (wake s).itu.clock = s.itu.clock ∧
      (wake s).itu.clockValid = s.itu.clockValid ∧ (wake s).itu.mono = s.itu.mono ∧
      (wake s).itu.idleInterval = s.itu.idleInterval ∧ (wake s).itu.idleSources = s.itu.idleSources ∧
      (wake s).itu.lines = s.itu.lines ∧
      (wake s).prt = s.prt ∧ (wake s).fresh = s.fresh ∧ (wake s).pending = s.pending := by
  unfold wake; (repeat' split) <;> simp

@[simp] theorem takeSlot_frame (body : Body) (openTime : Nat) (closeTime : Option Nat) (s : State) :
    (takeSlot body openTime closeTime s).mtr = s.mtr ∧ (takeSlot body openTime closeTime s).tpi = s.tpi ∧
      (takeSlot body openTime closeTime s).idu = s.idu ∧ (takeSlot body openTime closeTime s).mtb = s.mtb ∧
      (takeSlot body openTime closeTime s).bil = s.bil ∧ (takeSlot body openTime closeTime s).hsc = s.hsc ∧
      (takeSlot body openTime closeTime s).stk = s.stk ∧ (takeSlot body openTime closeTime s).rcp = s.rcp ∧
      (takeSlot body openTime closeTime s).jnl.cursor = s.jnl.cursor ∧
      (takeSlot body openTime closeTime s).jnl.deferred = s.jnl.deferred ∧
      (takeSlot body openTime closeTime s).cal = s.cal ∧ (takeSlot body openTime closeTime s).itu = s.itu ∧
      (takeSlot body openTime closeTime s).fresh = s.fresh ∧
      (takeSlot body openTime closeTime s).pending = s.pending := by
  simp [takeSlot]

@[simp] theorem reserve_frame (body : Body) (s : State) :
    (reserve body s).mtr = s.mtr ∧ (reserve body s).tpi = s.tpi ∧ (reserve body s).idu = s.idu ∧
      (reserve body s).mtb = s.mtb ∧ (reserve body s).bil = s.bil ∧ (reserve body s).hsc = s.hsc ∧
      (reserve body s).stk = s.stk ∧ (reserve body s).rcp = s.rcp ∧ (reserve body s).jnl.cursor = s.jnl.cursor ∧
      (reserve body s).jnl.deferred = s.jnl.deferred ∧ (reserve body s).cal = s.cal ∧ (reserve body s).itu = s.itu ∧
      (reserve body s).fresh = s.fresh ∧ (reserve body s).pending = s.pending := by
  simp [reserve]

@[simp] theorem writeClosed_frame (body : Body) (s : State) :
    (writeClosed body s).mtr = s.mtr ∧ (writeClosed body s).tpi = s.tpi ∧ (writeClosed body s).idu = s.idu ∧
      (writeClosed body s).mtb = s.mtb ∧ (writeClosed body s).bil = s.bil ∧ (writeClosed body s).hsc = s.hsc ∧
      (writeClosed body s).stk = s.stk ∧ (writeClosed body s).rcp = s.rcp ∧
      (writeClosed body s).jnl.cursor = s.jnl.cursor ∧ (writeClosed body s).jnl.deferred = s.jnl.deferred ∧
      (writeClosed body s).cal = s.cal ∧ (writeClosed body s).itu = s.itu ∧ (writeClosed body s).fresh = s.fresh ∧
      (writeClosed body s).pending = s.pending := by
  simp [writeClosed]

@[simp] theorem amendRecord_frame (seq : Nat) (f : Body → Body) (s : State) :
    (amendRecord seq f s).mtr = s.mtr ∧ (amendRecord seq f s).tpi = s.tpi ∧ (amendRecord seq f s).idu = s.idu ∧
      (amendRecord seq f s).mtb = s.mtb ∧ (amendRecord seq f s).bil = s.bil ∧ (amendRecord seq f s).hsc = s.hsc ∧
      (amendRecord seq f s).stk = s.stk ∧ (amendRecord seq f s).rcp = s.rcp ∧
      (amendRecord seq f s).jnl.cursor = s.jnl.cursor ∧ (amendRecord seq f s).jnl.nextSeq = s.jnl.nextSeq ∧
      (amendRecord seq f s).jnl.deferred = s.jnl.deferred ∧ (amendRecord seq f s).cal = s.cal ∧
      (amendRecord seq f s).itu = s.itu ∧ (amendRecord seq f s).prt = s.prt ∧ (amendRecord seq f s).fresh = s.fresh ∧
      (amendRecord seq f s).pending = s.pending := by
  simp [amendRecord]

@[simp] theorem closeRecord_frame (seq : Nat) (f : Body → Body) (s : State) :
    (closeRecord seq f s).mtr = s.mtr ∧ (closeRecord seq f s).tpi = s.tpi ∧ (closeRecord seq f s).idu = s.idu ∧
      (closeRecord seq f s).mtb = s.mtb ∧ (closeRecord seq f s).bil = s.bil ∧ (closeRecord seq f s).hsc = s.hsc ∧
      (closeRecord seq f s).stk = s.stk ∧ (closeRecord seq f s).rcp = s.rcp ∧
      (closeRecord seq f s).jnl.cursor = s.jnl.cursor ∧ (closeRecord seq f s).jnl.nextSeq = s.jnl.nextSeq ∧
      (closeRecord seq f s).jnl.deferred = s.jnl.deferred ∧ (closeRecord seq f s).cal = s.cal ∧
      (closeRecord seq f s).itu = s.itu ∧ (closeRecord seq f s).prt = s.prt ∧ (closeRecord seq f s).fresh = s.fresh ∧
      (closeRecord seq f s).pending = s.pending := by
  simp [closeRecord]

@[simp] theorem recordFault_frame (src : Source) (kind : FaultKind) (locked : Bool) (volume : Option Nat) (s : State) :
    (recordFault src kind locked volume s).mtr = s.mtr ∧ (recordFault src kind locked volume s).tpi = s.tpi ∧
      (recordFault src kind locked volume s).idu = s.idu ∧ (recordFault src kind locked volume s).mtb = s.mtb ∧
      (recordFault src kind locked volume s).bil = s.bil ∧ (recordFault src kind locked volume s).hsc = s.hsc ∧
      (recordFault src kind locked volume s).stk = s.stk ∧ (recordFault src kind locked volume s).rcp = s.rcp ∧
      (recordFault src kind locked volume s).jnl.cursor = s.jnl.cursor ∧
      (recordFault src kind locked volume s).cal = s.cal ∧ (recordFault src kind locked volume s).itu = s.itu ∧
      (recordFault src kind locked volume s).fresh = s.fresh ∧
      (recordFault src kind locked volume s).pending = s.pending := by
  unfold recordFault; (repeat' split) <;> simp

@[simp] theorem writeDeferred_frame (src : Source) (s : State) :
    (writeDeferred src s).mtr = s.mtr ∧ (writeDeferred src s).tpi = s.tpi ∧ (writeDeferred src s).idu = s.idu ∧
      (writeDeferred src s).mtb = s.mtb ∧ (writeDeferred src s).bil = s.bil ∧ (writeDeferred src s).hsc = s.hsc ∧
      (writeDeferred src s).stk = s.stk ∧ (writeDeferred src s).rcp = s.rcp ∧
      (writeDeferred src s).jnl.cursor = s.jnl.cursor ∧ (writeDeferred src s).cal = s.cal ∧
      (writeDeferred src s).itu = s.itu ∧ (writeDeferred src s).fresh = s.fresh ∧
      (writeDeferred src s).pending = s.pending := by
  unfold writeDeferred; (repeat' split) <;> simp

@[simp] theorem writeAllDeferred_frame (s : State) :
    (writeAllDeferred s).mtr = s.mtr ∧ (writeAllDeferred s).tpi = s.tpi ∧ (writeAllDeferred s).idu = s.idu ∧
      (writeAllDeferred s).mtb = s.mtb ∧ (writeAllDeferred s).bil = s.bil ∧ (writeAllDeferred s).hsc = s.hsc ∧
      (writeAllDeferred s).stk = s.stk ∧ (writeAllDeferred s).rcp = s.rcp ∧
      (writeAllDeferred s).jnl.cursor = s.jnl.cursor ∧ (writeAllDeferred s).cal = s.cal ∧
      (writeAllDeferred s).itu = s.itu ∧ (writeAllDeferred s).fresh = s.fresh ∧
      (writeAllDeferred s).pending = s.pending := by
  simp [writeAllDeferred]

@[simp] theorem recordAdjust_frame (param : ParamId) (subject : Subject) (old : Option Int) (new : Int) (origin : Port) (s : State) :
    (recordAdjust param subject old new origin s).mtr = s.mtr ∧
      (recordAdjust param subject old new origin s).tpi = s.tpi ∧
      (recordAdjust param subject old new origin s).idu = s.idu ∧
      (recordAdjust param subject old new origin s).mtb = s.mtb ∧
      (recordAdjust param subject old new origin s).bil = s.bil ∧
      (recordAdjust param subject old new origin s).hsc = s.hsc ∧
      (recordAdjust param subject old new origin s).stk = s.stk ∧
      (recordAdjust param subject old new origin s).rcp = s.rcp ∧
      (recordAdjust param subject old new origin s).jnl.cursor = s.jnl.cursor ∧
      (recordAdjust param subject old new origin s).jnl.deferred = s.jnl.deferred ∧
      (recordAdjust param subject old new origin s).cal = s.cal ∧
      (recordAdjust param subject old new origin s).itu = s.itu ∧
      (recordAdjust param subject old new origin s).fresh = s.fresh ∧
      (recordAdjust param subject old new origin s).pending = s.pending := by
  simp [recordAdjust]

/-- A change for both hoses keeps what the change for one and the model's counter keep. -/
theorem forHoses_preserves {P : State → Prop} (both : Bool) (f : Hose → State → State)
    (hf : ∀ h s, P s → P (f h s)) (hspend : ∀ s, P s → P (spend s)) (s : State) (h : P s) : P (forHoses both f s) := by
  unfold forHoses
  (repeat' split) <;> first | exact hspend _ (hf _ _ (hf _ _ h)) | exact hf _ _ (hf _ _ h)

/-! ## Time and standby -/

theorem reachTime_mono (d : Nat) (s : State) : (reachTime d s).itu.mono = max s.itu.mono d := by simp [reachTime]

/-- After a wake event the part is awake (R194). -/
@[simp] theorem wake_standby (s : State) : (wake s).itu.standby = false := by
  unfold wake
  split <;> simp_all [startIdle]

/-- A part that is awake takes no wake event (R194). -/
theorem wake_awake (s : State) (h : s.itu.standby = false) : wake s = s := by simp [wake, h]

/-! ## The journal -/

/-- What a new record changes in the journal (R158, R159). -/
theorem takeSlot_jnl (body : Body) (openTime : Nat) (closeTime : Option Nat) (s : State) :
    (takeSlot body openTime closeTime s).jnl =
      { s.jnl with
        ring := s.jnl.ring ++ [{ seq := s.jnl.nextSeq, openTime := openTime, closeTime := closeTime, body := body }]
        nextSeq := nextNumber s.jnl.nextSeq } := by
  simp only [takeSlot, raiseIf]
  split <;> simp [raise, raiseSet, modJnl]

/-- A CLOSED record stands in the ring as it was after another is closed (R162). -/
theorem closeRecord_closed (seq : Nat) (f : Body → Body) (s : State) (r : Record) (hr : r ∈ s.jnl.ring)
    (hc : r.isOpen = false) : r ∈ (closeRecord seq f s).jnl.ring := by
  simp only [closeRecord, modJnl_frame, List.mem_map]
  exact ⟨r, hr, by simp [hc]⟩

/-- Closing a record keeps the numbers in the ring (R158). -/
theorem closeRecord_numbers (seq : Nat) (f : Body → Body) (s : State) :
    (closeRecord seq f s).jnl.ring.map (·.seq) = s.jnl.ring.map (·.seq) := by
  simp only [closeRecord, modJnl_frame, List.map_map]
  refine List.map_congr_left fun r _ => ?_
  simp only [Function.comp]
  split <;> rfl

/-- A fault takes a slot or is held, and raises FAULT (R113, R167). -/
theorem recordFault_jnl (src : Source) (kind : FaultKind) (locked : Bool) (volume : Option Nat) (s : State) :
    (recordFault src kind locked volume s).jnl =
      if 0 < freeSlots s.jnl then
        (writeClosed (.fault { source := src, kind := kind, locked := locked, volume := volume, repeats := none }) s).jnl
      else
        { s.jnl with
          deferred := s.jnl.deferred.set src (some (holdFault s.itu.clock kind locked volume (s.jnl.deferred.get src))) } := by
  unfold recordFault
  split <;> simp

end Sys2Proof.Machine
end

