-- ==== Sys2Proof/Laws/Stores.lean ====
section
/-! SUPPORT. What the operations of Machine/Billing.lean, Machine/Stock.lean and Machine/Tables.lean leave as it was, and what they
do. -/

namespace Sys2Proof.Machine

@[simp] theorem modContractor_frame (index : Nat) (f : Contractor → Contractor) (s : State) :
    (modContractor index f s).mtr = s.mtr ∧ (modContractor index f s).tpi = s.tpi ∧
      (modContractor index f s).idu = s.idu ∧ (modContractor index f s).mtb = s.mtb ∧
      (modContractor index f s).bil.prices = s.bil.prices ∧ (modContractor index f s).hsc = s.hsc ∧
      (modContractor index f s).stk = s.stk ∧ (modContractor index f s).rcp = s.rcp ∧
      (modContractor index f s).jnl = s.jnl ∧ (modContractor index f s).cal = s.cal ∧
      (modContractor index f s).itu = s.itu ∧ (modContractor index f s).prt = s.prt ∧
      (modContractor index f s).fresh = s.fresh ∧ (modContractor index f s).pending = s.pending := by
  simp [modContractor]

@[simp] theorem commitAmount_frame (index amount : Nat) (s : State) :
    (commitAmount index amount s).mtr = s.mtr ∧ (commitAmount index amount s).tpi = s.tpi ∧
      (commitAmount index amount s).idu = s.idu ∧ (commitAmount index amount s).mtb = s.mtb ∧
      (commitAmount index amount s).bil.prices = s.bil.prices ∧ (commitAmount index amount s).hsc = s.hsc ∧
      (commitAmount index amount s).stk = s.stk ∧ (commitAmount index amount s).rcp = s.rcp ∧
      (commitAmount index amount s).jnl = s.jnl ∧ (commitAmount index amount s).cal = s.cal ∧
      (commitAmount index amount s).itu = s.itu ∧ (commitAmount index amount s).prt = s.prt ∧
      (commitAmount index amount s).fresh = s.fresh ∧ (commitAmount index amount s).pending = s.pending := by
  simp [commitAmount]

@[simp] theorem billingClose_frame (index amount committed : Nat) (s : State) :
    (billingClose index amount committed s).mtr = s.mtr ∧ (billingClose index amount committed s).tpi = s.tpi ∧
      (billingClose index amount committed s).idu = s.idu ∧ (billingClose index amount committed s).mtb = s.mtb ∧
      (billingClose index amount committed s).bil.prices = s.bil.prices ∧
      (billingClose index amount committed s).hsc = s.hsc ∧ (billingClose index amount committed s).stk = s.stk ∧
      (billingClose index amount committed s).rcp = s.rcp ∧ (billingClose index amount committed s).jnl = s.jnl ∧
      (billingClose index amount committed s).cal = s.cal ∧ (billingClose index amount committed s).itu = s.itu ∧
      (billingClose index amount committed s).prt = s.prt ∧ (billingClose index amount committed s).fresh = s.fresh ∧
      (billingClose index amount committed s).pending = s.pending := by
  simp [billingClose]

@[simp] theorem modPrice_frame (c : Comp) (f : PriceRecord → PriceRecord) (s : State) :
    (modPrice c f s).mtr = s.mtr ∧ (modPrice c f s).tpi = s.tpi ∧ (modPrice c f s).idu = s.idu ∧
      (modPrice c f s).mtb = s.mtb ∧ (modPrice c f s).bil.contractors = s.bil.contractors ∧
      (modPrice c f s).hsc = s.hsc ∧ (modPrice c f s).stk = s.stk ∧ (modPrice c f s).rcp = s.rcp ∧
      (modPrice c f s).jnl = s.jnl ∧ (modPrice c f s).cal = s.cal ∧ (modPrice c f s).itu = s.itu ∧
      (modPrice c f s).prt = s.prt ∧ (modPrice c f s).fresh = s.fresh ∧ (modPrice c f s).pending = s.pending := by
  simp [modPrice]

@[simp] theorem activatePrice_frame (c : Comp) (s : State) :
    (activatePrice c s).mtr = s.mtr ∧ (activatePrice c s).tpi = s.tpi ∧ (activatePrice c s).idu = s.idu ∧
      (activatePrice c s).mtb = s.mtb ∧ (activatePrice c s).bil.contractors = s.bil.contractors ∧
      (activatePrice c s).hsc = s.hsc ∧ (activatePrice c s).stk = s.stk ∧ (activatePrice c s).rcp = s.rcp ∧
      (activatePrice c s).jnl.cursor = s.jnl.cursor ∧ (activatePrice c s).jnl.deferred = s.jnl.deferred ∧
      (activatePrice c s).cal = s.cal ∧ (activatePrice c s).itu = s.itu ∧ (activatePrice c s).fresh = s.fresh ∧
      (activatePrice c s).pending = s.pending := by
  unfold activatePrice; (repeat' split) <;> simp

@[simp] theorem activatePrices_frame (s : State) :
    (activatePrices s).mtr = s.mtr ∧ (activatePrices s).tpi = s.tpi ∧ (activatePrices s).idu = s.idu ∧
      (activatePrices s).mtb = s.mtb ∧ (activatePrices s).bil.contractors = s.bil.contractors ∧
      (activatePrices s).hsc = s.hsc ∧ (activatePrices s).stk = s.stk ∧ (activatePrices s).rcp = s.rcp ∧
      (activatePrices s).jnl.cursor = s.jnl.cursor ∧ (activatePrices s).jnl.deferred = s.jnl.deferred ∧
      (activatePrices s).cal = s.cal ∧ (activatePrices s).itu = s.itu ∧ (activatePrices s).fresh = s.fresh ∧
      (activatePrices s).pending = s.pending := by
  simp [activatePrices]

@[simp] theorem stockClose_frame (c : Comp) (standard committed : Nat) (proving : Bool) (s : State) :
    (stockClose c standard committed proving s).mtr = s.mtr ∧
      (stockClose c standard committed proving s).tpi = s.tpi ∧
      (stockClose c standard committed proving s).idu = s.idu ∧
      (stockClose c standard committed proving s).mtb = s.mtb ∧
      (stockClose c standard committed proving s).bil = s.bil ∧
      (stockClose c standard committed proving s).hsc = s.hsc ∧
      (stockClose c standard committed proving s).rcp = s.rcp ∧
      (stockClose c standard committed proving s).jnl = s.jnl ∧
      (stockClose c standard committed proving s).cal = s.cal ∧
      (stockClose c standard committed proving s).itu = s.itu ∧
      (stockClose c standard committed proving s).fresh = s.fresh ∧
      (stockClose c standard committed proving s).pending = s.pending := by
  simp only [stockClose]; (repeat' split) <;> simp

/-- A close of zero volume raises nothing and writes the claim and the commitment alone (R131). -/
theorem stockClose_zero (c : Comp) (committed : Nat) (proving : Bool) (s : State) :
    stockClose c 0 committed proving s = modComp c (bookClose 0 committed proving) s := by
  have h : bookOf (compartment s c).book ≤ bookOf (bookClose 0 committed false (compartment s c)).book := by
    simp only [bookClose, bookOf, satAdd]; simp; omega
  cases proving
  · simp [stockClose, noticeDue, raiseIf]; omega
  · rfl

@[simp] theorem stockReceipt_frame (c : Comp) (standard : Nat) (s : State) :
    (stockReceipt c standard s).mtr = s.mtr ∧ (stockReceipt c standard s).tpi = s.tpi ∧
      (stockReceipt c standard s).idu = s.idu ∧ (stockReceipt c standard s).mtb = s.mtb ∧
      (stockReceipt c standard s).bil = s.bil ∧ (stockReceipt c standard s).hsc = s.hsc ∧
      (stockReceipt c standard s).rcp = s.rcp ∧ (stockReceipt c standard s).jnl = s.jnl ∧
      (stockReceipt c standard s).cal = s.cal ∧ (stockReceipt c standard s).itu = s.itu ∧
      (stockReceipt c standard s).prt = s.prt ∧ (stockReceipt c standard s).fresh = s.fresh ∧
      (stockReceipt c standard s).pending = s.pending := by
  simp [stockReceipt]

@[simp] theorem stockLeak_frame (c : Comp) (delta : Int) (s : State) :
    (stockLeak c delta s).mtr = s.mtr ∧ (stockLeak c delta s).tpi = s.tpi ∧ (stockLeak c delta s).idu = s.idu ∧
      (stockLeak c delta s).mtb = s.mtb ∧ (stockLeak c delta s).bil = s.bil ∧ (stockLeak c delta s).hsc = s.hsc ∧
      (stockLeak c delta s).rcp = s.rcp ∧ (stockLeak c delta s).jnl = s.jnl ∧ (stockLeak c delta s).cal = s.cal ∧
      (stockLeak c delta s).itu = s.itu ∧ (stockLeak c delta s).fresh = s.fresh ∧
      (stockLeak c delta s).pending = s.pending := by
  simp [stockLeak]

@[simp] theorem rebase_frame (c : Comp) (base : Nat) (s : State) :
    (rebase c base s).mtr = s.mtr ∧ (rebase c base s).tpi = s.tpi ∧ (rebase c base s).idu = s.idu ∧
      (rebase c base s).mtb = s.mtb ∧ (rebase c base s).bil = s.bil ∧ (rebase c base s).hsc = s.hsc ∧
      (rebase c base s).rcp = s.rcp ∧ (rebase c base s).jnl = s.jnl ∧ (rebase c base s).cal = s.cal ∧
      (rebase c base s).itu = s.itu ∧ (rebase c base s).prt = s.prt ∧ (rebase c base s).fresh = s.fresh ∧
      (rebase c base s).pending = s.pending := by
  simp [rebase]

@[simp] theorem modEntry_frame (number : Nat) (f : MachineEntry → MachineEntry) (s : State) :
    (modEntry number f s).mtr = s.mtr ∧ (modEntry number f s).tpi = s.tpi ∧ (modEntry number f s).idu = s.idu ∧
      (modEntry number f s).mtb.openSite = s.mtb.openSite ∧ (modEntry number f s).mtb.dayStart = s.mtb.dayStart ∧
      (modEntry number f s).mtb.periodDay = s.mtb.periodDay ∧ (modEntry number f s).mtb.rules = s.mtb.rules ∧
      (modEntry number f s).bil = s.bil ∧ (modEntry number f s).hsc = s.hsc ∧ (modEntry number f s).stk = s.stk ∧
      (modEntry number f s).rcp = s.rcp ∧ (modEntry number f s).jnl = s.jnl ∧ (modEntry number f s).cal = s.cal ∧
      (modEntry number f s).itu = s.itu ∧ (modEntry number f s).prt = s.prt ∧ (modEntry number f s).fresh = s.fresh ∧
      (modEntry number f s).pending = s.pending := by
  simp [modEntry]

@[simp] theorem admit_frame (e : MachineEntry) (cls : IdClass) (s : State) :
    (admitEntry e cls s).1.mtr = s.mtr ∧ (admitEntry e cls s).1.tpi = s.tpi ∧ (admitEntry e cls s).1.idu = s.idu ∧
      (admitEntry e cls s).1.mtb.openSite = s.mtb.openSite ∧ (admitEntry e cls s).1.mtb.dayStart = s.mtb.dayStart ∧
      (admitEntry e cls s).1.mtb.periodDay = s.mtb.periodDay ∧ (admitEntry e cls s).1.mtb.rules = s.mtb.rules ∧
      (admitEntry e cls s).1.bil = s.bil ∧ (admitEntry e cls s).1.hsc = s.hsc ∧ (admitEntry e cls s).1.stk = s.stk ∧
      (admitEntry e cls s).1.rcp = s.rcp ∧ (admitEntry e cls s).1.jnl = s.jnl ∧ (admitEntry e cls s).1.cal = s.cal ∧
      (admitEntry e cls s).1.itu = s.itu ∧ (admitEntry e cls s).1.prt = s.prt ∧ (admitEntry e cls s).1.fresh = s.fresh ∧
      (admitEntry e cls s).1.pending = s.pending := by
  unfold admitEntry; (repeat' split) <;> simp

@[simp] theorem classify_frame (number : Nat) (mode : IdMode) (s : State) :
    (classify number mode s).1.mtr = s.mtr ∧ (classify number mode s).1.tpi = s.tpi ∧
      (classify number mode s).1.idu = s.idu ∧ (classify number mode s).1.mtb.openSite = s.mtb.openSite ∧
      (classify number mode s).1.mtb.dayStart = s.mtb.dayStart ∧
      (classify number mode s).1.mtb.periodDay = s.mtb.periodDay ∧
      (classify number mode s).1.mtb.rules = s.mtb.rules ∧ (classify number mode s).1.bil = s.bil ∧
      (classify number mode s).1.hsc = s.hsc ∧ (classify number mode s).1.stk = s.stk ∧
      (classify number mode s).1.rcp = s.rcp ∧ (classify number mode s).1.jnl = s.jnl ∧
      (classify number mode s).1.cal = s.cal ∧ (classify number mode s).1.itu = s.itu ∧
      (classify number mode s).1.prt = s.prt ∧ (classify number mode s).1.fresh = s.fresh ∧
      (classify number mode s).1.pending = s.pending := by
  unfold classify; (repeat' split) <;> simp

@[simp] theorem setMarker_frame (number : Nat) (c : Comp) (h : Hose) (s : State) :
    (setMarker number c h s).mtr = s.mtr ∧ (setMarker number c h s).tpi = s.tpi ∧
      (setMarker number c h s).idu = s.idu ∧ (setMarker number c h s).mtb.openSite = s.mtb.openSite ∧
      (setMarker number c h s).mtb.dayStart = s.mtb.dayStart ∧
      (setMarker number c h s).mtb.periodDay = s.mtb.periodDay ∧ (setMarker number c h s).mtb.rules = s.mtb.rules ∧
      (setMarker number c h s).bil = s.bil ∧ (setMarker number c h s).hsc = s.hsc ∧
      (setMarker number c h s).stk = s.stk ∧ (setMarker number c h s).rcp = s.rcp ∧
      (setMarker number c h s).jnl = s.jnl ∧ (setMarker number c h s).cal = s.cal ∧
      (setMarker number c h s).itu = s.itu ∧ (setMarker number c h s).prt = s.prt ∧
      (setMarker number c h s).fresh = s.fresh ∧ (setMarker number c h s).pending = s.pending := by
  simp [setMarker]

@[simp] theorem watchClose_frame (number time : Nat) (s : State) :
    (watchClose number time s).mtr = s.mtr ∧ (watchClose number time s).tpi = s.tpi ∧
      (watchClose number time s).idu = s.idu ∧ (watchClose number time s).mtb.machines = s.mtb.machines ∧
      (watchClose number time s).mtb.openSite = s.mtb.openSite ∧
      (watchClose number time s).mtb.dayStart = s.mtb.dayStart ∧
      (watchClose number time s).mtb.periodDay = s.mtb.periodDay ∧ (watchClose number time s).bil = s.bil ∧
      (watchClose number time s).hsc = s.hsc ∧ (watchClose number time s).stk = s.stk ∧
      (watchClose number time s).rcp = s.rcp ∧ (watchClose number time s).jnl = s.jnl ∧
      (watchClose number time s).cal = s.cal ∧ (watchClose number time s).itu = s.itu ∧
      (watchClose number time s).fresh = s.fresh ∧ (watchClose number time s).pending = s.pending := by
  simp [watchClose]

@[simp] theorem expireWatch_frame (index : Nat) (s : State) :
    (expireWatch index s).mtr = s.mtr ∧ (expireWatch index s).tpi = s.tpi ∧ (expireWatch index s).idu = s.idu ∧
      (expireWatch index s).mtb.machines = s.mtb.machines ∧ (expireWatch index s).mtb.openSite = s.mtb.openSite ∧
      (expireWatch index s).mtb.dayStart = s.mtb.dayStart ∧ (expireWatch index s).mtb.periodDay = s.mtb.periodDay ∧
      (expireWatch index s).bil = s.bil ∧ (expireWatch index s).hsc = s.hsc ∧ (expireWatch index s).stk = s.stk ∧
      (expireWatch index s).rcp = s.rcp ∧ (expireWatch index s).jnl = s.jnl ∧ (expireWatch index s).cal = s.cal ∧
      (expireWatch index s).itu = s.itu ∧ (expireWatch index s).fresh = s.fresh ∧
      (expireWatch index s).pending = s.pending := by
  unfold expireWatch; (repeat' split) <;> simp

@[simp] theorem expireWatches_frame (s : State) :
    (expireWatches s).mtr = s.mtr ∧ (expireWatches s).tpi = s.tpi ∧ (expireWatches s).idu = s.idu ∧
      (expireWatches s).mtb.machines = s.mtb.machines ∧ (expireWatches s).mtb.openSite = s.mtb.openSite ∧
      (expireWatches s).mtb.dayStart = s.mtb.dayStart ∧ (expireWatches s).mtb.periodDay = s.mtb.periodDay ∧
      (expireWatches s).bil = s.bil ∧ (expireWatches s).hsc = s.hsc ∧ (expireWatches s).stk = s.stk ∧
      (expireWatches s).rcp = s.rcp ∧ (expireWatches s).jnl = s.jnl ∧ (expireWatches s).cal = s.cal ∧
      (expireWatches s).itu = s.itu ∧ (expireWatches s).fresh = s.fresh ∧ (expireWatches s).pending = s.pending := by
  simp [expireWatches, List.range, List.range.loop]

@[simp] theorem dropRemoved_frame (number : Nat) (s : State) :
    (dropRemoved number s).mtr = s.mtr ∧ (dropRemoved number s).tpi = s.tpi ∧ (dropRemoved number s).idu = s.idu ∧
      (dropRemoved number s).mtb.openSite = s.mtb.openSite ∧ (dropRemoved number s).mtb.dayStart = s.mtb.dayStart ∧
      (dropRemoved number s).mtb.periodDay = s.mtb.periodDay ∧ (dropRemoved number s).mtb.rules = s.mtb.rules ∧
      (dropRemoved number s).bil = s.bil ∧ (dropRemoved number s).hsc = s.hsc ∧ (dropRemoved number s).stk = s.stk ∧
      (dropRemoved number s).rcp = s.rcp ∧ (dropRemoved number s).jnl = s.jnl ∧ (dropRemoved number s).cal = s.cal ∧
      (dropRemoved number s).itu = s.itu ∧ (dropRemoved number s).prt = s.prt ∧
      (dropRemoved number s).fresh = s.fresh ∧ (dropRemoved number s).pending = s.pending := by
  unfold dropRemoved; (repeat' split) <;> simp

@[simp] theorem machineClose_frame (number : Nat) (c : Comp) (standard gross : Nat) (hours : Option Nat) (s : State) :
    (machineClose number c standard gross hours s).1.mtr = s.mtr ∧
      (machineClose number c standard gross hours s).1.tpi = s.tpi ∧
      (machineClose number c standard gross hours s).1.idu = s.idu ∧
      (machineClose number c standard gross hours s).1.mtb.openSite = s.mtb.openSite ∧
      (machineClose number c standard gross hours s).1.mtb.dayStart = s.mtb.dayStart ∧
      (machineClose number c standard gross hours s).1.mtb.periodDay = s.mtb.periodDay ∧
      (machineClose number c standard gross hours s).1.bil = s.bil ∧
      (machineClose number c standard gross hours s).1.hsc = s.hsc ∧
      (machineClose number c standard gross hours s).1.stk = s.stk ∧
      (machineClose number c standard gross hours s).1.rcp = s.rcp ∧
      (machineClose number c standard gross hours s).1.jnl = s.jnl ∧
      (machineClose number c standard gross hours s).1.cal = s.cal ∧
      (machineClose number c standard gross hours s).1.itu = s.itu ∧
      (machineClose number c standard gross hours s).1.fresh = s.fresh ∧
      (machineClose number c standard gross hours s).1.pending = s.pending := by
  unfold machineClose; (repeat' split) <;> simp

@[simp] theorem evalRollover_frame (s : State) :
    (evalRollover s).mtr = s.mtr ∧ (evalRollover s).tpi = s.tpi ∧ (evalRollover s).idu = s.idu ∧
      (evalRollover s).mtb.openSite = s.mtb.openSite ∧ (evalRollover s).mtb.dayStart = s.mtb.dayStart ∧
      (evalRollover s).mtb.rules = s.mtb.rules ∧ (evalRollover s).bil = s.bil ∧ (evalRollover s).hsc = s.hsc ∧
      (evalRollover s).stk = s.stk ∧ (evalRollover s).rcp = s.rcp ∧ (evalRollover s).jnl = s.jnl ∧
      (evalRollover s).cal = s.cal ∧ (evalRollover s).itu = s.itu ∧ (evalRollover s).fresh = s.fresh ∧
      (evalRollover s).pending = s.pending := by
  unfold evalRollover; (repeat' split) <;> simp

/-! ## Contractors and prices -/

theorem contractorOf_modContractor (index j : Nat) (f : Contractor → Contractor) (s : State) :
    contractorOf (modContractor index f s) j =
      if j = index ∧ index < s.bil.contractors.length then f (contractorOf s j) else contractorOf s j := by
  simp only [contractorOf, modContractor, modBil_frame, List.getElem?_modify]
  by_cases h : j = index
  · subst h
    by_cases hl : j < s.bil.contractors.length <;> simp [hl]
  · simp [h, Ne.symm h]

theorem priceRecord_modPrice (c k : Comp) (f : PriceRecord → PriceRecord) (s : State) :
    priceRecord (modPrice c f s) k = if k = c then f (priceRecord s c) else priceRecord s k := by
  simp [priceRecord, modPrice]

/-! ## The machine table (R43) -/

theorem length_insertEntry (e : MachineEntry) (l : List MachineEntry) :
    (insertEntry e l).length ≤ l.length + 1 := by
  induction l with
  | nil => simp [insertEntry]
  | cons x rest ih =>
    simp only [insertEntry]
    split
    · simp
    · split <;> simp_all

/-- A number that a rising table holds is replaced in its place. -/
theorem length_insertEntry_lookup (e : MachineEntry) (l : List MachineEntry)
    (hl : l.Pairwise fun a b => a.number < b.number) (h : ∃ x ∈ l, x.number = e.number) :
    (insertEntry e l).length = l.length := by
  induction l with
  | nil => simp at h
  | cons x rest ih =>
    simp only [insertEntry]
    rw [List.pairwise_cons] at hl
    obtain ⟨y, hy, hn⟩ := h
    split
    · rcases List.mem_cons.mp hy with rfl | hy
      · omega
      · have := hl.1 y hy
        omega
    · split
      · simp
      · rcases List.mem_cons.mp hy with rfl | hy
        · omega
        · simp [ih hl.2 ⟨y, hy, hn⟩]

theorem mem_insertEntry (e x : MachineEntry) (l : List MachineEntry) (h : x ∈ insertEntry e l) : x = e ∨ x ∈ l := by
  induction l with
  | nil => simp_all [insertEntry]
  | cons y rest ih =>
    simp only [insertEntry] at h
    split at h
    · simpa using h
    · split at h
      · rcases List.mem_cons.mp h with h | h <;> simp [h]
      · rcases List.mem_cons.mp h with h | h
        · simp [h]
        · rcases ih h with h | h <;> simp [h]

/-- An insertion keeps the order (R43). -/
theorem pairwise_insertEntry (e : MachineEntry) (l : List MachineEntry)
    (hl : l.Pairwise fun a b => a.number < b.number) :
    (insertEntry e l).Pairwise fun a b => a.number < b.number := by
  induction l with
  | nil => simp [insertEntry]
  | cons x rest ih =>
    rw [List.pairwise_cons] at hl
    simp only [insertEntry]
    split
    · rename_i hlt
      refine List.pairwise_cons.mpr ⟨?_, List.pairwise_cons.mpr hl⟩
      intro y hy
      rcases List.mem_cons.mp hy with rfl | hy
      · exact hlt
      · exact hlt.trans (hl.1 y hy)
    · split
      · rename_i heq
        exact List.pairwise_cons.mpr ⟨fun y hy => heq ▸ hl.1 y hy, hl.2⟩
      · refine List.pairwise_cons.mpr ⟨fun y hy => ?_, ih hl.2⟩
        rcases mem_insertEntry e y rest hy with rfl | hy
        · omega
        · exact hl.1 y hy

theorem lookup_none {l : List MachineEntry} {n : Nat} (h : lookup l n = none) : ∀ x ∈ l, x.number ≠ n := by
  simpa [lookup, List.find?_eq_none] using h

theorem lookup_some {l : List MachineEntry} {n : Nat} {e : MachineEntry} (h : lookup l n = some e) :
    e ∈ l ∧ e.number = n := by
  unfold lookup at h
  exact ⟨List.mem_of_find?_eq_some h, by simpa using List.find?_some h⟩

theorem closeEntry_number (c : Comp) (standard gross time : Nat) (hours : Option Nat) (e : MachineEntry) :
    (closeEntry c standard gross time hours e).number = e.number := rfl

/-- A change of entries that keeps their numbers keeps the list of numbers. -/
theorem modEntry_numbers (n : Nat) (f : MachineEntry → MachineEntry) (hf : ∀ e, (f e).number = e.number) (s : State) :
    (modEntry n f s).mtb.machines.map (·.number) = s.mtb.machines.map (·.number) := by
  simp only [modEntry, modMtb_frame, List.map_map]
  refine List.map_congr_left fun e _ => ?_
  simp only [Function.comp]
  split <;> simp [hf]

/-! ## The stock book -/

theorem evalReturn_book (c : Compartment) : (evalReturn c).book = c.book := by
  unfold evalReturn
  split <;> rfl

theorem evalReturn_op (c : Compartment) : (evalReturn c).op = c.op := by
  unfold evalReturn
  split <;> rfl

/-- After a rebase the book is its base (R134). -/
theorem bookOf_rebase (c : Comp) (base : Nat) (s : State) : bookOf (compartment (rebase c base s) c).book = base := by
  simp [rebase, evalReturn_book, bookOf]

/-- A close of a receipt raises the book by its standard volume, up to the bound of a field (R132, Table 7-1). -/
theorem bookOf_stockReceipt (c : Comp) (standard : Nat) (s : State)
    (h : (compartment s c).book.receipts + standard ≤ maxBook) :
    bookOf (compartment (stockReceipt c standard s) c).book = bookOf (compartment s c).book + standard := by
  simp only [stockReceipt, compartment_modComp, if_true, evalReturn_book, bookOf, satAdd, Nat.min_eq_right h]
  omega

end Sys2Proof.Machine
end

