-- ==== Sys2Proof/Laws/Hoses.lean ====
section
/-! SUPPORT. What the operations of Machine/Hoses.lean, Machine/Auth.lean and Machine/Ident.lean leave as it was, and what
they do. -/

namespace Sys2Proof.Machine

@[simp] theorem refreshReader_frame (h : Hose) (s : State) :
    (refreshReader h s).mtr = s.mtr ∧ (refreshReader h s).tpi = s.tpi ∧
      (refreshReader h s).idu.templates = s.idu.templates ∧
      (refreshReader h s).idu.confirmCount = s.idu.confirmCount ∧ (refreshReader h s).mtb = s.mtb ∧
      (refreshReader h s).bil = s.bil ∧ (refreshReader h s).hsc = s.hsc ∧ (refreshReader h s).stk = s.stk ∧
      (refreshReader h s).rcp = s.rcp ∧ (refreshReader h s).jnl = s.jnl ∧ (refreshReader h s).cal = s.cal ∧
      (refreshReader h s).itu = s.itu ∧ (refreshReader h s).prt = s.prt ∧ (refreshReader h s).fresh = s.fresh ∧
      (refreshReader h s).pending = s.pending := by
  unfold refreshReader; (repeat' split) <;> simp

@[simp] theorem saveShadow_frame (powerFail : Bool) (h : Hose) (s : State) :
    (saveShadow powerFail h s).mtr = s.mtr ∧ (saveShadow powerFail h s).tpi = s.tpi ∧
      (saveShadow powerFail h s).idu = s.idu ∧ (saveShadow powerFail h s).mtb = s.mtb ∧
      (saveShadow powerFail h s).bil = s.bil ∧ (saveShadow powerFail h s).hsc.hoses = s.hsc.hoses ∧
      (saveShadow powerFail h s).hsc.faults = s.hsc.faults ∧ (saveShadow powerFail h s).hsc.pumps = s.hsc.pumps ∧
      (saveShadow powerFail h s).hsc.map = s.hsc.map ∧ (saveShadow powerFail h s).hsc.params = s.hsc.params ∧
      (saveShadow powerFail h s).hsc.minDelivery = s.hsc.minDelivery ∧
      (saveShadow powerFail h s).hsc.retries = s.hsc.retries ∧ (saveShadow powerFail h s).stk = s.stk ∧
      (saveShadow powerFail h s).rcp = s.rcp ∧ (saveShadow powerFail h s).jnl = s.jnl ∧
      (saveShadow powerFail h s).cal = s.cal ∧ (saveShadow powerFail h s).itu = s.itu ∧
      (saveShadow powerFail h s).prt = s.prt ∧ (saveShadow powerFail h s).fresh = s.fresh ∧
      (saveShadow powerFail h s).pending = s.pending := by
  unfold saveShadow; (repeat' split) <;> simp

@[simp] theorem touchShadow_frame (h : Hose) (s : State) :
    (touchShadow h s).mtr = s.mtr ∧ (touchShadow h s).tpi = s.tpi ∧ (touchShadow h s).idu = s.idu ∧
      (touchShadow h s).mtb = s.mtb ∧ (touchShadow h s).bil = s.bil ∧ (touchShadow h s).hsc.hoses = s.hsc.hoses ∧
      (touchShadow h s).hsc.faults = s.hsc.faults ∧ (touchShadow h s).hsc.pumps = s.hsc.pumps ∧
      (touchShadow h s).hsc.map = s.hsc.map ∧ (touchShadow h s).hsc.params = s.hsc.params ∧
      (touchShadow h s).hsc.minDelivery = s.hsc.minDelivery ∧ (touchShadow h s).hsc.retries = s.hsc.retries ∧
      (touchShadow h s).stk = s.stk ∧ (touchShadow h s).rcp = s.rcp ∧ (touchShadow h s).jnl = s.jnl ∧
      (touchShadow h s).cal = s.cal ∧ (touchShadow h s).itu = s.itu ∧ (touchShadow h s).prt = s.prt ∧
      (touchShadow h s).fresh = s.fresh ∧ (touchShadow h s).pending = s.pending := by
  unfold touchShadow; (repeat' split) <;> simp

@[simp] theorem enterState_frame (h : Hose) (st : HoseState) (s : State) :
    (enterState h st s).mtr = s.mtr ∧ (enterState h st s).tpi = s.tpi ∧
      (enterState h st s).idu.templates = s.idu.templates ∧
      (enterState h st s).idu.confirmCount = s.idu.confirmCount ∧ (enterState h st s).mtb = s.mtb ∧
      (enterState h st s).bil = s.bil ∧ (enterState h st s).hsc.faults = s.hsc.faults ∧
      (enterState h st s).hsc.pumps = s.hsc.pumps ∧ (enterState h st s).hsc.map = s.hsc.map ∧
      (enterState h st s).hsc.params = s.hsc.params ∧ (enterState h st s).hsc.minDelivery = s.hsc.minDelivery ∧
      (enterState h st s).hsc.retries = s.hsc.retries ∧ (enterState h st s).stk = s.stk ∧
      (enterState h st s).rcp = s.rcp ∧ (enterState h st s).jnl = s.jnl ∧ (enterState h st s).cal = s.cal ∧
      (enterState h st s).itu = s.itu ∧ (enterState h st s).fresh = s.fresh ∧
      (enterState h st s).pending = s.pending := by
  simp [enterState]

@[simp] theorem startTimer_frame (h : Hose) (ms : Nat) (s : State) :
    (startTimer h ms s).mtr = s.mtr ∧ (startTimer h ms s).tpi = s.tpi ∧ (startTimer h ms s).idu = s.idu ∧
      (startTimer h ms s).mtb = s.mtb ∧ (startTimer h ms s).bil = s.bil ∧
      (startTimer h ms s).hsc.faults = s.hsc.faults ∧ (startTimer h ms s).hsc.shadows = s.hsc.shadows ∧
      (startTimer h ms s).hsc.pumps = s.hsc.pumps ∧ (startTimer h ms s).hsc.map = s.hsc.map ∧
      (startTimer h ms s).hsc.params = s.hsc.params ∧ (startTimer h ms s).hsc.minDelivery = s.hsc.minDelivery ∧
      (startTimer h ms s).hsc.retries = s.hsc.retries ∧ (startTimer h ms s).stk = s.stk ∧
      (startTimer h ms s).rcp = s.rcp ∧ (startTimer h ms s).jnl = s.jnl ∧ (startTimer h ms s).cal = s.cal ∧
      (startTimer h ms s).itu = s.itu ∧ (startTimer h ms s).prt = s.prt ∧ (startTimer h ms s).fresh = s.fresh ∧
      (startTimer h ms s).pending = s.pending := by
  simp [startTimer]

@[simp] theorem stopTimer_frame (h : Hose) (s : State) :
    (stopTimer h s).mtr = s.mtr ∧ (stopTimer h s).tpi = s.tpi ∧ (stopTimer h s).idu = s.idu ∧
      (stopTimer h s).mtb = s.mtb ∧ (stopTimer h s).bil = s.bil ∧ (stopTimer h s).hsc.faults = s.hsc.faults ∧
      (stopTimer h s).hsc.shadows = s.hsc.shadows ∧ (stopTimer h s).hsc.pumps = s.hsc.pumps ∧
      (stopTimer h s).hsc.map = s.hsc.map ∧ (stopTimer h s).hsc.params = s.hsc.params ∧
      (stopTimer h s).hsc.minDelivery = s.hsc.minDelivery ∧ (stopTimer h s).hsc.retries = s.hsc.retries ∧
      (stopTimer h s).stk = s.stk ∧ (stopTimer h s).rcp = s.rcp ∧ (stopTimer h s).jnl = s.jnl ∧
      (stopTimer h s).cal = s.cal ∧ (stopTimer h s).itu = s.itu ∧ (stopTimer h s).prt = s.prt ∧
      (stopTimer h s).fresh = s.fresh ∧ (stopTimer h s).pending = s.pending := by
  simp [stopTimer]

@[simp] theorem returnIdle_frame (h : Hose) (s : State) :
    (returnIdle h s).mtr = s.mtr ∧ (returnIdle h s).tpi = s.tpi ∧ (returnIdle h s).idu.templates = s.idu.templates ∧
      (returnIdle h s).idu.confirmCount = s.idu.confirmCount ∧ (returnIdle h s).mtb = s.mtb ∧
      (returnIdle h s).bil = s.bil ∧ (returnIdle h s).hsc.faults = s.hsc.faults ∧
      (returnIdle h s).hsc.pumps = s.hsc.pumps ∧ (returnIdle h s).hsc.map = s.hsc.map ∧
      (returnIdle h s).hsc.params = s.hsc.params ∧ (returnIdle h s).hsc.minDelivery = s.hsc.minDelivery ∧
      (returnIdle h s).hsc.retries = s.hsc.retries ∧ (returnIdle h s).stk = s.stk ∧ (returnIdle h s).rcp = s.rcp ∧
      (returnIdle h s).jnl = s.jnl ∧ (returnIdle h s).cal = s.cal ∧ (returnIdle h s).itu = s.itu ∧
      (returnIdle h s).fresh = s.fresh ∧ (returnIdle h s).pending = s.pending := by
  simp [returnIdle]

@[simp] theorem enterReady_frame (h : Hose) (s : State) :
    (enterReady h s).mtr = s.mtr ∧ (enterReady h s).tpi = s.tpi ∧ (enterReady h s).idu.templates = s.idu.templates ∧
      (enterReady h s).idu.confirmCount = s.idu.confirmCount ∧ (enterReady h s).mtb = s.mtb ∧
      (enterReady h s).bil = s.bil ∧ (enterReady h s).hsc.faults = s.hsc.faults ∧
      (enterReady h s).hsc.pumps = s.hsc.pumps ∧ (enterReady h s).hsc.map = s.hsc.map ∧
      (enterReady h s).hsc.params = s.hsc.params ∧ (enterReady h s).hsc.minDelivery = s.hsc.minDelivery ∧
      (enterReady h s).hsc.retries = s.hsc.retries ∧ (enterReady h s).stk = s.stk ∧ (enterReady h s).rcp = s.rcp ∧
      (enterReady h s).jnl = s.jnl ∧ (enterReady h s).cal = s.cal ∧ (enterReady h s).itu = s.itu ∧
      (enterReady h s).fresh = s.fresh ∧ (enterReady h s).pending = s.pending := by
  simp [enterReady]

@[simp] theorem removeCause_frame (f : Causes → Causes) (h : Hose) (s : State) :
    (removeCause f h s).mtr = s.mtr ∧ (removeCause f h s).tpi = s.tpi ∧
      (removeCause f h s).idu.templates = s.idu.templates ∧
      (removeCause f h s).idu.confirmCount = s.idu.confirmCount ∧ (removeCause f h s).mtb = s.mtb ∧
      (removeCause f h s).bil = s.bil ∧ (removeCause f h s).hsc.faults = s.hsc.faults ∧
      (removeCause f h s).hsc.pumps = s.hsc.pumps ∧ (removeCause f h s).hsc.map = s.hsc.map ∧
      (removeCause f h s).hsc.params = s.hsc.params ∧ (removeCause f h s).hsc.minDelivery = s.hsc.minDelivery ∧
      (removeCause f h s).hsc.retries = s.hsc.retries ∧ (removeCause f h s).stk = s.stk ∧
      (removeCause f h s).rcp = s.rcp ∧ (removeCause f h s).jnl = s.jnl ∧ (removeCause f h s).cal = s.cal ∧
      (removeCause f h s).itu = s.itu ∧ (removeCause f h s).fresh = s.fresh ∧
      (removeCause f h s).pending = s.pending := by
  simp only [removeCause]; (repeat' split) <;> simp

@[simp] theorem addCause_frame (f : Causes → Causes) (h : Hose) (s : State) :
    (addCause f h s).mtr = s.mtr ∧ (addCause f h s).tpi = s.tpi ∧ (addCause f h s).idu.templates = s.idu.templates ∧
      (addCause f h s).idu.confirmCount = s.idu.confirmCount ∧ (addCause f h s).mtb = s.mtb ∧
      (addCause f h s).bil = s.bil ∧ (addCause f h s).hsc.faults = s.hsc.faults ∧
      (addCause f h s).hsc.pumps = s.hsc.pumps ∧ (addCause f h s).hsc.map = s.hsc.map ∧
      (addCause f h s).hsc.params = s.hsc.params ∧ (addCause f h s).hsc.minDelivery = s.hsc.minDelivery ∧
      (addCause f h s).hsc.retries = s.hsc.retries ∧ (addCause f h s).stk = s.stk ∧ (addCause f h s).rcp = s.rcp ∧
      (addCause f h s).jnl = s.jnl ∧ (addCause f h s).cal = s.cal ∧ (addCause f h s).itu = s.itu ∧
      (addCause f h s).fresh = s.fresh ∧ (addCause f h s).pending = s.pending := by
  unfold addCause; (repeat' split) <;> simp

@[simp] theorem confirmHose_frame (c : Comp) (h : Hose) (s : State) :
    (confirmHose c h s).mtr = s.mtr ∧ (confirmHose c h s).tpi = s.tpi ∧
      (confirmHose c h s).idu.templates = s.idu.templates ∧
      (confirmHose c h s).idu.confirmCount = s.idu.confirmCount ∧ (confirmHose c h s).mtb = s.mtb ∧
      (confirmHose c h s).bil = s.bil ∧ (confirmHose c h s).hsc.faults = s.hsc.faults ∧
      (confirmHose c h s).hsc.pumps = s.hsc.pumps ∧ (confirmHose c h s).hsc.map = s.hsc.map ∧
      (confirmHose c h s).hsc.params = s.hsc.params ∧ (confirmHose c h s).hsc.minDelivery = s.hsc.minDelivery ∧
      (confirmHose c h s).hsc.retries = s.hsc.retries ∧ (confirmHose c h s).stk = s.stk ∧
      (confirmHose c h s).rcp = s.rcp ∧ (confirmHose c h s).jnl = s.jnl ∧ (confirmHose c h s).cal = s.cal ∧
      (confirmHose c h s).itu = s.itu ∧ (confirmHose c h s).fresh = s.fresh ∧
      (confirmHose c h s).pending = s.pending := by
  unfold confirmHose; (repeat' split) <;> simp

@[simp] theorem pumpRuns_frame (c : Comp) (s : State) :
    (pumpRuns c s).mtr = s.mtr ∧ (pumpRuns c s).tpi = s.tpi ∧ (pumpRuns c s).idu.templates = s.idu.templates ∧
      (pumpRuns c s).idu.confirmCount = s.idu.confirmCount ∧ (pumpRuns c s).mtb = s.mtb ∧
      (pumpRuns c s).bil = s.bil ∧ (pumpRuns c s).hsc.faults = s.hsc.faults ∧ (pumpRuns c s).hsc.map = s.hsc.map ∧
      (pumpRuns c s).hsc.params = s.hsc.params ∧ (pumpRuns c s).hsc.minDelivery = s.hsc.minDelivery ∧
      (pumpRuns c s).hsc.retries = s.hsc.retries ∧ (pumpRuns c s).stk = s.stk ∧ (pumpRuns c s).rcp = s.rcp ∧
      (pumpRuns c s).jnl = s.jnl ∧ (pumpRuns c s).cal = s.cal ∧ (pumpRuns c s).itu = s.itu ∧
      (pumpRuns c s).fresh = s.fresh ∧ (pumpRuns c s).pending = s.pending := by
  simp [pumpRuns]

@[simp] theorem startPump_frame (c : Comp) (s : State) :
    (startPump c s).mtr = s.mtr ∧ (startPump c s).tpi = s.tpi ∧ (startPump c s).idu.templates = s.idu.templates ∧
      (startPump c s).idu.confirmCount = s.idu.confirmCount ∧ (startPump c s).mtb = s.mtb ∧
      (startPump c s).bil = s.bil ∧ (startPump c s).hsc.faults = s.hsc.faults ∧ (startPump c s).hsc.map = s.hsc.map ∧
      (startPump c s).hsc.params = s.hsc.params ∧ (startPump c s).hsc.minDelivery = s.hsc.minDelivery ∧
      (startPump c s).hsc.retries = s.hsc.retries ∧ (startPump c s).stk = s.stk ∧ (startPump c s).rcp = s.rcp ∧
      (startPump c s).jnl = s.jnl ∧ (startPump c s).cal = s.cal ∧ (startPump c s).itu = s.itu ∧
      (startPump c s).fresh = s.fresh ∧ (startPump c s).pending = s.pending := by
  simp only [startPump]; (repeat' split) <;> simp

@[simp] theorem joinDemand_frame (c : Comp) (h : Hose) (s : State) :
    (joinDemand c h s).mtr = s.mtr ∧ (joinDemand c h s).tpi = s.tpi ∧
      (joinDemand c h s).idu.templates = s.idu.templates ∧ (joinDemand c h s).idu.confirmCount = s.idu.confirmCount ∧
      (joinDemand c h s).mtb = s.mtb ∧ (joinDemand c h s).bil = s.bil ∧
      (joinDemand c h s).hsc.faults = s.hsc.faults ∧ (joinDemand c h s).hsc.map = s.hsc.map ∧
      (joinDemand c h s).hsc.params = s.hsc.params ∧ (joinDemand c h s).hsc.minDelivery = s.hsc.minDelivery ∧
      (joinDemand c h s).hsc.retries = s.hsc.retries ∧ (joinDemand c h s).stk = s.stk ∧
      (joinDemand c h s).rcp = s.rcp ∧ (joinDemand c h s).jnl = s.jnl ∧ (joinDemand c h s).cal = s.cal ∧
      (joinDemand c h s).itu = s.itu ∧ (joinDemand c h s).fresh = s.fresh ∧
      (joinDemand c h s).pending = s.pending := by
  simp only [joinDemand]; (repeat' split) <;> simp

@[simp] theorem leaveDemand_frame (c : Comp) (h : Hose) (s : State) :
    (leaveDemand c h s).mtr = s.mtr ∧ (leaveDemand c h s).tpi = s.tpi ∧ (leaveDemand c h s).idu = s.idu ∧
      (leaveDemand c h s).mtb = s.mtb ∧ (leaveDemand c h s).bil = s.bil ∧
      (leaveDemand c h s).hsc.hoses = s.hsc.hoses ∧ (leaveDemand c h s).hsc.faults = s.hsc.faults ∧
      (leaveDemand c h s).hsc.shadows = s.hsc.shadows ∧ (leaveDemand c h s).hsc.map = s.hsc.map ∧
      (leaveDemand c h s).hsc.params = s.hsc.params ∧ (leaveDemand c h s).hsc.minDelivery = s.hsc.minDelivery ∧
      (leaveDemand c h s).hsc.retries = s.hsc.retries ∧ (leaveDemand c h s).stk = s.stk ∧
      (leaveDemand c h s).rcp = s.rcp ∧ (leaveDemand c h s).jnl = s.jnl ∧ (leaveDemand c h s).cal = s.cal ∧
      (leaveDemand c h s).itu = s.itu ∧ (leaveDemand c h s).prt = s.prt ∧ (leaveDemand c h s).fresh = s.fresh ∧
      (leaveDemand c h s).pending = s.pending := by
  simp [leaveDemand]

@[simp] theorem enterEnding_frame (o : DispenseOutcome) (h : Hose) (s : State) :
    (enterEnding o h s).mtr = s.mtr ∧ (enterEnding o h s).tpi = s.tpi ∧
      (enterEnding o h s).idu.templates = s.idu.templates ∧
      (enterEnding o h s).idu.confirmCount = s.idu.confirmCount ∧ (enterEnding o h s).mtb = s.mtb ∧
      (enterEnding o h s).bil = s.bil ∧ (enterEnding o h s).hsc.faults = s.hsc.faults ∧
      (enterEnding o h s).hsc.map = s.hsc.map ∧ (enterEnding o h s).hsc.params = s.hsc.params ∧
      (enterEnding o h s).hsc.minDelivery = s.hsc.minDelivery ∧ (enterEnding o h s).hsc.retries = s.hsc.retries ∧
      (enterEnding o h s).stk = s.stk ∧ (enterEnding o h s).rcp = s.rcp ∧ (enterEnding o h s).jnl = s.jnl ∧
      (enterEnding o h s).cal = s.cal ∧ (enterEnding o h s).itu = s.itu ∧ (enterEnding o h s).fresh = s.fresh ∧
      (enterEnding o h s).pending = s.pending := by
  unfold enterEnding; (repeat' split) <;> simp

@[simp] theorem endIf_frame (o : DispenseOutcome) (h : Hose) (s : State) :
    (endIf o h s).mtr = s.mtr ∧ (endIf o h s).tpi = s.tpi ∧ (endIf o h s).idu.templates = s.idu.templates ∧
      (endIf o h s).idu.confirmCount = s.idu.confirmCount ∧ (endIf o h s).mtb = s.mtb ∧ (endIf o h s).bil = s.bil ∧
      (endIf o h s).hsc.faults = s.hsc.faults ∧ (endIf o h s).hsc.map = s.hsc.map ∧
      (endIf o h s).hsc.params = s.hsc.params ∧ (endIf o h s).hsc.minDelivery = s.hsc.minDelivery ∧
      (endIf o h s).hsc.retries = s.hsc.retries ∧ (endIf o h s).stk = s.stk ∧ (endIf o h s).rcp = s.rcp ∧
      (endIf o h s).jnl = s.jnl ∧ (endIf o h s).cal = s.cal ∧ (endIf o h s).itu = s.itu ∧
      (endIf o h s).fresh = s.fresh ∧ (endIf o h s).pending = s.pending := by
  unfold endIf; (repeat' split) <;> simp

@[simp] theorem bookDispense_frame (k : Closing) (s : State) :
    (bookDispense k s).mtr = s.mtr ∧ (bookDispense k s).tpi = s.tpi ∧ (bookDispense k s).idu = s.idu ∧
      (bookDispense k s).mtb.openSite = s.mtb.openSite ∧ (bookDispense k s).mtb.dayStart = s.mtb.dayStart ∧
      (bookDispense k s).mtb.periodDay = s.mtb.periodDay ∧ (bookDispense k s).bil.prices = s.bil.prices ∧
      (bookDispense k s).hsc = s.hsc ∧ (bookDispense k s).rcp = s.rcp ∧
      (bookDispense k s).jnl.cursor = s.jnl.cursor ∧ (bookDispense k s).jnl.nextSeq = s.jnl.nextSeq ∧
      (bookDispense k s).jnl.deferred = s.jnl.deferred ∧ (bookDispense k s).cal = s.cal ∧
      (bookDispense k s).itu = s.itu ∧ (bookDispense k s).pending = s.pending := by
  simp only [bookDispense]; (repeat' split) <;> simp

@[simp] theorem closeDispense_frame (h : Hose) (s : State) :
    (closeDispense h s).mtr.inletComp = s.mtr.inletComp ∧ (closeDispense h s).tpi = s.tpi ∧
      (closeDispense h s).idu.templates = s.idu.templates ∧
      (closeDispense h s).idu.confirmCount = s.idu.confirmCount ∧ (closeDispense h s).mtb.openSite = s.mtb.openSite ∧
      (closeDispense h s).mtb.dayStart = s.mtb.dayStart ∧ (closeDispense h s).mtb.periodDay = s.mtb.periodDay ∧
      (closeDispense h s).bil.prices = s.bil.prices ∧ (closeDispense h s).hsc.faults = s.hsc.faults ∧
      (closeDispense h s).hsc.pumps = s.hsc.pumps ∧ (closeDispense h s).hsc.map = s.hsc.map ∧
      (closeDispense h s).hsc.params = s.hsc.params ∧ (closeDispense h s).hsc.minDelivery = s.hsc.minDelivery ∧
      (closeDispense h s).hsc.retries = s.hsc.retries ∧ (closeDispense h s).rcp = s.rcp ∧
      (closeDispense h s).jnl.cursor = s.jnl.cursor ∧ (closeDispense h s).jnl.nextSeq = s.jnl.nextSeq ∧
      (closeDispense h s).jnl.deferred = s.jnl.deferred ∧ (closeDispense h s).cal.on = s.cal.on ∧
      (closeDispense h s).itu = s.itu ∧ (closeDispense h s).pending = s.pending := by
  simp only [closeDispense]; (repeat' split) <;> simp

@[simp] theorem setHoseFault_frame (h : Hose) (kind : FaultKind) (locked : Bool) (volume : Option Nat) (s : State) :
    (setHoseFault h kind locked volume s).mtr = s.mtr ∧ (setHoseFault h kind locked volume s).tpi = s.tpi ∧
      (setHoseFault h kind locked volume s).idu = s.idu ∧ (setHoseFault h kind locked volume s).mtb = s.mtb ∧
      (setHoseFault h kind locked volume s).bil = s.bil ∧
      (setHoseFault h kind locked volume s).hsc.hoses = s.hsc.hoses ∧
      (setHoseFault h kind locked volume s).hsc.shadows = s.hsc.shadows ∧
      (setHoseFault h kind locked volume s).hsc.pumps = s.hsc.pumps ∧
      (setHoseFault h kind locked volume s).hsc.map = s.hsc.map ∧
      (setHoseFault h kind locked volume s).hsc.params = s.hsc.params ∧
      (setHoseFault h kind locked volume s).hsc.minDelivery = s.hsc.minDelivery ∧
      (setHoseFault h kind locked volume s).hsc.retries = s.hsc.retries ∧
      (setHoseFault h kind locked volume s).stk = s.stk ∧ (setHoseFault h kind locked volume s).rcp = s.rcp ∧
      (setHoseFault h kind locked volume s).jnl.cursor = s.jnl.cursor ∧
      (setHoseFault h kind locked volume s).cal = s.cal ∧ (setHoseFault h kind locked volume s).itu = s.itu ∧
      (setHoseFault h kind locked volume s).fresh = s.fresh ∧
      (setHoseFault h kind locked volume s).pending = s.pending := by
  simp [setHoseFault]

@[simp] theorem hoseFault_frame (h : Hose) (kind : FaultKind) (volume : Option Nat) (s : State) :
    (hoseFault h kind volume s).mtr.inletComp = s.mtr.inletComp ∧ (hoseFault h kind volume s).tpi = s.tpi ∧
      (hoseFault h kind volume s).idu.templates = s.idu.templates ∧
      (hoseFault h kind volume s).idu.confirmCount = s.idu.confirmCount ∧
      (hoseFault h kind volume s).mtb.openSite = s.mtb.openSite ∧
      (hoseFault h kind volume s).mtb.dayStart = s.mtb.dayStart ∧
      (hoseFault h kind volume s).mtb.periodDay = s.mtb.periodDay ∧
      (hoseFault h kind volume s).bil.prices = s.bil.prices ∧ (hoseFault h kind volume s).hsc.map = s.hsc.map ∧
      (hoseFault h kind volume s).hsc.params = s.hsc.params ∧
      (hoseFault h kind volume s).hsc.minDelivery = s.hsc.minDelivery ∧
      (hoseFault h kind volume s).hsc.retries = s.hsc.retries ∧ (hoseFault h kind volume s).rcp = s.rcp ∧
      (hoseFault h kind volume s).jnl.cursor = s.jnl.cursor ∧ (hoseFault h kind volume s).cal.on = s.cal.on ∧
      (hoseFault h kind volume s).itu = s.itu ∧ (hoseFault h kind volume s).pending = s.pending := by
  unfold hoseFault; (repeat' split) <;> simp

@[simp] theorem hoseChannel_frame (h : Hose) (s : State) :
    (hoseChannel h s).mtr.inletComp = s.mtr.inletComp ∧ (hoseChannel h s).tpi = s.tpi ∧
      (hoseChannel h s).idu.templates = s.idu.templates ∧ (hoseChannel h s).idu.confirmCount = s.idu.confirmCount ∧
      (hoseChannel h s).mtb.openSite = s.mtb.openSite ∧ (hoseChannel h s).mtb.dayStart = s.mtb.dayStart ∧
      (hoseChannel h s).mtb.periodDay = s.mtb.periodDay ∧ (hoseChannel h s).bil.prices = s.bil.prices ∧
      (hoseChannel h s).hsc.map = s.hsc.map ∧ (hoseChannel h s).hsc.params = s.hsc.params ∧
      (hoseChannel h s).hsc.minDelivery = s.hsc.minDelivery ∧ (hoseChannel h s).hsc.retries = s.hsc.retries ∧
      (hoseChannel h s).rcp = s.rcp ∧ (hoseChannel h s).jnl.cursor = s.jnl.cursor ∧
      (hoseChannel h s).cal.on = s.cal.on ∧ (hoseChannel h s).itu = s.itu ∧
      (hoseChannel h s).pending = s.pending := by
  unfold hoseChannel; (repeat' split) <;> simp

@[simp] theorem hoseLeak_frame (h : Hose) (volume : Nat) (s : State) :
    (hoseLeak h volume s).mtr.inletComp = s.mtr.inletComp ∧ (hoseLeak h volume s).tpi = s.tpi ∧
      (hoseLeak h volume s).idu.templates = s.idu.templates ∧
      (hoseLeak h volume s).idu.confirmCount = s.idu.confirmCount ∧
      (hoseLeak h volume s).mtb.openSite = s.mtb.openSite ∧ (hoseLeak h volume s).mtb.dayStart = s.mtb.dayStart ∧
      (hoseLeak h volume s).mtb.periodDay = s.mtb.periodDay ∧ (hoseLeak h volume s).bil.prices = s.bil.prices ∧
      (hoseLeak h volume s).hsc.map = s.hsc.map ∧ (hoseLeak h volume s).hsc.params = s.hsc.params ∧
      (hoseLeak h volume s).hsc.minDelivery = s.hsc.minDelivery ∧ (hoseLeak h volume s).hsc.retries = s.hsc.retries ∧
      (hoseLeak h volume s).rcp = s.rcp ∧ (hoseLeak h volume s).jnl.cursor = s.jnl.cursor ∧
      (hoseLeak h volume s).cal.on = s.cal.on ∧ (hoseLeak h volume s).itu = s.itu ∧
      (hoseLeak h volume s).pending = s.pending := by
  unfold hoseLeak; (repeat' split) <;> simp

@[simp] theorem attemptExpires_frame (c : Comp) (s : State) :
    (attemptExpires c s).mtr.inletComp = s.mtr.inletComp ∧ (attemptExpires c s).tpi = s.tpi ∧
      (attemptExpires c s).idu.templates = s.idu.templates ∧
      (attemptExpires c s).idu.confirmCount = s.idu.confirmCount ∧
      (attemptExpires c s).mtb.openSite = s.mtb.openSite ∧ (attemptExpires c s).mtb.dayStart = s.mtb.dayStart ∧
      (attemptExpires c s).mtb.periodDay = s.mtb.periodDay ∧ (attemptExpires c s).bil.prices = s.bil.prices ∧
      (attemptExpires c s).hsc.map = s.hsc.map ∧ (attemptExpires c s).hsc.params = s.hsc.params ∧
      (attemptExpires c s).hsc.minDelivery = s.hsc.minDelivery ∧ (attemptExpires c s).hsc.retries = s.hsc.retries ∧
      (attemptExpires c s).rcp = s.rcp ∧ (attemptExpires c s).jnl.cursor = s.jnl.cursor ∧
      (attemptExpires c s).cal.on = s.cal.on ∧ (attemptExpires c s).itu.inputs = s.itu.inputs ∧
      (attemptExpires c s).itu.latch = s.itu.latch ∧ (attemptExpires c s).itu.clock = s.itu.clock ∧
      (attemptExpires c s).itu.clockValid = s.itu.clockValid ∧
      (attemptExpires c s).itu.idleInterval = s.itu.idleInterval ∧
      (attemptExpires c s).itu.idleSources = s.itu.idleSources ∧
      (attemptExpires c s).itu.lines = s.itu.lines ∧
      (attemptExpires c s).itu.idleDeadline = s.itu.idleDeadline ∧ (attemptExpires c s).itu.standby = s.itu.standby ∧
      (attemptExpires c s).pending = s.pending := by
  unfold attemptExpires
  split
  · simp
  · simp only [forHoses]
    (repeat' split) <;> simp
  · simp

@[simp] theorem lostRunHose_frame (c : Comp) (h : Hose) (s : State) :
    (lostRunHose c h s).mtr = s.mtr ∧ (lostRunHose c h s).tpi = s.tpi ∧
      (lostRunHose c h s).idu.templates = s.idu.templates ∧
      (lostRunHose c h s).idu.confirmCount = s.idu.confirmCount ∧ (lostRunHose c h s).mtb = s.mtb ∧
      (lostRunHose c h s).bil = s.bil ∧ (lostRunHose c h s).hsc.faults = s.hsc.faults ∧
      (lostRunHose c h s).hsc.pumps = s.hsc.pumps ∧ (lostRunHose c h s).hsc.map = s.hsc.map ∧
      (lostRunHose c h s).hsc.params = s.hsc.params ∧ (lostRunHose c h s).hsc.minDelivery = s.hsc.minDelivery ∧
      (lostRunHose c h s).hsc.retries = s.hsc.retries ∧ (lostRunHose c h s).stk = s.stk ∧
      (lostRunHose c h s).rcp = s.rcp ∧ (lostRunHose c h s).jnl = s.jnl ∧ (lostRunHose c h s).cal = s.cal ∧
      (lostRunHose c h s).itu = s.itu ∧ (lostRunHose c h s).fresh = s.fresh ∧
      (lostRunHose c h s).pending = s.pending := by
  unfold lostRunHose; (repeat' split) <;> simp

@[simp] theorem runConfirmed_frame (c : Comp) (s : State) :
    (runConfirmed c s).mtr = s.mtr ∧ (runConfirmed c s).tpi = s.tpi ∧
      (runConfirmed c s).idu.templates = s.idu.templates ∧ (runConfirmed c s).idu.confirmCount = s.idu.confirmCount ∧
      (runConfirmed c s).mtb = s.mtb ∧ (runConfirmed c s).bil = s.bil ∧
      (runConfirmed c s).hsc.faults = s.hsc.faults ∧ (runConfirmed c s).hsc.map = s.hsc.map ∧
      (runConfirmed c s).hsc.params = s.hsc.params ∧ (runConfirmed c s).hsc.minDelivery = s.hsc.minDelivery ∧
      (runConfirmed c s).hsc.retries = s.hsc.retries ∧ (runConfirmed c s).stk = s.stk ∧
      (runConfirmed c s).rcp = s.rcp ∧ (runConfirmed c s).jnl = s.jnl ∧ (runConfirmed c s).cal = s.cal ∧
      (runConfirmed c s).itu = s.itu ∧ (runConfirmed c s).fresh = s.fresh ∧
      (runConfirmed c s).pending = s.pending := by
  unfold runConfirmed; (repeat' split) <;> simp

@[simp] theorem runLost_frame (c : Comp) (s : State) :
    (runLost c s).mtr = s.mtr ∧ (runLost c s).tpi = s.tpi ∧ (runLost c s).idu.templates = s.idu.templates ∧
      (runLost c s).idu.confirmCount = s.idu.confirmCount ∧ (runLost c s).mtb = s.mtb ∧ (runLost c s).bil = s.bil ∧
      (runLost c s).hsc.faults = s.hsc.faults ∧ (runLost c s).hsc.map = s.hsc.map ∧
      (runLost c s).hsc.params = s.hsc.params ∧ (runLost c s).hsc.minDelivery = s.hsc.minDelivery ∧
      (runLost c s).hsc.retries = s.hsc.retries ∧ (runLost c s).stk = s.stk ∧ (runLost c s).rcp = s.rcp ∧
      (runLost c s).jnl = s.jnl ∧ (runLost c s).cal = s.cal ∧ (runLost c s).itu = s.itu ∧
      (runLost c s).fresh = s.fresh ∧ (runLost c s).pending = s.pending := by
  unfold runLost; (repeat' split) <;> simp

@[simp] theorem shadowHundred_frame (h : Hose) (pulses : Nat) (s : State) :
    (shadowHundred h pulses s).mtr = s.mtr ∧ (shadowHundred h pulses s).tpi = s.tpi ∧
      (shadowHundred h pulses s).idu = s.idu ∧ (shadowHundred h pulses s).mtb = s.mtb ∧
      (shadowHundred h pulses s).bil = s.bil ∧ (shadowHundred h pulses s).hsc.hoses = s.hsc.hoses ∧
      (shadowHundred h pulses s).hsc.faults = s.hsc.faults ∧ (shadowHundred h pulses s).hsc.pumps = s.hsc.pumps ∧
      (shadowHundred h pulses s).hsc.map = s.hsc.map ∧ (shadowHundred h pulses s).hsc.params = s.hsc.params ∧
      (shadowHundred h pulses s).hsc.minDelivery = s.hsc.minDelivery ∧
      (shadowHundred h pulses s).hsc.retries = s.hsc.retries ∧ (shadowHundred h pulses s).stk = s.stk ∧
      (shadowHundred h pulses s).rcp = s.rcp ∧ (shadowHundred h pulses s).jnl = s.jnl ∧
      (shadowHundred h pulses s).cal = s.cal ∧ (shadowHundred h pulses s).itu = s.itu ∧
      (shadowHundred h pulses s).prt = s.prt ∧ (shadowHundred h pulses s).fresh = s.fresh ∧
      (shadowHundred h pulses s).pending = s.pending := by
  unfold shadowHundred; (repeat' split) <;> simp

@[simp] theorem overrunTest_frame (h : Hose) (s : State) :
    (overrunTest h s).mtr.inletComp = s.mtr.inletComp ∧ (overrunTest h s).tpi = s.tpi ∧
      (overrunTest h s).idu.templates = s.idu.templates ∧ (overrunTest h s).idu.confirmCount = s.idu.confirmCount ∧
      (overrunTest h s).mtb.openSite = s.mtb.openSite ∧ (overrunTest h s).mtb.dayStart = s.mtb.dayStart ∧
      (overrunTest h s).mtb.periodDay = s.mtb.periodDay ∧ (overrunTest h s).bil.prices = s.bil.prices ∧
      (overrunTest h s).hsc.map = s.hsc.map ∧ (overrunTest h s).hsc.params = s.hsc.params ∧
      (overrunTest h s).hsc.minDelivery = s.hsc.minDelivery ∧ (overrunTest h s).hsc.retries = s.hsc.retries ∧
      (overrunTest h s).rcp = s.rcp ∧ (overrunTest h s).jnl.cursor = s.jnl.cursor ∧
      (overrunTest h s).cal.on = s.cal.on ∧ (overrunTest h s).itu = s.itu ∧
      (overrunTest h s).pending = s.pending := by
  unfold overrunTest; (repeat' split) <;> simp

@[simp] theorem presetTest_frame (h : Hose) (s : State) :
    (presetTest h s).mtr = s.mtr ∧ (presetTest h s).tpi = s.tpi ∧ (presetTest h s).idu.templates = s.idu.templates ∧
      (presetTest h s).idu.confirmCount = s.idu.confirmCount ∧ (presetTest h s).mtb = s.mtb ∧
      (presetTest h s).bil = s.bil ∧ (presetTest h s).hsc.faults = s.hsc.faults ∧
      (presetTest h s).hsc.map = s.hsc.map ∧ (presetTest h s).hsc.params = s.hsc.params ∧
      (presetTest h s).hsc.minDelivery = s.hsc.minDelivery ∧ (presetTest h s).hsc.retries = s.hsc.retries ∧
      (presetTest h s).stk = s.stk ∧ (presetTest h s).rcp = s.rcp ∧ (presetTest h s).jnl = s.jnl ∧
      (presetTest h s).cal = s.cal ∧ (presetTest h s).itu = s.itu ∧ (presetTest h s).fresh = s.fresh ∧
      (presetTest h s).pending = s.pending := by
  unfold presetTest; (repeat' split) <;> simp

@[simp] theorem slowTest_frame (h : Hose) (s : State) :
    (slowTest h s).mtr = s.mtr ∧ (slowTest h s).tpi = s.tpi ∧ (slowTest h s).idu.templates = s.idu.templates ∧
      (slowTest h s).idu.confirmCount = s.idu.confirmCount ∧ (slowTest h s).mtb = s.mtb ∧
      (slowTest h s).bil = s.bil ∧ (slowTest h s).hsc.faults = s.hsc.faults ∧
      (slowTest h s).hsc.pumps = s.hsc.pumps ∧ (slowTest h s).hsc.map = s.hsc.map ∧
      (slowTest h s).hsc.params = s.hsc.params ∧ (slowTest h s).hsc.minDelivery = s.hsc.minDelivery ∧
      (slowTest h s).hsc.retries = s.hsc.retries ∧ (slowTest h s).stk = s.stk ∧ (slowTest h s).rcp = s.rcp ∧
      (slowTest h s).jnl = s.jnl ∧ (slowTest h s).cal = s.cal ∧ (slowTest h s).itu = s.itu ∧
      (slowTest h s).fresh = s.fresh ∧ (slowTest h s).pending = s.pending := by
  unfold slowTest; (repeat' split) <;> simp

@[simp] theorem hoseCount_frame (h : Hose) (pulses gross : Nat) (s : State) :
    (hoseCount h pulses gross s).mtr.inletComp = s.mtr.inletComp ∧ (hoseCount h pulses gross s).tpi = s.tpi ∧
      (hoseCount h pulses gross s).idu.templates = s.idu.templates ∧
      (hoseCount h pulses gross s).idu.confirmCount = s.idu.confirmCount ∧
      (hoseCount h pulses gross s).mtb.openSite = s.mtb.openSite ∧
      (hoseCount h pulses gross s).mtb.dayStart = s.mtb.dayStart ∧
      (hoseCount h pulses gross s).mtb.periodDay = s.mtb.periodDay ∧
      (hoseCount h pulses gross s).bil.prices = s.bil.prices ∧ (hoseCount h pulses gross s).hsc.map = s.hsc.map ∧
      (hoseCount h pulses gross s).hsc.params = s.hsc.params ∧
      (hoseCount h pulses gross s).hsc.minDelivery = s.hsc.minDelivery ∧
      (hoseCount h pulses gross s).hsc.retries = s.hsc.retries ∧ (hoseCount h pulses gross s).rcp = s.rcp ∧
      (hoseCount h pulses gross s).jnl.cursor = s.jnl.cursor ∧ (hoseCount h pulses gross s).cal.on = s.cal.on ∧
      (hoseCount h pulses gross s).itu = s.itu ∧ (hoseCount h pulses gross s).pending = s.pending := by
  simp only [hoseCount]; (repeat' split) <;> simp

@[simp] theorem hoseLost_frame (h : Hose) (s : State) :
    (hoseLost h s).mtr = s.mtr ∧ (hoseLost h s).tpi = s.tpi ∧ (hoseLost h s).idu.templates = s.idu.templates ∧
      (hoseLost h s).idu.confirmCount = s.idu.confirmCount ∧ (hoseLost h s).mtb = s.mtb ∧
      (hoseLost h s).bil = s.bil ∧ (hoseLost h s).hsc.faults = s.hsc.faults ∧ (hoseLost h s).hsc.map = s.hsc.map ∧
      (hoseLost h s).hsc.params = s.hsc.params ∧ (hoseLost h s).hsc.minDelivery = s.hsc.minDelivery ∧
      (hoseLost h s).hsc.retries = s.hsc.retries ∧ (hoseLost h s).stk = s.stk ∧ (hoseLost h s).rcp = s.rcp ∧
      (hoseLost h s).jnl = s.jnl ∧ (hoseLost h s).cal = s.cal ∧ (hoseLost h s).itu = s.itu ∧
      (hoseLost h s).fresh = s.fresh ∧ (hoseLost h s).pending = s.pending := by
  unfold hoseLost; (repeat' split) <;> simp

@[simp] theorem hoseReturned_frame (h : Hose) (s : State) :
    (hoseReturned h s).mtr = s.mtr ∧ (hoseReturned h s).tpi = s.tpi ∧
      (hoseReturned h s).idu.templates = s.idu.templates ∧ (hoseReturned h s).idu.confirmCount = s.idu.confirmCount ∧
      (hoseReturned h s).mtb = s.mtb ∧ (hoseReturned h s).bil = s.bil ∧
      (hoseReturned h s).hsc.faults = s.hsc.faults ∧ (hoseReturned h s).hsc.pumps = s.hsc.pumps ∧
      (hoseReturned h s).hsc.map = s.hsc.map ∧ (hoseReturned h s).hsc.params = s.hsc.params ∧
      (hoseReturned h s).hsc.minDelivery = s.hsc.minDelivery ∧ (hoseReturned h s).hsc.retries = s.hsc.retries ∧
      (hoseReturned h s).stk = s.stk ∧ (hoseReturned h s).rcp = s.rcp ∧ (hoseReturned h s).jnl = s.jnl ∧
      (hoseReturned h s).cal = s.cal ∧ (hoseReturned h s).itu = s.itu ∧ (hoseReturned h s).fresh = s.fresh ∧
      (hoseReturned h s).pending = s.pending := by
  simp [hoseReturned]

@[simp] theorem hoseReplaced_frame (h : Hose) (s : State) :
    (hoseReplaced h s).mtr = s.mtr ∧ (hoseReplaced h s).tpi = s.tpi ∧
      (hoseReplaced h s).idu.templates = s.idu.templates ∧ (hoseReplaced h s).idu.confirmCount = s.idu.confirmCount ∧
      (hoseReplaced h s).mtb = s.mtb ∧ (hoseReplaced h s).bil = s.bil ∧
      (hoseReplaced h s).hsc.faults = s.hsc.faults ∧ (hoseReplaced h s).hsc.map = s.hsc.map ∧
      (hoseReplaced h s).hsc.params = s.hsc.params ∧ (hoseReplaced h s).hsc.minDelivery = s.hsc.minDelivery ∧
      (hoseReplaced h s).hsc.retries = s.hsc.retries ∧ (hoseReplaced h s).stk = s.stk ∧
      (hoseReplaced h s).rcp = s.rcp ∧ (hoseReplaced h s).jnl = s.jnl ∧ (hoseReplaced h s).cal = s.cal ∧
      (hoseReplaced h s).itu = s.itu ∧ (hoseReplaced h s).fresh = s.fresh ∧
      (hoseReplaced h s).pending = s.pending := by
  simp [hoseReplaced]

@[simp] theorem stowNozzle_frame (h : Hose) (s : State) :
    (stowNozzle h s).mtr = s.mtr ∧ (stowNozzle h s).tpi = s.tpi ∧ (stowNozzle h s).idu.templates = s.idu.templates ∧
      (stowNozzle h s).idu.confirmCount = s.idu.confirmCount ∧ (stowNozzle h s).mtb = s.mtb ∧
      (stowNozzle h s).bil = s.bil ∧ (stowNozzle h s).hsc.faults = s.hsc.faults ∧
      (stowNozzle h s).hsc.map = s.hsc.map ∧ (stowNozzle h s).hsc.params = s.hsc.params ∧
      (stowNozzle h s).hsc.minDelivery = s.hsc.minDelivery ∧ (stowNozzle h s).hsc.retries = s.hsc.retries ∧
      (stowNozzle h s).stk = s.stk ∧ (stowNozzle h s).rcp = s.rcp ∧ (stowNozzle h s).jnl = s.jnl ∧
      (stowNozzle h s).cal = s.cal ∧ (stowNozzle h s).itu = s.itu ∧ (stowNozzle h s).fresh = s.fresh ∧
      (stowNozzle h s).pending = s.pending := by
  unfold stowNozzle; (repeat' split) <;> simp

@[simp] theorem stopHoseNow_frame (h : Hose) (s : State) :
    (stopHoseNow h s).mtr = s.mtr ∧ (stopHoseNow h s).tpi = s.tpi ∧
      (stopHoseNow h s).idu.templates = s.idu.templates ∧ (stopHoseNow h s).idu.confirmCount = s.idu.confirmCount ∧
      (stopHoseNow h s).mtb = s.mtb ∧ (stopHoseNow h s).bil = s.bil ∧ (stopHoseNow h s).hsc.faults = s.hsc.faults ∧
      (stopHoseNow h s).hsc.map = s.hsc.map ∧ (stopHoseNow h s).hsc.params = s.hsc.params ∧
      (stopHoseNow h s).hsc.minDelivery = s.hsc.minDelivery ∧ (stopHoseNow h s).hsc.retries = s.hsc.retries ∧
      (stopHoseNow h s).stk = s.stk ∧ (stopHoseNow h s).rcp = s.rcp ∧ (stopHoseNow h s).jnl = s.jnl ∧
      (stopHoseNow h s).cal = s.cal ∧ (stopHoseNow h s).itu = s.itu ∧ (stopHoseNow h s).fresh = s.fresh ∧
      (stopHoseNow h s).pending = s.pending := by
  unfold stopHoseNow; (repeat' split) <;> simp

@[simp] theorem interruptHose_frame (h : Hose) (s : State) :
    (interruptHose h s).mtr.inletComp = s.mtr.inletComp ∧ (interruptHose h s).tpi = s.tpi ∧
      (interruptHose h s).idu.templates = s.idu.templates ∧
      (interruptHose h s).idu.confirmCount = s.idu.confirmCount ∧ (interruptHose h s).mtb.openSite = s.mtb.openSite ∧
      (interruptHose h s).mtb.dayStart = s.mtb.dayStart ∧ (interruptHose h s).mtb.periodDay = s.mtb.periodDay ∧
      (interruptHose h s).bil.prices = s.bil.prices ∧ (interruptHose h s).hsc.faults = s.hsc.faults ∧
      (interruptHose h s).hsc.pumps = s.hsc.pumps ∧ (interruptHose h s).hsc.map = s.hsc.map ∧
      (interruptHose h s).hsc.params = s.hsc.params ∧ (interruptHose h s).hsc.minDelivery = s.hsc.minDelivery ∧
      (interruptHose h s).hsc.retries = s.hsc.retries ∧ (interruptHose h s).rcp = s.rcp ∧
      (interruptHose h s).jnl.cursor = s.jnl.cursor ∧ (interruptHose h s).jnl.nextSeq = s.jnl.nextSeq ∧
      (interruptHose h s).jnl.deferred = s.jnl.deferred ∧ (interruptHose h s).cal.on = s.cal.on ∧
      (interruptHose h s).itu = s.itu ∧ (interruptHose h s).pending = s.pending := by
  unfold interruptHose; (repeat' split) <;> simp

@[simp] theorem interruptHoses_frame (s : State) :
    (interruptHoses s).mtr.inletComp = s.mtr.inletComp ∧ (interruptHoses s).tpi = s.tpi ∧
      (interruptHoses s).idu.templates = s.idu.templates ∧ (interruptHoses s).idu.confirmCount = s.idu.confirmCount ∧
      (interruptHoses s).mtb.openSite = s.mtb.openSite ∧ (interruptHoses s).mtb.dayStart = s.mtb.dayStart ∧
      (interruptHoses s).mtb.periodDay = s.mtb.periodDay ∧ (interruptHoses s).bil.prices = s.bil.prices ∧
      (interruptHoses s).hsc.faults = s.hsc.faults ∧ (interruptHoses s).hsc.map = s.hsc.map ∧
      (interruptHoses s).hsc.params = s.hsc.params ∧ (interruptHoses s).hsc.minDelivery = s.hsc.minDelivery ∧
      (interruptHoses s).hsc.retries = s.hsc.retries ∧ (interruptHoses s).rcp = s.rcp ∧
      (interruptHoses s).jnl.cursor = s.jnl.cursor ∧ (interruptHoses s).jnl.nextSeq = s.jnl.nextSeq ∧
      (interruptHoses s).jnl.deferred = s.jnl.deferred ∧ (interruptHoses s).cal.on = s.cal.on ∧
      (interruptHoses s).itu = s.itu ∧ (interruptHoses s).pending = s.pending := by
  unfold interruptHoses
  simp only [forHoses]
  (repeat' split) <;> simp

@[simp] theorem startupClose_frame (h : Hose) (s : State) :
    (startupClose h s).mtr.inletComp = s.mtr.inletComp ∧ (startupClose h s).tpi = s.tpi ∧
      (startupClose h s).idu = s.idu ∧ (startupClose h s).mtb.openSite = s.mtb.openSite ∧
      (startupClose h s).mtb.dayStart = s.mtb.dayStart ∧ (startupClose h s).mtb.periodDay = s.mtb.periodDay ∧
      (startupClose h s).bil.prices = s.bil.prices ∧ (startupClose h s).hsc.hoses = s.hsc.hoses ∧
      (startupClose h s).hsc.faults = s.hsc.faults ∧ (startupClose h s).hsc.pumps = s.hsc.pumps ∧
      (startupClose h s).hsc.map = s.hsc.map ∧ (startupClose h s).hsc.params = s.hsc.params ∧
      (startupClose h s).hsc.minDelivery = s.hsc.minDelivery ∧ (startupClose h s).hsc.retries = s.hsc.retries ∧
      (startupClose h s).rcp = s.rcp ∧ (startupClose h s).jnl.cursor = s.jnl.cursor ∧
      (startupClose h s).jnl.nextSeq = s.jnl.nextSeq ∧ (startupClose h s).jnl.deferred = s.jnl.deferred ∧
      (startupClose h s).cal = s.cal ∧ (startupClose h s).itu = s.itu ∧ (startupClose h s).pending = s.pending := by
  simp only [startupClose]; (repeat' split) <;> simp

@[simp] theorem runChecks_frame (h : Hose) (t : Trigger) (s : State) :
    (runChecks h t s).1.mtr = s.mtr ∧ (runChecks h t s).1.tpi = s.tpi ∧ (runChecks h t s).1.idu = s.idu ∧
      (runChecks h t s).1.mtb.openSite = s.mtb.openSite ∧ (runChecks h t s).1.mtb.dayStart = s.mtb.dayStart ∧
      (runChecks h t s).1.mtb.periodDay = s.mtb.periodDay ∧ (runChecks h t s).1.mtb.rules = s.mtb.rules ∧
      (runChecks h t s).1.bil = s.bil ∧ (runChecks h t s).1.hsc = s.hsc ∧ (runChecks h t s).1.stk = s.stk ∧
      (runChecks h t s).1.rcp = s.rcp ∧ (runChecks h t s).1.jnl = s.jnl ∧ (runChecks h t s).1.cal = s.cal ∧
      (runChecks h t s).1.itu = s.itu ∧ (runChecks h t s).1.prt = s.prt ∧ (runChecks h t s).1.fresh = s.fresh ∧
      (runChecks h t s).1.pending = s.pending := by
  unfold runChecks
  split
  · simp
  · have hc := classify_frame t.machine t.mode s
    split <;> rename_i hk <;> simp only [hk] at hc <;> (try split) <;> simpa using hc

@[simp] theorem refuse_frame (h : Hose) (t : Trigger) (r : Reason) (s : State) :
    (refuse h t r s).mtr = s.mtr ∧ (refuse h t r s).tpi = s.tpi ∧ (refuse h t r s).idu.templates = s.idu.templates ∧
      (refuse h t r s).idu.confirmCount = s.idu.confirmCount ∧ (refuse h t r s).mtb = s.mtb ∧
      (refuse h t r s).bil = s.bil ∧ (refuse h t r s).hsc.faults = s.hsc.faults ∧
      (refuse h t r s).hsc.pumps = s.hsc.pumps ∧ (refuse h t r s).hsc.map = s.hsc.map ∧
      (refuse h t r s).hsc.params = s.hsc.params ∧ (refuse h t r s).hsc.minDelivery = s.hsc.minDelivery ∧
      (refuse h t r s).hsc.retries = s.hsc.retries ∧ (refuse h t r s).stk = s.stk ∧ (refuse h t r s).rcp = s.rcp ∧
      (refuse h t r s).jnl = s.jnl ∧ (refuse h t r s).cal = s.cal ∧ (refuse h t r s).itu = s.itu ∧
      (refuse h t r s).fresh = s.fresh ∧ (refuse h t r s).pending = s.pending := by
  simp [refuse]

@[simp] theorem beginDispense_frame (h : Hose) (d : Dispense) (s : State) :
    (beginDispense h d s).mtr.inletComp = s.mtr.inletComp ∧ (beginDispense h d s).tpi = s.tpi ∧
      (beginDispense h d s).idu.templates = s.idu.templates ∧
      (beginDispense h d s).idu.confirmCount = s.idu.confirmCount ∧ (beginDispense h d s).mtb = s.mtb ∧
      (beginDispense h d s).bil = s.bil ∧ (beginDispense h d s).hsc.faults = s.hsc.faults ∧
      (beginDispense h d s).hsc.map = s.hsc.map ∧ (beginDispense h d s).hsc.params = s.hsc.params ∧
      (beginDispense h d s).hsc.minDelivery = s.hsc.minDelivery ∧ (beginDispense h d s).hsc.retries = s.hsc.retries ∧
      (beginDispense h d s).stk = s.stk ∧ (beginDispense h d s).rcp = s.rcp ∧ (beginDispense h d s).jnl = s.jnl ∧
      (beginDispense h d s).cal = s.cal ∧ (beginDispense h d s).itu = s.itu ∧ (beginDispense h d s).fresh = s.fresh ∧
      (beginDispense h d s).pending = s.pending := by
  unfold beginDispense; (repeat' split) <;> simp

@[simp] theorem grant_frame (h : Hose) (g : Grant) (s : State) :
    (grant h g s).mtr.inletComp = s.mtr.inletComp ∧ (grant h g s).tpi = s.tpi ∧
      (grant h g s).idu.templates = s.idu.templates ∧ (grant h g s).idu.confirmCount = s.idu.confirmCount ∧
      (grant h g s).mtb.openSite = s.mtb.openSite ∧ (grant h g s).mtb.dayStart = s.mtb.dayStart ∧
      (grant h g s).mtb.periodDay = s.mtb.periodDay ∧ (grant h g s).mtb.rules = s.mtb.rules ∧
      (grant h g s).bil.prices = s.bil.prices ∧ (grant h g s).hsc.faults = s.hsc.faults ∧
      (grant h g s).hsc.map = s.hsc.map ∧ (grant h g s).hsc.params = s.hsc.params ∧
      (grant h g s).hsc.minDelivery = s.hsc.minDelivery ∧ (grant h g s).hsc.retries = s.hsc.retries ∧
      (grant h g s).rcp = s.rcp ∧ (grant h g s).jnl.cursor = s.jnl.cursor ∧
      (grant h g s).jnl.deferred = s.jnl.deferred ∧ (grant h g s).cal = s.cal ∧ (grant h g s).itu = s.itu ∧
      (grant h g s).fresh = s.fresh ∧ (grant h g s).pending = s.pending := by
  simp [grant]

@[simp] theorem authorise_frame (h : Hose) (t : Trigger) (s : State) :
    (authorise h t s).1.mtr.inletComp = s.mtr.inletComp ∧ (authorise h t s).1.tpi = s.tpi ∧
      (authorise h t s).1.idu.templates = s.idu.templates ∧
      (authorise h t s).1.idu.confirmCount = s.idu.confirmCount ∧ (authorise h t s).1.mtb.openSite = s.mtb.openSite ∧
      (authorise h t s).1.mtb.dayStart = s.mtb.dayStart ∧ (authorise h t s).1.mtb.periodDay = s.mtb.periodDay ∧
      (authorise h t s).1.mtb.rules = s.mtb.rules ∧ (authorise h t s).1.bil.prices = s.bil.prices ∧
      (authorise h t s).1.hsc.faults = s.hsc.faults ∧ (authorise h t s).1.hsc.map = s.hsc.map ∧
      (authorise h t s).1.hsc.params = s.hsc.params ∧ (authorise h t s).1.hsc.minDelivery = s.hsc.minDelivery ∧
      (authorise h t s).1.hsc.retries = s.hsc.retries ∧ (authorise h t s).1.rcp = s.rcp ∧
      (authorise h t s).1.jnl.cursor = s.jnl.cursor ∧ (authorise h t s).1.jnl.deferred = s.jnl.deferred ∧
      (authorise h t s).1.cal = s.cal ∧ (authorise h t s).1.itu = s.itu ∧ (authorise h t s).1.fresh = s.fresh ∧
      (authorise h t s).1.pending = s.pending := by
  have hr := runChecks_frame h t s
  unfold authorise
  split <;> rename_i hk <;> rw [hk] at hr <;> dsimp only at hr ⊢ <;> simp [hr]

@[simp] theorem hoseIdentified_frame (h : Hose) (machine template : Nat) (hours : Option Nat) (s : State) :
    (hoseIdentified h machine template hours s).mtr.inletComp = s.mtr.inletComp ∧
      (hoseIdentified h machine template hours s).tpi = s.tpi ∧
      (hoseIdentified h machine template hours s).idu.templates = s.idu.templates ∧
      (hoseIdentified h machine template hours s).idu.confirmCount = s.idu.confirmCount ∧
      (hoseIdentified h machine template hours s).mtb.openSite = s.mtb.openSite ∧
      (hoseIdentified h machine template hours s).mtb.dayStart = s.mtb.dayStart ∧
      (hoseIdentified h machine template hours s).mtb.periodDay = s.mtb.periodDay ∧
      (hoseIdentified h machine template hours s).mtb.rules = s.mtb.rules ∧
      (hoseIdentified h machine template hours s).bil.prices = s.bil.prices ∧
      (hoseIdentified h machine template hours s).hsc.faults = s.hsc.faults ∧
      (hoseIdentified h machine template hours s).hsc.map = s.hsc.map ∧
      (hoseIdentified h machine template hours s).hsc.params = s.hsc.params ∧
      (hoseIdentified h machine template hours s).hsc.minDelivery = s.hsc.minDelivery ∧
      (hoseIdentified h machine template hours s).hsc.retries = s.hsc.retries ∧
      (hoseIdentified h machine template hours s).rcp = s.rcp ∧
      (hoseIdentified h machine template hours s).jnl.cursor = s.jnl.cursor ∧
      (hoseIdentified h machine template hours s).jnl.deferred = s.jnl.deferred ∧
      (hoseIdentified h machine template hours s).cal = s.cal ∧
      (hoseIdentified h machine template hours s).itu = s.itu ∧
      (hoseIdentified h machine template hours s).fresh = s.fresh ∧
      (hoseIdentified h machine template hours s).pending = s.pending := by
  unfold hoseIdentified; (repeat' split) <;> simp

@[simp] theorem sendReport_frame (h : Hose) (report : Option Report) (s : State) :
    (sendReport h report s).mtr.inletComp = s.mtr.inletComp ∧ (sendReport h report s).tpi = s.tpi ∧
      (sendReport h report s).idu.templates = s.idu.templates ∧
      (sendReport h report s).idu.confirmCount = s.idu.confirmCount ∧
      (sendReport h report s).mtb.openSite = s.mtb.openSite ∧ (sendReport h report s).mtb.dayStart = s.mtb.dayStart ∧
      (sendReport h report s).mtb.periodDay = s.mtb.periodDay ∧ (sendReport h report s).mtb.rules = s.mtb.rules ∧
      (sendReport h report s).bil.prices = s.bil.prices ∧ (sendReport h report s).hsc.faults = s.hsc.faults ∧
      (sendReport h report s).hsc.map = s.hsc.map ∧ (sendReport h report s).hsc.params = s.hsc.params ∧
      (sendReport h report s).hsc.minDelivery = s.hsc.minDelivery ∧
      (sendReport h report s).hsc.retries = s.hsc.retries ∧ (sendReport h report s).rcp = s.rcp ∧
      (sendReport h report s).jnl.cursor = s.jnl.cursor ∧ (sendReport h report s).jnl.deferred = s.jnl.deferred ∧
      (sendReport h report s).cal = s.cal ∧ (sendReport h report s).itu = s.itu ∧
      (sendReport h report s).fresh = s.fresh ∧ (sendReport h report s).pending = s.pending := by
  unfold sendReport; (repeat' split) <;> simp

@[simp] theorem completeFrame_frame (h : Hose) (length : Nat) (payload crc : List Byte) (s : State) :
    (completeFrame h length payload crc s).mtr.inletComp = s.mtr.inletComp ∧
      (completeFrame h length payload crc s).tpi = s.tpi ∧
      (completeFrame h length payload crc s).idu.templates = s.idu.templates ∧
      (completeFrame h length payload crc s).idu.confirmCount = s.idu.confirmCount ∧
      (completeFrame h length payload crc s).mtb.openSite = s.mtb.openSite ∧
      (completeFrame h length payload crc s).mtb.dayStart = s.mtb.dayStart ∧
      (completeFrame h length payload crc s).mtb.periodDay = s.mtb.periodDay ∧
      (completeFrame h length payload crc s).mtb.rules = s.mtb.rules ∧
      (completeFrame h length payload crc s).bil.prices = s.bil.prices ∧
      (completeFrame h length payload crc s).hsc.faults = s.hsc.faults ∧
      (completeFrame h length payload crc s).hsc.map = s.hsc.map ∧
      (completeFrame h length payload crc s).hsc.params = s.hsc.params ∧
      (completeFrame h length payload crc s).hsc.minDelivery = s.hsc.minDelivery ∧
      (completeFrame h length payload crc s).hsc.retries = s.hsc.retries ∧
      (completeFrame h length payload crc s).rcp = s.rcp ∧
      (completeFrame h length payload crc s).jnl.cursor = s.jnl.cursor ∧
      (completeFrame h length payload crc s).jnl.deferred = s.jnl.deferred ∧
      (completeFrame h length payload crc s).cal = s.cal ∧
      (completeFrame h length payload crc s).itu.inputs = s.itu.inputs ∧
      (completeFrame h length payload crc s).itu.latch = s.itu.latch ∧
      (completeFrame h length payload crc s).itu.clock = s.itu.clock ∧
      (completeFrame h length payload crc s).itu.clockValid = s.itu.clockValid ∧
      (completeFrame h length payload crc s).itu.mono = s.itu.mono ∧
      (completeFrame h length payload crc s).itu.idleInterval = s.itu.idleInterval ∧
      (completeFrame h length payload crc s).itu.idleSources = s.itu.idleSources ∧
      (completeFrame h length payload crc s).itu.lines = s.itu.lines ∧
      (completeFrame h length payload crc s).itu.standby = s.itu.standby ∧
      (completeFrame h length payload crc s).fresh = s.fresh ∧
      (completeFrame h length payload crc s).pending = s.pending := by
  simp only [completeFrame]; (repeat' split) <;> simp

@[simp] theorem tagByte_frame (h : Hose) (b : Byte) (s : State) :
    (tagByte h b s).mtr.inletComp = s.mtr.inletComp ∧ (tagByte h b s).tpi = s.tpi ∧
      (tagByte h b s).idu.templates = s.idu.templates ∧ (tagByte h b s).idu.confirmCount = s.idu.confirmCount ∧
      (tagByte h b s).mtb.openSite = s.mtb.openSite ∧ (tagByte h b s).mtb.dayStart = s.mtb.dayStart ∧
      (tagByte h b s).mtb.periodDay = s.mtb.periodDay ∧ (tagByte h b s).mtb.rules = s.mtb.rules ∧
      (tagByte h b s).bil.prices = s.bil.prices ∧ (tagByte h b s).hsc.faults = s.hsc.faults ∧
      (tagByte h b s).hsc.map = s.hsc.map ∧ (tagByte h b s).hsc.params = s.hsc.params ∧
      (tagByte h b s).hsc.minDelivery = s.hsc.minDelivery ∧ (tagByte h b s).hsc.retries = s.hsc.retries ∧
      (tagByte h b s).rcp = s.rcp ∧ (tagByte h b s).jnl.cursor = s.jnl.cursor ∧
      (tagByte h b s).jnl.deferred = s.jnl.deferred ∧ (tagByte h b s).cal = s.cal ∧
      (tagByte h b s).itu.inputs = s.itu.inputs ∧ (tagByte h b s).itu.latch = s.itu.latch ∧
      (tagByte h b s).itu.clock = s.itu.clock ∧ (tagByte h b s).itu.clockValid = s.itu.clockValid ∧
      (tagByte h b s).itu.mono = s.itu.mono ∧ (tagByte h b s).itu.idleInterval = s.itu.idleInterval ∧
      (tagByte h b s).itu.idleSources = s.itu.idleSources ∧
      (tagByte h b s).itu.lines = s.itu.lines ∧ (tagByte h b s).itu.standby = s.itu.standby ∧
      (tagByte h b s).fresh = s.fresh ∧ (tagByte h b s).pending = s.pending := by
  simp only [tagByte]; (repeat' split) <;> simp

@[simp] theorem truncateFrame_frame (h : Hose) (s : State) :
    (truncateFrame h s).mtr = s.mtr ∧ (truncateFrame h s).tpi = s.tpi ∧
      (truncateFrame h s).idu.templates = s.idu.templates ∧
      (truncateFrame h s).idu.confirmCount = s.idu.confirmCount ∧ (truncateFrame h s).mtb = s.mtb ∧
      (truncateFrame h s).bil = s.bil ∧ (truncateFrame h s).hsc = s.hsc ∧ (truncateFrame h s).stk = s.stk ∧
      (truncateFrame h s).rcp = s.rcp ∧ (truncateFrame h s).jnl = s.jnl ∧ (truncateFrame h s).cal = s.cal ∧
      (truncateFrame h s).itu.inputs = s.itu.inputs ∧ (truncateFrame h s).itu.latch = s.itu.latch ∧
      (truncateFrame h s).itu.clock = s.itu.clock ∧ (truncateFrame h s).itu.clockValid = s.itu.clockValid ∧
      (truncateFrame h s).itu.idleInterval = s.itu.idleInterval ∧
      (truncateFrame h s).itu.idleSources = s.itu.idleSources ∧
      (truncateFrame h s).itu.lines = s.itu.lines ∧
      (truncateFrame h s).itu.idleDeadline = s.itu.idleDeadline ∧ (truncateFrame h s).itu.standby = s.itu.standby ∧
      (truncateFrame h s).prt = s.prt ∧ (truncateFrame h s).fresh = s.fresh ∧
      (truncateFrame h s).pending = s.pending := by
  simp only [truncateFrame]; (repeat' split) <;> simp

@[simp] theorem lapseCandidate_frame (h : Hose) (s : State) :
    (lapseCandidate h s).mtr = s.mtr ∧ (lapseCandidate h s).tpi = s.tpi ∧
      (lapseCandidate h s).idu.templates = s.idu.templates ∧
      (lapseCandidate h s).idu.confirmCount = s.idu.confirmCount ∧ (lapseCandidate h s).mtb = s.mtb ∧
      (lapseCandidate h s).bil = s.bil ∧ (lapseCandidate h s).hsc = s.hsc ∧ (lapseCandidate h s).stk = s.stk ∧
      (lapseCandidate h s).rcp = s.rcp ∧ (lapseCandidate h s).jnl = s.jnl ∧ (lapseCandidate h s).cal = s.cal ∧
      (lapseCandidate h s).itu.inputs = s.itu.inputs ∧ (lapseCandidate h s).itu.latch = s.itu.latch ∧
      (lapseCandidate h s).itu.clock = s.itu.clock ∧ (lapseCandidate h s).itu.clockValid = s.itu.clockValid ∧
      (lapseCandidate h s).itu.idleInterval = s.itu.idleInterval ∧
      (lapseCandidate h s).itu.idleSources = s.itu.idleSources ∧
      (lapseCandidate h s).itu.lines = s.itu.lines ∧
      (lapseCandidate h s).itu.idleDeadline = s.itu.idleDeadline ∧ (lapseCandidate h s).itu.standby = s.itu.standby ∧
      (lapseCandidate h s).prt = s.prt ∧ (lapseCandidate h s).fresh = s.fresh ∧
      (lapseCandidate h s).pending = s.pending := by
  unfold lapseCandidate; (repeat' split) <;> simp

@[simp] theorem enterGrace_frame (h : Hose) (s : State) :
    (enterGrace h s).mtr = s.mtr ∧ (enterGrace h s).tpi = s.tpi ∧ (enterGrace h s).idu.templates = s.idu.templates ∧
      (enterGrace h s).idu.confirmCount = s.idu.confirmCount ∧ (enterGrace h s).mtb = s.mtb ∧
      (enterGrace h s).bil = s.bil ∧ (enterGrace h s).hsc = s.hsc ∧ (enterGrace h s).stk = s.stk ∧
      (enterGrace h s).rcp = s.rcp ∧ (enterGrace h s).jnl = s.jnl ∧ (enterGrace h s).cal = s.cal ∧
      (enterGrace h s).itu.inputs = s.itu.inputs ∧ (enterGrace h s).itu.latch = s.itu.latch ∧
      (enterGrace h s).itu.clock = s.itu.clock ∧ (enterGrace h s).itu.clockValid = s.itu.clockValid ∧
      (enterGrace h s).itu.idleInterval = s.itu.idleInterval ∧ (enterGrace h s).itu.idleSources = s.itu.idleSources ∧
      (enterGrace h s).itu.lines = s.itu.lines ∧
      (enterGrace h s).itu.idleDeadline = s.itu.idleDeadline ∧ (enterGrace h s).itu.standby = s.itu.standby ∧
      (enterGrace h s).prt = s.prt ∧ (enterGrace h s).fresh = s.fresh ∧ (enterGrace h s).pending = s.pending := by
  unfold enterGrace; (repeat' split) <;> simp

@[simp] theorem loseTag_frame (h : Hose) (s : State) :
    (loseTag h s).mtr.inletComp = s.mtr.inletComp ∧ (loseTag h s).tpi = s.tpi ∧
      (loseTag h s).idu.templates = s.idu.templates ∧ (loseTag h s).idu.confirmCount = s.idu.confirmCount ∧
      (loseTag h s).mtb.openSite = s.mtb.openSite ∧ (loseTag h s).mtb.dayStart = s.mtb.dayStart ∧
      (loseTag h s).mtb.periodDay = s.mtb.periodDay ∧ (loseTag h s).mtb.rules = s.mtb.rules ∧
      (loseTag h s).bil.prices = s.bil.prices ∧ (loseTag h s).hsc.faults = s.hsc.faults ∧
      (loseTag h s).hsc.map = s.hsc.map ∧ (loseTag h s).hsc.params = s.hsc.params ∧
      (loseTag h s).hsc.minDelivery = s.hsc.minDelivery ∧ (loseTag h s).hsc.retries = s.hsc.retries ∧
      (loseTag h s).rcp = s.rcp ∧ (loseTag h s).jnl.cursor = s.jnl.cursor ∧
      (loseTag h s).jnl.deferred = s.jnl.deferred ∧ (loseTag h s).cal = s.cal ∧
      (loseTag h s).itu.inputs = s.itu.inputs ∧ (loseTag h s).itu.latch = s.itu.latch ∧
      (loseTag h s).itu.clock = s.itu.clock ∧ (loseTag h s).itu.clockValid = s.itu.clockValid ∧
      (loseTag h s).itu.idleInterval = s.itu.idleInterval ∧ (loseTag h s).itu.idleSources = s.itu.idleSources ∧
      (loseTag h s).itu.lines = s.itu.lines ∧
      (loseTag h s).itu.idleDeadline = s.itu.idleDeadline ∧ (loseTag h s).itu.standby = s.itu.standby ∧
      (loseTag h s).fresh = s.fresh ∧ (loseTag h s).pending = s.pending := by
  unfold loseTag; (repeat' split) <;> simp

/-! ## The hose contexts -/

theorem hoseCtx_congr {s t : State} (h : t.hsc.hoses = s.hsc.hoses) (k : Hose) : hoseCtx t k = hoseCtx s k := by
  simp [hoseCtx, h]

@[simp] theorem hoseCtx_refreshReader (h k : Hose) (s : State) : hoseCtx (refreshReader h s) k = hoseCtx s k :=
  hoseCtx_congr (by simp) k

@[simp] theorem hoseCtx_touchShadow (h k : Hose) (s : State) : hoseCtx (touchShadow h s) k = hoseCtx s k :=
  hoseCtx_congr (by simp) k

@[simp] theorem hoseCtx_saveShadow (b : Bool) (h k : Hose) (s : State) : hoseCtx (saveShadow b h s) k = hoseCtx s k :=
  hoseCtx_congr (by simp) k

@[simp] theorem hoseCtx_spend (k : Hose) (s : State) : hoseCtx (spend s) k = hoseCtx s k := rfl

@[simp] theorem hoseCtx_raise (e : Event) (k : Hose) (s : State) : hoseCtx (raise e s) k = hoseCtx s k :=
  hoseCtx_congr (by simp) k

@[simp] theorem hoseCtx_leaveDemand (c : Comp) (h k : Hose) (s : State) : hoseCtx (leaveDemand c h s) k = hoseCtx s k :=
  hoseCtx_congr (by simp) k

@[simp] theorem hoseCtx_modPump (c : Comp) (f : Pump → Pump) (k : Hose) (s : State) :
    hoseCtx (modPump c f s) k = hoseCtx s k :=
  hoseCtx_congr (by simp) k

@[simp] theorem hoseCtx_setHoseFault (h k : Hose) (kind : FaultKind) (locked : Bool) (v : Option Nat) (s : State) :
    hoseCtx (setHoseFault h kind locked v s) k = hoseCtx s k :=
  hoseCtx_congr (by simp) k

@[simp] theorem hoseCtx_setShadow (h k : Hose) (w : Shadow) (s : State) : hoseCtx (setShadow h w s) k = hoseCtx s k :=
  hoseCtx_congr (by simp) k

@[simp] theorem hoseCtx_setFault (h k : Hose) (l : FaultLevel) (s : State) : hoseCtx (setFault h l s) k = hoseCtx s k :=
  hoseCtx_congr (by simp) k

@[simp] theorem hoseCtx_modReader (h k : Hose) (f : Reader → Reader) (s : State) : hoseCtx (modReader h f s) k = hoseCtx s k :=
  hoseCtx_congr (by simp) k

@[simp] theorem hoseCtx_modMeter (m : MeterId) (f : MeterState → MeterState) (k : Hose) (s : State) : hoseCtx (modMeter m f s) k = hoseCtx s k :=
  hoseCtx_congr (by simp) k

@[simp] theorem hoseCtx_modCal (f : Cal → Cal) (k : Hose) (s : State) : hoseCtx (modCal f s) k = hoseCtx s k :=
  hoseCtx_congr (by simp) k

@[simp] theorem hoseCtx_bookDispense (x : Closing) (k : Hose) (s : State) : hoseCtx (bookDispense x s) k = hoseCtx s k :=
  hoseCtx_congr (by simp) k

@[simp] theorem hoseCtx_modItu (f : Itu → Itu) (k : Hose) (s : State) : hoseCtx (modItu f s) k = hoseCtx s k :=
  hoseCtx_congr (by simp) k

@[simp] theorem hoseCtx_modComp (c : Comp) (f : Compartment → Compartment) (k : Hose) (s : State) : hoseCtx (modComp c f s) k = hoseCtx s k :=
  hoseCtx_congr (by simp) k

@[simp] theorem hoseCtx_reserve (body : Body) (k : Hose) (s : State) : hoseCtx (reserve body s) k = hoseCtx s k :=
  hoseCtx_congr (by simp) k

@[simp] theorem hoseCtx_setMarker (n : Nat) (c : Comp) (h k : Hose) (s : State) : hoseCtx (setMarker n c h s) k = hoseCtx s k :=
  hoseCtx_congr (by simp) k

@[simp] theorem hoseCtx_commitAmount (i a : Nat) (k : Hose) (s : State) : hoseCtx (commitAmount i a s) k = hoseCtx s k :=
  hoseCtx_congr (by simp) k

/-- A change of hose state changes the state in the hose's context, and no other context (R96). -/
@[simp] theorem hoseCtx_enterState (h k : Hose) (st : HoseState) (s : State) :
    hoseCtx (enterState h st s) k = if k = h then { hoseCtx s h with state := st } else hoseCtx s k := by
  simp [enterState]

@[simp] theorem hoseCtx_startTimer (h k : Hose) (ms : Nat) (s : State) :
    hoseCtx (startTimer h ms s) k = if k = h then { hoseCtx s h with timer := some (s.itu.mono + ms) } else hoseCtx s k := by
  simp [startTimer]

@[simp] theorem hoseCtx_stopTimer (h k : Hose) (s : State) :
    hoseCtx (stopTimer h s) k = if k = h then { hoseCtx s h with timer := none } else hoseCtx s k := by
  simp [stopTimer]

/-- The return to IDLE clears the context's timer, operator code and requested preset (R98). -/
@[simp] theorem hoseCtx_returnIdle (h k : Hose) (s : State) :
    hoseCtx (returnIdle h s) k =
      if k = h then { hoseCtx s h with state := .idle, timer := none, operator := none, requested := none }
      else hoseCtx s k := by
  by_cases hk : k = h <;> simp [returnIdle, hk]

/-- The entry to ENDING (R108). -/
theorem hoseCtx_enterEnding (o : DispenseOutcome) (h k : Hose) (s : State) (d : Dispense)
    (hd : (hoseCtx s h).dispense = some d) :
    hoseCtx (enterEnding o h s) k =
      if k = h then
        { hoseCtx s h with
          state := .ending, timer := some (s.itu.mono + 2000)
          dispense := some { withOutcome o d with grossAtEnding := some d.gross } }
      else hoseCtx s k := by
  by_cases hk : k = h <;> simp [enterEnding, hd, hk]

/-- A hose without a dispense does not enter ENDING. -/
theorem enterEnding_none (o : DispenseOutcome) (h : Hose) (s : State) (hd : (hoseCtx s h).dispense = none) :
    enterEnding o h s = s := by simp [enterEnding, hd]

/-- The close leaves the hose in the state its fault level gives, with the refusal note alone in its context (R109). -/
theorem hoseCtx_closeDispense (h k : Hose) (s : State) (d : Dispense) (hd : (hoseCtx s h).dispense = some d) :
    hoseCtx (closeDispense h s) k =
      if k = h then { state := restState (s.hsc.faults.get h), note := (hoseCtx s h).note } else hoseCtx s k := by
  simp only [closeDispense, hd]
  cases d.grossAtEnding <;> split <;> by_cases hk : k = h <;> simp [hk]

/-- The close request makes the hose's meter unowned (R8). -/
theorem closeDispense_owned (h : Hose) (s : State) (d : Dispense) (hd : (hoseCtx s h).dispense = some d) :
    ((closeDispense h s).mtr.meters.get (hoseMeter h)).owned = false := by
  simp only [closeDispense, hd]
  split <;> simp [closeMeter]

/-- A hose without a dispense has nothing to close. -/
theorem closeDispense_none (h : Hose) (s : State) (hd : (hoseCtx s h).dispense = none) : closeDispense h s = s := by
  simp [closeDispense, hd]

/-! ## Authorisation -/

/-- The least figure is no more than the first, and no more than any of the list (R86). -/
theorem leastFigure_le (l : List (Limiter × Nat)) (best : Limiter × Nat) :
    (leastFigure l best).2 ≤ best.2 ∧ ∀ x ∈ l, (leastFigure l best).2 ≤ x.2 := by
  induction l generalizing best with
  | nil => simp [leastFigure]
  | cons x rest ih =>
    simp only [leastFigure]
    obtain ⟨h1, h2⟩ := ih (if x.2 < best.2 then x else best)
    refine ⟨?_, fun y hy => ?_⟩
    · refine h1.trans ?_
      split <;> omega
    · rcases List.mem_cons.mp hy with rfl | hy
      · refine h1.trans ?_
        split <;> omega
      · exact h2 y hy

/-- The least figure is the first or one of the list. -/
theorem leastFigure_mem (l : List (Limiter × Nat)) (best : Limiter × Nat) :
    leastFigure l best = best ∨ leastFigure l best ∈ l := by
  induction l generalizing best with
  | nil => simp [leastFigure]
  | cons x rest ih =>
    simp only [leastFigure]
    rcases ih (if x.2 < best.2 then x else best) with h | h
    · rw [h]
      split <;> simp
    · simp [h]

/-- A refused authorisation returns the hose to IDLE with a note (R80). -/
theorem hoseCtx_refuse (h k : Hose) (t : Trigger) (r : Reason) (s : State) :
    hoseCtx (refuse h t r s) k =
      if k = h then
        { hoseCtx s h with
          state := .idle, timer := none, operator := none, requested := none
          note := some { reason := r, machine := t.machine, mode := t.mode, time := s.itu.clock } }
      else hoseCtx s k := by
  simp only [refuse, raiseIf]
  split <;> by_cases hk : k = h <;> simp [hk]

end Sys2Proof.Machine
end

