-- ==== Sys2Proof/Laws/Receipts.lean ====
section
/-! SUPPORT. What the operations of Machine/Receipts.lean and Machine/Pulses.lean leave as it was, and what they do. -/

namespace Sys2Proof.Machine

@[simp] theorem saveReceiptShadow_frame (powerFail : Bool) (s : State) :
    (saveReceiptShadow powerFail s).mtr = s.mtr ∧ (saveReceiptShadow powerFail s).tpi = s.tpi ∧
      (saveReceiptShadow powerFail s).idu = s.idu ∧ (saveReceiptShadow powerFail s).mtb = s.mtb ∧
      (saveReceiptShadow powerFail s).bil = s.bil ∧ (saveReceiptShadow powerFail s).hsc = s.hsc ∧
      (saveReceiptShadow powerFail s).stk = s.stk ∧ (saveReceiptShadow powerFail s).rcp.receipt = s.rcp.receipt ∧
      (saveReceiptShadow powerFail s).rcp.fault = s.rcp.fault ∧ (saveReceiptShadow powerFail s).jnl = s.jnl ∧
      (saveReceiptShadow powerFail s).cal = s.cal ∧ (saveReceiptShadow powerFail s).itu = s.itu ∧
      (saveReceiptShadow powerFail s).prt = s.prt ∧ (saveReceiptShadow powerFail s).fresh = s.fresh ∧
      (saveReceiptShadow powerFail s).pending = s.pending := by
  unfold saveReceiptShadow; (repeat' split) <;> simp

@[simp] theorem touchReceiptShadow_frame (s : State) :
    (touchReceiptShadow s).mtr = s.mtr ∧ (touchReceiptShadow s).tpi = s.tpi ∧ (touchReceiptShadow s).idu = s.idu ∧
      (touchReceiptShadow s).mtb = s.mtb ∧ (touchReceiptShadow s).bil = s.bil ∧ (touchReceiptShadow s).hsc = s.hsc ∧
      (touchReceiptShadow s).stk = s.stk ∧ (touchReceiptShadow s).rcp.receipt = s.rcp.receipt ∧
      (touchReceiptShadow s).rcp.fault = s.rcp.fault ∧ (touchReceiptShadow s).jnl = s.jnl ∧
      (touchReceiptShadow s).cal = s.cal ∧ (touchReceiptShadow s).itu = s.itu ∧ (touchReceiptShadow s).prt = s.prt ∧
      (touchReceiptShadow s).fresh = s.fresh ∧ (touchReceiptShadow s).pending = s.pending := by
  unfold touchReceiptShadow; (repeat' split) <;> simp

@[simp] theorem enterReceipt_frame (st : ReceiptState) (s : State) :
    (enterReceipt st s).mtr = s.mtr ∧ (enterReceipt st s).tpi = s.tpi ∧ (enterReceipt st s).idu = s.idu ∧
      (enterReceipt st s).mtb = s.mtb ∧ (enterReceipt st s).bil = s.bil ∧ (enterReceipt st s).hsc = s.hsc ∧
      (enterReceipt st s).stk = s.stk ∧ (enterReceipt st s).rcp.fault = s.rcp.fault ∧
      (enterReceipt st s).jnl = s.jnl ∧ (enterReceipt st s).cal = s.cal ∧
      (enterReceipt st s).itu.inputs = s.itu.inputs ∧ (enterReceipt st s).itu.latch = s.itu.latch ∧
      (enterReceipt st s).itu.clock = s.itu.clock ∧ (enterReceipt st s).itu.clockValid = s.itu.clockValid ∧
      (enterReceipt st s).itu.mono = s.itu.mono ∧ (enterReceipt st s).itu.idleInterval = s.itu.idleInterval ∧
      (enterReceipt st s).itu.idleSources = s.itu.idleSources ∧
      (enterReceipt st s).itu.lines = s.itu.lines ∧ (enterReceipt st s).itu.standby = s.itu.standby ∧
      (enterReceipt st s).fresh = s.fresh ∧ (enterReceipt st s).pending = s.pending := by
  simp [enterReceipt]

@[simp] theorem receiptTimer_frame (ms : Nat) (s : State) :
    (receiptTimer ms s).mtr = s.mtr ∧ (receiptTimer ms s).tpi = s.tpi ∧ (receiptTimer ms s).idu = s.idu ∧
      (receiptTimer ms s).mtb = s.mtb ∧ (receiptTimer ms s).bil = s.bil ∧ (receiptTimer ms s).hsc = s.hsc ∧
      (receiptTimer ms s).stk = s.stk ∧ (receiptTimer ms s).rcp.shadow = s.rcp.shadow ∧
      (receiptTimer ms s).rcp.fault = s.rcp.fault ∧ (receiptTimer ms s).jnl = s.jnl ∧
      (receiptTimer ms s).cal = s.cal ∧ (receiptTimer ms s).itu = s.itu ∧ (receiptTimer ms s).prt = s.prt ∧
      (receiptTimer ms s).fresh = s.fresh ∧ (receiptTimer ms s).pending = s.pending := by
  simp [receiptTimer]

@[simp] theorem enterSettling_frame (o : ReceiptOutcome) (s : State) :
    (enterSettling o s).mtr = s.mtr ∧ (enterSettling o s).tpi = s.tpi ∧ (enterSettling o s).idu = s.idu ∧
      (enterSettling o s).mtb = s.mtb ∧ (enterSettling o s).bil = s.bil ∧ (enterSettling o s).hsc = s.hsc ∧
      (enterSettling o s).stk = s.stk ∧ (enterSettling o s).rcp.fault = s.rcp.fault ∧
      (enterSettling o s).jnl = s.jnl ∧ (enterSettling o s).cal = s.cal ∧
      (enterSettling o s).itu.inputs = s.itu.inputs ∧ (enterSettling o s).itu.latch = s.itu.latch ∧
      (enterSettling o s).itu.clock = s.itu.clock ∧ (enterSettling o s).itu.clockValid = s.itu.clockValid ∧
      (enterSettling o s).itu.mono = s.itu.mono ∧ (enterSettling o s).itu.idleInterval = s.itu.idleInterval ∧
      (enterSettling o s).itu.idleSources = s.itu.idleSources ∧
      (enterSettling o s).itu.lines = s.itu.lines ∧ (enterSettling o s).itu.standby = s.itu.standby ∧
      (enterSettling o s).fresh = s.fresh ∧ (enterSettling o s).pending = s.pending := by
  simp [enterSettling]

@[simp] theorem settleIf_frame (o : ReceiptOutcome) (s : State) :
    (settleIf o s).mtr = s.mtr ∧ (settleIf o s).tpi = s.tpi ∧ (settleIf o s).idu = s.idu ∧
      (settleIf o s).mtb = s.mtb ∧ (settleIf o s).bil = s.bil ∧ (settleIf o s).hsc = s.hsc ∧
      (settleIf o s).stk = s.stk ∧ (settleIf o s).rcp.fault = s.rcp.fault ∧ (settleIf o s).jnl = s.jnl ∧
      (settleIf o s).cal = s.cal ∧ (settleIf o s).itu.inputs = s.itu.inputs ∧
      (settleIf o s).itu.latch = s.itu.latch ∧ (settleIf o s).itu.clock = s.itu.clock ∧
      (settleIf o s).itu.clockValid = s.itu.clockValid ∧ (settleIf o s).itu.mono = s.itu.mono ∧
      (settleIf o s).itu.idleInterval = s.itu.idleInterval ∧ (settleIf o s).itu.idleSources = s.itu.idleSources ∧
      (settleIf o s).itu.lines = s.itu.lines ∧
      (settleIf o s).itu.standby = s.itu.standby ∧ (settleIf o s).fresh = s.fresh ∧
      (settleIf o s).pending = s.pending := by
  unfold settleIf; (repeat' split) <;> simp

@[simp] theorem bookReceipt_frame (seq : Nat) (c : Comp) (expected : Nat) (gross : Option Nat) (mean : Int) (endLevel : Option Nat) (o : ReceiptOutcome) (s : State) :
    (bookReceipt seq c expected gross mean endLevel o s).mtr = s.mtr ∧
      (bookReceipt seq c expected gross mean endLevel o s).tpi = s.tpi ∧
      (bookReceipt seq c expected gross mean endLevel o s).idu = s.idu ∧
      (bookReceipt seq c expected gross mean endLevel o s).mtb = s.mtb ∧
      (bookReceipt seq c expected gross mean endLevel o s).bil = s.bil ∧
      (bookReceipt seq c expected gross mean endLevel o s).hsc = s.hsc ∧
      (bookReceipt seq c expected gross mean endLevel o s).rcp.receipt = s.rcp.receipt ∧
      (bookReceipt seq c expected gross mean endLevel o s).rcp.fault = s.rcp.fault ∧
      (bookReceipt seq c expected gross mean endLevel o s).jnl.cursor = s.jnl.cursor ∧
      (bookReceipt seq c expected gross mean endLevel o s).jnl.nextSeq = s.jnl.nextSeq ∧
      (bookReceipt seq c expected gross mean endLevel o s).jnl.deferred = s.jnl.deferred ∧
      (bookReceipt seq c expected gross mean endLevel o s).cal = s.cal ∧
      (bookReceipt seq c expected gross mean endLevel o s).itu = s.itu ∧
      (bookReceipt seq c expected gross mean endLevel o s).fresh = s.fresh ∧
      (bookReceipt seq c expected gross mean endLevel o s).pending = s.pending := by
  simp [bookReceipt]

@[simp] theorem closeReceiptNow_frame (o : ReceiptOutcome) (s : State) :
    (closeReceiptNow o s).mtr.inletComp = s.mtr.inletComp ∧ (closeReceiptNow o s).tpi = s.tpi ∧
      (closeReceiptNow o s).idu = s.idu ∧ (closeReceiptNow o s).mtb = s.mtb ∧ (closeReceiptNow o s).bil = s.bil ∧
      (closeReceiptNow o s).hsc = s.hsc ∧ (closeReceiptNow o s).rcp.fault = s.rcp.fault ∧
      (closeReceiptNow o s).jnl.cursor = s.jnl.cursor ∧ (closeReceiptNow o s).jnl.nextSeq = s.jnl.nextSeq ∧
      (closeReceiptNow o s).jnl.deferred = s.jnl.deferred ∧ (closeReceiptNow o s).cal = s.cal ∧
      (closeReceiptNow o s).itu.inputs = s.itu.inputs ∧ (closeReceiptNow o s).itu.latch = s.itu.latch ∧
      (closeReceiptNow o s).itu.clock = s.itu.clock ∧ (closeReceiptNow o s).itu.clockValid = s.itu.clockValid ∧
      (closeReceiptNow o s).itu.mono = s.itu.mono ∧ (closeReceiptNow o s).itu.idleInterval = s.itu.idleInterval ∧
      (closeReceiptNow o s).itu.idleSources = s.itu.idleSources ∧
      (closeReceiptNow o s).itu.lines = s.itu.lines ∧ (closeReceiptNow o s).itu.standby = s.itu.standby ∧
      (closeReceiptNow o s).fresh = s.fresh ∧ (closeReceiptNow o s).pending = s.pending := by
  simp only [closeReceiptNow]; (repeat' split) <;> simp

@[simp] theorem closeSettled_frame (s : State) :
    (closeSettled s).mtr.inletComp = s.mtr.inletComp ∧ (closeSettled s).tpi = s.tpi ∧ (closeSettled s).idu = s.idu ∧
      (closeSettled s).mtb = s.mtb ∧ (closeSettled s).bil = s.bil ∧ (closeSettled s).hsc = s.hsc ∧
      (closeSettled s).rcp.fault = s.rcp.fault ∧ (closeSettled s).jnl.cursor = s.jnl.cursor ∧
      (closeSettled s).jnl.nextSeq = s.jnl.nextSeq ∧ (closeSettled s).jnl.deferred = s.jnl.deferred ∧
      (closeSettled s).cal = s.cal ∧ (closeSettled s).itu.inputs = s.itu.inputs ∧
      (closeSettled s).itu.latch = s.itu.latch ∧ (closeSettled s).itu.clock = s.itu.clock ∧
      (closeSettled s).itu.clockValid = s.itu.clockValid ∧ (closeSettled s).itu.mono = s.itu.mono ∧
      (closeSettled s).itu.idleInterval = s.itu.idleInterval ∧ (closeSettled s).itu.idleSources = s.itu.idleSources ∧
      (closeSettled s).itu.lines = s.itu.lines ∧
      (closeSettled s).itu.standby = s.itu.standby ∧ (closeSettled s).fresh = s.fresh ∧
      (closeSettled s).pending = s.pending := by
  simp [closeSettled]

@[simp] theorem setInletFault_frame (kind : FaultKind) (locked : Bool) (volume : Option Nat) (s : State) :
    (setInletFault kind locked volume s).mtr = s.mtr ∧ (setInletFault kind locked volume s).tpi = s.tpi ∧
      (setInletFault kind locked volume s).idu = s.idu ∧ (setInletFault kind locked volume s).mtb = s.mtb ∧
      (setInletFault kind locked volume s).bil = s.bil ∧ (setInletFault kind locked volume s).hsc = s.hsc ∧
      (setInletFault kind locked volume s).stk = s.stk ∧
      (setInletFault kind locked volume s).rcp.receipt = s.rcp.receipt ∧
      (setInletFault kind locked volume s).rcp.shadow = s.rcp.shadow ∧
      (setInletFault kind locked volume s).jnl.cursor = s.jnl.cursor ∧
      (setInletFault kind locked volume s).cal = s.cal ∧ (setInletFault kind locked volume s).itu = s.itu ∧
      (setInletFault kind locked volume s).fresh = s.fresh ∧
      (setInletFault kind locked volume s).pending = s.pending := by
  simp [setInletFault]

@[simp] theorem inletFault_frame (kind : FaultKind) (volume : Option Nat) (s : State) :
    (inletFault kind volume s).mtr.inletComp = s.mtr.inletComp ∧ (inletFault kind volume s).tpi = s.tpi ∧
      (inletFault kind volume s).idu = s.idu ∧ (inletFault kind volume s).mtb = s.mtb ∧
      (inletFault kind volume s).bil = s.bil ∧ (inletFault kind volume s).hsc = s.hsc ∧
      (inletFault kind volume s).jnl.cursor = s.jnl.cursor ∧ (inletFault kind volume s).cal = s.cal ∧
      (inletFault kind volume s).itu.inputs = s.itu.inputs ∧ (inletFault kind volume s).itu.latch = s.itu.latch ∧
      (inletFault kind volume s).itu.clock = s.itu.clock ∧
      (inletFault kind volume s).itu.clockValid = s.itu.clockValid ∧
      (inletFault kind volume s).itu.mono = s.itu.mono ∧
      (inletFault kind volume s).itu.idleInterval = s.itu.idleInterval ∧
      (inletFault kind volume s).itu.idleSources = s.itu.idleSources ∧
      (inletFault kind volume s).itu.lines = s.itu.lines ∧
      (inletFault kind volume s).itu.standby = s.itu.standby ∧ (inletFault kind volume s).fresh = s.fresh ∧
      (inletFault kind volume s).pending = s.pending := by
  unfold inletFault; (repeat' split) <;> simp

@[simp] theorem inletChannel_frame (s : State) :
    (inletChannel s).mtr.inletComp = s.mtr.inletComp ∧ (inletChannel s).tpi = s.tpi ∧ (inletChannel s).idu = s.idu ∧
      (inletChannel s).mtb = s.mtb ∧ (inletChannel s).bil = s.bil ∧ (inletChannel s).hsc = s.hsc ∧
      (inletChannel s).jnl.cursor = s.jnl.cursor ∧ (inletChannel s).cal = s.cal ∧
      (inletChannel s).itu.inputs = s.itu.inputs ∧ (inletChannel s).itu.latch = s.itu.latch ∧
      (inletChannel s).itu.clock = s.itu.clock ∧ (inletChannel s).itu.clockValid = s.itu.clockValid ∧
      (inletChannel s).itu.mono = s.itu.mono ∧ (inletChannel s).itu.idleInterval = s.itu.idleInterval ∧
      (inletChannel s).itu.idleSources = s.itu.idleSources ∧
      (inletChannel s).itu.lines = s.itu.lines ∧ (inletChannel s).itu.standby = s.itu.standby ∧
      (inletChannel s).fresh = s.fresh ∧ (inletChannel s).pending = s.pending := by
  unfold inletChannel; (repeat' split) <;> simp

@[simp] theorem inletLeak_frame (volume : Nat) (s : State) :
    (inletLeak volume s).mtr.inletComp = s.mtr.inletComp ∧ (inletLeak volume s).tpi = s.tpi ∧
      (inletLeak volume s).idu = s.idu ∧ (inletLeak volume s).mtb = s.mtb ∧ (inletLeak volume s).bil = s.bil ∧
      (inletLeak volume s).hsc = s.hsc ∧ (inletLeak volume s).jnl.cursor = s.jnl.cursor ∧
      (inletLeak volume s).cal = s.cal ∧ (inletLeak volume s).itu.inputs = s.itu.inputs ∧
      (inletLeak volume s).itu.latch = s.itu.latch ∧ (inletLeak volume s).itu.clock = s.itu.clock ∧
      (inletLeak volume s).itu.clockValid = s.itu.clockValid ∧ (inletLeak volume s).itu.mono = s.itu.mono ∧
      (inletLeak volume s).itu.idleInterval = s.itu.idleInterval ∧
      (inletLeak volume s).itu.idleSources = s.itu.idleSources ∧
      (inletLeak volume s).itu.lines = s.itu.lines ∧ (inletLeak volume s).itu.standby = s.itu.standby ∧
      (inletLeak volume s).fresh = s.fresh ∧ (inletLeak volume s).pending = s.pending := by
  unfold inletLeak; (repeat' split) <;> simp

@[simp] theorem receiptCount_frame (pulses gross : Nat) (s : State) :
    (receiptCount pulses gross s).mtr = s.mtr ∧ (receiptCount pulses gross s).tpi = s.tpi ∧
      (receiptCount pulses gross s).idu = s.idu ∧ (receiptCount pulses gross s).mtb = s.mtb ∧
      (receiptCount pulses gross s).bil = s.bil ∧ (receiptCount pulses gross s).hsc = s.hsc ∧
      (receiptCount pulses gross s).stk = s.stk ∧ (receiptCount pulses gross s).rcp.fault = s.rcp.fault ∧
      (receiptCount pulses gross s).jnl = s.jnl ∧ (receiptCount pulses gross s).cal = s.cal ∧
      (receiptCount pulses gross s).itu.inputs = s.itu.inputs ∧
      (receiptCount pulses gross s).itu.latch = s.itu.latch ∧ (receiptCount pulses gross s).itu.clock = s.itu.clock ∧
      (receiptCount pulses gross s).itu.clockValid = s.itu.clockValid ∧
      (receiptCount pulses gross s).itu.mono = s.itu.mono ∧
      (receiptCount pulses gross s).itu.idleInterval = s.itu.idleInterval ∧
      (receiptCount pulses gross s).itu.idleSources = s.itu.idleSources ∧
      (receiptCount pulses gross s).itu.lines = s.itu.lines ∧
      (receiptCount pulses gross s).itu.standby = s.itu.standby ∧ (receiptCount pulses gross s).fresh = s.fresh ∧
      (receiptCount pulses gross s).pending = s.pending := by
  simp only [receiptCount]; (repeat' split) <;> simp

@[simp] theorem loseBond_frame (s : State) :
    (loseBond s).mtr = s.mtr ∧ (loseBond s).tpi = s.tpi ∧ (loseBond s).idu = s.idu ∧ (loseBond s).mtb = s.mtb ∧
      (loseBond s).bil = s.bil ∧ (loseBond s).hsc = s.hsc ∧ (loseBond s).stk = s.stk ∧
      (loseBond s).rcp.fault = s.rcp.fault ∧ (loseBond s).jnl = s.jnl ∧ (loseBond s).cal = s.cal ∧
      (loseBond s).itu.inputs = s.itu.inputs ∧ (loseBond s).itu.latch = s.itu.latch ∧
      (loseBond s).itu.clock = s.itu.clock ∧ (loseBond s).itu.clockValid = s.itu.clockValid ∧
      (loseBond s).itu.mono = s.itu.mono ∧ (loseBond s).itu.idleInterval = s.itu.idleInterval ∧
      (loseBond s).itu.idleSources = s.itu.idleSources ∧
      (loseBond s).itu.lines = s.itu.lines ∧ (loseBond s).itu.standby = s.itu.standby ∧
      (loseBond s).fresh = s.fresh ∧ (loseBond s).pending = s.pending := by
  unfold loseBond; (repeat' split) <;> simp

@[simp] theorem regainBond_frame (s : State) :
    (regainBond s).mtr = s.mtr ∧ (regainBond s).tpi = s.tpi ∧ (regainBond s).idu = s.idu ∧
      (regainBond s).mtb = s.mtb ∧ (regainBond s).bil = s.bil ∧ (regainBond s).hsc = s.hsc ∧
      (regainBond s).stk = s.stk ∧ (regainBond s).rcp.fault = s.rcp.fault ∧ (regainBond s).jnl = s.jnl ∧
      (regainBond s).cal = s.cal ∧ (regainBond s).itu.inputs = s.itu.inputs ∧
      (regainBond s).itu.latch = s.itu.latch ∧ (regainBond s).itu.clock = s.itu.clock ∧
      (regainBond s).itu.clockValid = s.itu.clockValid ∧ (regainBond s).itu.mono = s.itu.mono ∧
      (regainBond s).itu.idleInterval = s.itu.idleInterval ∧ (regainBond s).itu.idleSources = s.itu.idleSources ∧
      (regainBond s).itu.lines = s.itu.lines ∧
      (regainBond s).itu.standby = s.itu.standby ∧ (regainBond s).fresh = s.fresh ∧
      (regainBond s).pending = s.pending := by
  unfold regainBond; (repeat' split) <;> simp

@[simp] theorem interruptReceipt_frame (s : State) :
    (interruptReceipt s).mtr.inletComp = s.mtr.inletComp ∧ (interruptReceipt s).tpi = s.tpi ∧
      (interruptReceipt s).idu = s.idu ∧ (interruptReceipt s).mtb = s.mtb ∧ (interruptReceipt s).bil = s.bil ∧
      (interruptReceipt s).hsc = s.hsc ∧ (interruptReceipt s).rcp.fault = s.rcp.fault ∧
      (interruptReceipt s).jnl.cursor = s.jnl.cursor ∧ (interruptReceipt s).jnl.nextSeq = s.jnl.nextSeq ∧
      (interruptReceipt s).jnl.deferred = s.jnl.deferred ∧ (interruptReceipt s).cal = s.cal ∧
      (interruptReceipt s).itu.inputs = s.itu.inputs ∧ (interruptReceipt s).itu.latch = s.itu.latch ∧
      (interruptReceipt s).itu.clock = s.itu.clock ∧ (interruptReceipt s).itu.clockValid = s.itu.clockValid ∧
      (interruptReceipt s).itu.mono = s.itu.mono ∧ (interruptReceipt s).itu.idleInterval = s.itu.idleInterval ∧
      (interruptReceipt s).itu.idleSources = s.itu.idleSources ∧
      (interruptReceipt s).itu.lines = s.itu.lines ∧ (interruptReceipt s).itu.standby = s.itu.standby ∧
      (interruptReceipt s).fresh = s.fresh ∧ (interruptReceipt s).pending = s.pending := by
  unfold interruptReceipt; (repeat' split) <;> simp

@[simp] theorem startupReceipt_frame (s : State) :
    (startupReceipt s).mtr.inletComp = s.mtr.inletComp ∧ (startupReceipt s).tpi = s.tpi ∧
      (startupReceipt s).idu = s.idu ∧ (startupReceipt s).mtb = s.mtb ∧ (startupReceipt s).bil = s.bil ∧
      (startupReceipt s).hsc = s.hsc ∧ (startupReceipt s).rcp.receipt = s.rcp.receipt ∧
      (startupReceipt s).rcp.fault = s.rcp.fault ∧ (startupReceipt s).jnl.cursor = s.jnl.cursor ∧
      (startupReceipt s).jnl.nextSeq = s.jnl.nextSeq ∧ (startupReceipt s).jnl.deferred = s.jnl.deferred ∧
      (startupReceipt s).cal = s.cal ∧ (startupReceipt s).itu = s.itu ∧ (startupReceipt s).fresh = s.fresh ∧
      (startupReceipt s).pending = s.pending := by
  simp only [startupReceipt]; (repeat' split) <;> simp

@[simp] theorem endReconcile_frame (c : Comp) (k : ReconcileCtx) (o : ReconcileOutcome) (figures : Option DipFigures) (high : Bool) (s : State) :
    (endReconcile c k o figures high s).mtr = s.mtr ∧
      (endReconcile c k o figures high s).tpi.sensors = s.tpi.sensors ∧
      (endReconcile c k o figures high s).tpi.probes = s.tpi.probes ∧
      (endReconcile c k o figures high s).idu = s.idu ∧ (endReconcile c k o figures high s).mtb = s.mtb ∧
      (endReconcile c k o figures high s).bil = s.bil ∧ (endReconcile c k o figures high s).hsc = s.hsc ∧
      (endReconcile c k o figures high s).rcp = s.rcp ∧
      (endReconcile c k o figures high s).jnl.cursor = s.jnl.cursor ∧
      (endReconcile c k o figures high s).jnl.nextSeq = s.jnl.nextSeq ∧
      (endReconcile c k o figures high s).jnl.deferred = s.jnl.deferred ∧
      (endReconcile c k o figures high s).cal = s.cal ∧ (endReconcile c k o figures high s).itu = s.itu ∧
      (endReconcile c k o figures high s).fresh = s.fresh ∧
      (endReconcile c k o figures high s).pending = s.pending := by
  simp [endReconcile]

@[simp] theorem abortReconcile_frame (c : Comp) (o : ReconcileOutcome) (s : State) :
    (abortReconcile c o s).mtr = s.mtr ∧ (abortReconcile c o s).tpi.sensors = s.tpi.sensors ∧
      (abortReconcile c o s).tpi.probes = s.tpi.probes ∧ (abortReconcile c o s).idu = s.idu ∧
      (abortReconcile c o s).mtb = s.mtb ∧ (abortReconcile c o s).bil = s.bil ∧ (abortReconcile c o s).hsc = s.hsc ∧
      (abortReconcile c o s).rcp = s.rcp ∧ (abortReconcile c o s).jnl.cursor = s.jnl.cursor ∧
      (abortReconcile c o s).jnl.nextSeq = s.jnl.nextSeq ∧ (abortReconcile c o s).jnl.deferred = s.jnl.deferred ∧
      (abortReconcile c o s).cal = s.cal ∧ (abortReconcile c o s).itu = s.itu ∧
      (abortReconcile c o s).fresh = s.fresh ∧ (abortReconcile c o s).pending = s.pending := by
  unfold abortReconcile; (repeat' split) <;> simp

@[simp] theorem completeReconcile_frame (c : Comp) (k : ReconcileCtx) (s : State) :
    (completeReconcile c k s).mtr = s.mtr ∧ (completeReconcile c k s).tpi.sensors = s.tpi.sensors ∧
      (completeReconcile c k s).tpi.probes = s.tpi.probes ∧ (completeReconcile c k s).idu = s.idu ∧
      (completeReconcile c k s).mtb = s.mtb ∧ (completeReconcile c k s).bil = s.bil ∧
      (completeReconcile c k s).hsc = s.hsc ∧ (completeReconcile c k s).rcp = s.rcp ∧
      (completeReconcile c k s).jnl.cursor = s.jnl.cursor ∧ (completeReconcile c k s).jnl.nextSeq = s.jnl.nextSeq ∧
      (completeReconcile c k s).jnl.deferred = s.jnl.deferred ∧ (completeReconcile c k s).cal = s.cal ∧
      (completeReconcile c k s).itu = s.itu ∧ (completeReconcile c k s).fresh = s.fresh ∧
      (completeReconcile c k s).pending = s.pending := by
  unfold completeReconcile; (repeat' split) <;> simp

@[simp] theorem addReading_frame (c : Comp) (level : Nat) (temp : Int) (s : State) :
    (addReading c level temp s).mtr = s.mtr ∧ (addReading c level temp s).tpi.sensors = s.tpi.sensors ∧
      (addReading c level temp s).tpi.probes = s.tpi.probes ∧ (addReading c level temp s).idu = s.idu ∧
      (addReading c level temp s).mtb = s.mtb ∧ (addReading c level temp s).bil = s.bil ∧
      (addReading c level temp s).hsc = s.hsc ∧ (addReading c level temp s).rcp = s.rcp ∧
      (addReading c level temp s).jnl.cursor = s.jnl.cursor ∧
      (addReading c level temp s).jnl.nextSeq = s.jnl.nextSeq ∧
      (addReading c level temp s).jnl.deferred = s.jnl.deferred ∧ (addReading c level temp s).cal = s.cal ∧
      (addReading c level temp s).itu = s.itu ∧ (addReading c level temp s).fresh = s.fresh ∧
      (addReading c level temp s).pending = s.pending := by
  simp only [addReading]; (repeat' split) <;> simp

@[simp] theorem probeLost_frame (c : Comp) (s : State) :
    (probeLost c s).mtr.inletComp = s.mtr.inletComp ∧ (probeLost c s).tpi.sensors = s.tpi.sensors ∧
      (probeLost c s).idu = s.idu ∧ (probeLost c s).mtb = s.mtb ∧ (probeLost c s).bil = s.bil ∧
      (probeLost c s).hsc = s.hsc ∧ (probeLost c s).jnl.cursor = s.jnl.cursor ∧ (probeLost c s).cal = s.cal ∧
      (probeLost c s).itu.inputs = s.itu.inputs ∧ (probeLost c s).itu.latch = s.itu.latch ∧
      (probeLost c s).itu.clock = s.itu.clock ∧ (probeLost c s).itu.clockValid = s.itu.clockValid ∧
      (probeLost c s).itu.mono = s.itu.mono ∧ (probeLost c s).itu.idleInterval = s.itu.idleInterval ∧
      (probeLost c s).itu.idleSources = s.itu.idleSources ∧
      (probeLost c s).itu.lines = s.itu.lines ∧ (probeLost c s).itu.standby = s.itu.standby ∧
      (probeLost c s).fresh = s.fresh ∧ (probeLost c s).pending = s.pending := by
  simp only [probeLost]; (repeat' split) <;> simp

@[simp] theorem startupReconcile_frame (r : Record) (s : State) :
    (startupReconcile r s).mtr = s.mtr ∧ (startupReconcile r s).tpi = s.tpi ∧ (startupReconcile r s).idu = s.idu ∧
      (startupReconcile r s).mtb = s.mtb ∧ (startupReconcile r s).bil = s.bil ∧ (startupReconcile r s).hsc = s.hsc ∧
      (startupReconcile r s).stk = s.stk ∧ (startupReconcile r s).rcp = s.rcp ∧
      (startupReconcile r s).jnl.cursor = s.jnl.cursor ∧ (startupReconcile r s).jnl.nextSeq = s.jnl.nextSeq ∧
      (startupReconcile r s).jnl.deferred = s.jnl.deferred ∧ (startupReconcile r s).cal = s.cal ∧
      (startupReconcile r s).itu = s.itu ∧ (startupReconcile r s).fresh = s.fresh ∧
      (startupReconcile r s).pending = s.pending := by
  unfold startupReconcile; (repeat' split) <;> simp

@[simp] theorem startupReconciles_frame (s : State) :
    (startupReconciles s).mtr = s.mtr ∧ (startupReconciles s).tpi = s.tpi ∧ (startupReconciles s).idu = s.idu ∧
      (startupReconciles s).mtb = s.mtb ∧ (startupReconciles s).bil = s.bil ∧ (startupReconciles s).hsc = s.hsc ∧
      (startupReconciles s).stk = s.stk ∧ (startupReconciles s).rcp = s.rcp ∧
      (startupReconciles s).jnl.cursor = s.jnl.cursor ∧ (startupReconciles s).jnl.nextSeq = s.jnl.nextSeq ∧
      (startupReconciles s).jnl.deferred = s.jnl.deferred ∧ (startupReconciles s).cal = s.cal ∧
      (startupReconciles s).itu = s.itu ∧ (startupReconciles s).fresh = s.fresh ∧
      (startupReconciles s).pending = s.pending := by
  unfold startupReconciles
  generalize s.jnl.ring = l
  induction l generalizing s with
  | nil => simp
  | cons r l ih => simpa using ih (startupReconcile r s)

@[simp] theorem sendCount_frame (m : MeterId) (pulses gross : Nat) (s : State) :
    (sendCount m pulses gross s).mtr.inletComp = s.mtr.inletComp ∧ (sendCount m pulses gross s).tpi = s.tpi ∧
      (sendCount m pulses gross s).idu.templates = s.idu.templates ∧
      (sendCount m pulses gross s).idu.confirmCount = s.idu.confirmCount ∧
      (sendCount m pulses gross s).mtb.openSite = s.mtb.openSite ∧
      (sendCount m pulses gross s).mtb.dayStart = s.mtb.dayStart ∧
      (sendCount m pulses gross s).mtb.periodDay = s.mtb.periodDay ∧
      (sendCount m pulses gross s).bil.prices = s.bil.prices ∧ (sendCount m pulses gross s).hsc.map = s.hsc.map ∧
      (sendCount m pulses gross s).hsc.params = s.hsc.params ∧
      (sendCount m pulses gross s).hsc.minDelivery = s.hsc.minDelivery ∧
      (sendCount m pulses gross s).hsc.retries = s.hsc.retries ∧
      (sendCount m pulses gross s).rcp.fault = s.rcp.fault ∧ (sendCount m pulses gross s).jnl.cursor = s.jnl.cursor ∧
      (sendCount m pulses gross s).cal.on = s.cal.on ∧ (sendCount m pulses gross s).itu.inputs = s.itu.inputs ∧
      (sendCount m pulses gross s).itu.latch = s.itu.latch ∧ (sendCount m pulses gross s).itu.clock = s.itu.clock ∧
      (sendCount m pulses gross s).itu.clockValid = s.itu.clockValid ∧
      (sendCount m pulses gross s).itu.mono = s.itu.mono ∧
      (sendCount m pulses gross s).itu.idleInterval = s.itu.idleInterval ∧
      (sendCount m pulses gross s).itu.idleSources = s.itu.idleSources ∧
      (sendCount m pulses gross s).itu.lines = s.itu.lines ∧
      (sendCount m pulses gross s).itu.standby = s.itu.standby ∧
      (sendCount m pulses gross s).pending = s.pending := by
  unfold sendCount; (repeat' split) <;> simp

@[simp] theorem sendChannel_frame (m : MeterId) (s : State) :
    (sendChannel m s).mtr.inletComp = s.mtr.inletComp ∧ (sendChannel m s).tpi = s.tpi ∧
      (sendChannel m s).idu.templates = s.idu.templates ∧ (sendChannel m s).idu.confirmCount = s.idu.confirmCount ∧
      (sendChannel m s).mtb.openSite = s.mtb.openSite ∧ (sendChannel m s).mtb.dayStart = s.mtb.dayStart ∧
      (sendChannel m s).mtb.periodDay = s.mtb.periodDay ∧ (sendChannel m s).bil.prices = s.bil.prices ∧
      (sendChannel m s).hsc.map = s.hsc.map ∧ (sendChannel m s).hsc.params = s.hsc.params ∧
      (sendChannel m s).hsc.minDelivery = s.hsc.minDelivery ∧ (sendChannel m s).hsc.retries = s.hsc.retries ∧
      (sendChannel m s).jnl.cursor = s.jnl.cursor ∧ (sendChannel m s).cal.on = s.cal.on ∧
      (sendChannel m s).itu.inputs = s.itu.inputs ∧ (sendChannel m s).itu.latch = s.itu.latch ∧
      (sendChannel m s).itu.clock = s.itu.clock ∧ (sendChannel m s).itu.clockValid = s.itu.clockValid ∧
      (sendChannel m s).itu.mono = s.itu.mono ∧ (sendChannel m s).itu.idleInterval = s.itu.idleInterval ∧
      (sendChannel m s).itu.idleSources = s.itu.idleSources ∧
      (sendChannel m s).itu.lines = s.itu.lines ∧ (sendChannel m s).itu.standby = s.itu.standby ∧
      (sendChannel m s).pending = s.pending := by
  unfold sendChannel; (repeat' split) <;> simp

@[simp] theorem ownedPulse_frame (m : MeterId) (ch : Channel) (other : Bool) (s : State) :
    (ownedPulse m ch other s).mtr.inletComp = s.mtr.inletComp ∧ (ownedPulse m ch other s).tpi = s.tpi ∧
      (ownedPulse m ch other s).idu.templates = s.idu.templates ∧
      (ownedPulse m ch other s).idu.confirmCount = s.idu.confirmCount ∧
      (ownedPulse m ch other s).mtb.openSite = s.mtb.openSite ∧
      (ownedPulse m ch other s).mtb.dayStart = s.mtb.dayStart ∧
      (ownedPulse m ch other s).mtb.periodDay = s.mtb.periodDay ∧
      (ownedPulse m ch other s).bil.prices = s.bil.prices ∧ (ownedPulse m ch other s).hsc.map = s.hsc.map ∧
      (ownedPulse m ch other s).hsc.params = s.hsc.params ∧
      (ownedPulse m ch other s).hsc.minDelivery = s.hsc.minDelivery ∧
      (ownedPulse m ch other s).hsc.retries = s.hsc.retries ∧ (ownedPulse m ch other s).jnl.cursor = s.jnl.cursor ∧
      (ownedPulse m ch other s).cal.on = s.cal.on ∧ (ownedPulse m ch other s).itu.inputs = s.itu.inputs ∧
      (ownedPulse m ch other s).itu.latch = s.itu.latch ∧ (ownedPulse m ch other s).itu.clock = s.itu.clock ∧
      (ownedPulse m ch other s).itu.clockValid = s.itu.clockValid ∧ (ownedPulse m ch other s).itu.mono = s.itu.mono ∧
      (ownedPulse m ch other s).itu.idleInterval = s.itu.idleInterval ∧
      (ownedPulse m ch other s).itu.idleSources = s.itu.idleSources ∧
      (ownedPulse m ch other s).itu.lines = s.itu.lines ∧
      (ownedPulse m ch other s).itu.standby = s.itu.standby ∧ (ownedPulse m ch other s).pending = s.pending := by
  simp only [ownedPulse]; (repeat' split) <;> simp

@[simp] theorem sendLeak_frame (m : MeterId) (c : Comp) (standard : Nat) (s : State) :
    (sendLeak m c standard s).mtr.inletComp = s.mtr.inletComp ∧ (sendLeak m c standard s).tpi = s.tpi ∧
      (sendLeak m c standard s).idu.templates = s.idu.templates ∧
      (sendLeak m c standard s).idu.confirmCount = s.idu.confirmCount ∧
      (sendLeak m c standard s).mtb.openSite = s.mtb.openSite ∧
      (sendLeak m c standard s).mtb.dayStart = s.mtb.dayStart ∧
      (sendLeak m c standard s).mtb.periodDay = s.mtb.periodDay ∧
      (sendLeak m c standard s).bil.prices = s.bil.prices ∧ (sendLeak m c standard s).hsc.map = s.hsc.map ∧
      (sendLeak m c standard s).hsc.params = s.hsc.params ∧
      (sendLeak m c standard s).hsc.minDelivery = s.hsc.minDelivery ∧
      (sendLeak m c standard s).hsc.retries = s.hsc.retries ∧ (sendLeak m c standard s).jnl.cursor = s.jnl.cursor ∧
      (sendLeak m c standard s).cal.on = s.cal.on ∧ (sendLeak m c standard s).itu.inputs = s.itu.inputs ∧
      (sendLeak m c standard s).itu.latch = s.itu.latch ∧ (sendLeak m c standard s).itu.clock = s.itu.clock ∧
      (sendLeak m c standard s).itu.clockValid = s.itu.clockValid ∧ (sendLeak m c standard s).itu.mono = s.itu.mono ∧
      (sendLeak m c standard s).itu.idleInterval = s.itu.idleInterval ∧
      (sendLeak m c standard s).itu.idleSources = s.itu.idleSources ∧
      (sendLeak m c standard s).itu.lines = s.itu.lines ∧
      (sendLeak m c standard s).itu.standby = s.itu.standby ∧ (sendLeak m c standard s).pending = s.pending := by
  unfold sendLeak; (repeat' split) <;> simp

@[simp] theorem reportLeak_frame (m : MeterId) (s : State) :
    (reportLeak m s).mtr.inletComp = s.mtr.inletComp ∧ (reportLeak m s).tpi = s.tpi ∧
      (reportLeak m s).idu.templates = s.idu.templates ∧ (reportLeak m s).idu.confirmCount = s.idu.confirmCount ∧
      (reportLeak m s).mtb.openSite = s.mtb.openSite ∧ (reportLeak m s).mtb.dayStart = s.mtb.dayStart ∧
      (reportLeak m s).mtb.periodDay = s.mtb.periodDay ∧ (reportLeak m s).bil.prices = s.bil.prices ∧
      (reportLeak m s).hsc.map = s.hsc.map ∧ (reportLeak m s).hsc.params = s.hsc.params ∧
      (reportLeak m s).hsc.minDelivery = s.hsc.minDelivery ∧ (reportLeak m s).hsc.retries = s.hsc.retries ∧
      (reportLeak m s).jnl.cursor = s.jnl.cursor ∧ (reportLeak m s).cal.on = s.cal.on ∧
      (reportLeak m s).itu.inputs = s.itu.inputs ∧ (reportLeak m s).itu.latch = s.itu.latch ∧
      (reportLeak m s).itu.clock = s.itu.clock ∧ (reportLeak m s).itu.clockValid = s.itu.clockValid ∧
      (reportLeak m s).itu.mono = s.itu.mono ∧ (reportLeak m s).itu.idleInterval = s.itu.idleInterval ∧
      (reportLeak m s).itu.idleSources = s.itu.idleSources ∧
      (reportLeak m s).itu.lines = s.itu.lines ∧ (reportLeak m s).pending = s.pending := by
  simp [reportLeak]

@[simp] theorem unownedPulse_frame (m : MeterId) (ch : Channel) (other : Bool) (s : State) :
    (unownedPulse m ch other s).mtr.inletComp = s.mtr.inletComp ∧ (unownedPulse m ch other s).tpi = s.tpi ∧
      (unownedPulse m ch other s).idu.templates = s.idu.templates ∧
      (unownedPulse m ch other s).idu.confirmCount = s.idu.confirmCount ∧
      (unownedPulse m ch other s).mtb.openSite = s.mtb.openSite ∧
      (unownedPulse m ch other s).mtb.dayStart = s.mtb.dayStart ∧
      (unownedPulse m ch other s).mtb.periodDay = s.mtb.periodDay ∧
      (unownedPulse m ch other s).bil.prices = s.bil.prices ∧ (unownedPulse m ch other s).hsc.map = s.hsc.map ∧
      (unownedPulse m ch other s).hsc.params = s.hsc.params ∧
      (unownedPulse m ch other s).hsc.minDelivery = s.hsc.minDelivery ∧
      (unownedPulse m ch other s).hsc.retries = s.hsc.retries ∧
      (unownedPulse m ch other s).jnl.cursor = s.jnl.cursor ∧ (unownedPulse m ch other s).cal.on = s.cal.on ∧
      (unownedPulse m ch other s).itu.inputs = s.itu.inputs ∧ (unownedPulse m ch other s).itu.latch = s.itu.latch ∧
      (unownedPulse m ch other s).itu.clock = s.itu.clock ∧
      (unownedPulse m ch other s).itu.clockValid = s.itu.clockValid ∧
      (unownedPulse m ch other s).itu.mono = s.itu.mono ∧
      (unownedPulse m ch other s).itu.idleInterval = s.itu.idleInterval ∧
      (unownedPulse m ch other s).itu.idleSources = s.itu.idleSources ∧
      (unownedPulse m ch other s).itu.lines = s.itu.lines ∧
      (unownedPulse m ch other s).pending = s.pending := by
  simp only [unownedPulse]; (repeat' split) <;> simp

@[simp] theorem pulse_frame (m : MeterId) (ch : Channel) (other : Bool) (s : State) :
    (pulse m ch other s).mtr.inletComp = s.mtr.inletComp ∧ (pulse m ch other s).tpi = s.tpi ∧
      (pulse m ch other s).idu.templates = s.idu.templates ∧
      (pulse m ch other s).idu.confirmCount = s.idu.confirmCount ∧
      (pulse m ch other s).mtb.openSite = s.mtb.openSite ∧ (pulse m ch other s).mtb.dayStart = s.mtb.dayStart ∧
      (pulse m ch other s).mtb.periodDay = s.mtb.periodDay ∧ (pulse m ch other s).bil.prices = s.bil.prices ∧
      (pulse m ch other s).hsc.map = s.hsc.map ∧ (pulse m ch other s).hsc.params = s.hsc.params ∧
      (pulse m ch other s).hsc.minDelivery = s.hsc.minDelivery ∧ (pulse m ch other s).hsc.retries = s.hsc.retries ∧
      (pulse m ch other s).jnl.cursor = s.jnl.cursor ∧ (pulse m ch other s).cal.on = s.cal.on ∧
      (pulse m ch other s).itu.inputs = s.itu.inputs ∧ (pulse m ch other s).itu.latch = s.itu.latch ∧
      (pulse m ch other s).itu.clock = s.itu.clock ∧ (pulse m ch other s).itu.clockValid = s.itu.clockValid ∧
      (pulse m ch other s).itu.mono = s.itu.mono ∧ (pulse m ch other s).itu.idleInterval = s.itu.idleInterval ∧
      (pulse m ch other s).itu.idleSources = s.itu.idleSources ∧
      (pulse m ch other s).itu.lines = s.itu.lines ∧ (pulse m ch other s).pending = s.pending := by
  unfold pulse; (repeat' split) <;> simp

@[simp] theorem takeSensor_frame (m : MeterId) (value : Int) (s : State) :
    (takeSensor m value s).mtr = s.mtr ∧ (takeSensor m value s).tpi.probes = s.tpi.probes ∧
      (takeSensor m value s).tpi.reconciles = s.tpi.reconciles ∧
      (takeSensor m value s).tpi.lastReconcile = s.tpi.lastReconcile ∧ (takeSensor m value s).idu = s.idu ∧
      (takeSensor m value s).mtb = s.mtb ∧ (takeSensor m value s).bil = s.bil ∧ (takeSensor m value s).hsc = s.hsc ∧
      (takeSensor m value s).stk = s.stk ∧ (takeSensor m value s).rcp = s.rcp ∧ (takeSensor m value s).jnl = s.jnl ∧
      (takeSensor m value s).cal = s.cal ∧ (takeSensor m value s).itu = s.itu ∧ (takeSensor m value s).prt = s.prt ∧
      (takeSensor m value s).fresh = s.fresh ∧ (takeSensor m value s).pending = s.pending := by
  simp [takeSensor]

@[simp] theorem judgeSensor_frame (m : MeterId) (frame : List Byte) (s : State) :
    (judgeSensor m frame s).mtr = s.mtr ∧ (judgeSensor m frame s).tpi.probes = s.tpi.probes ∧
      (judgeSensor m frame s).tpi.reconciles = s.tpi.reconciles ∧
      (judgeSensor m frame s).tpi.lastReconcile = s.tpi.lastReconcile ∧ (judgeSensor m frame s).idu = s.idu ∧
      (judgeSensor m frame s).mtb = s.mtb ∧ (judgeSensor m frame s).bil = s.bil ∧
      (judgeSensor m frame s).hsc = s.hsc ∧ (judgeSensor m frame s).stk = s.stk ∧
      (judgeSensor m frame s).rcp = s.rcp ∧ (judgeSensor m frame s).jnl = s.jnl ∧
      (judgeSensor m frame s).cal = s.cal ∧ (judgeSensor m frame s).itu = s.itu ∧
      (judgeSensor m frame s).prt = s.prt ∧ (judgeSensor m frame s).fresh = s.fresh ∧
      (judgeSensor m frame s).pending = s.pending := by
  simp only [judgeSensor]; (repeat' split) <;> simp

@[simp] theorem sensorByte_frame (m : MeterId) (b : Byte) (s : State) :
    (sensorByte m b s).mtr = s.mtr ∧ (sensorByte m b s).tpi.probes = s.tpi.probes ∧
      (sensorByte m b s).tpi.reconciles = s.tpi.reconciles ∧
      (sensorByte m b s).tpi.lastReconcile = s.tpi.lastReconcile ∧ (sensorByte m b s).idu = s.idu ∧
      (sensorByte m b s).mtb = s.mtb ∧ (sensorByte m b s).bil = s.bil ∧ (sensorByte m b s).hsc = s.hsc ∧
      (sensorByte m b s).stk = s.stk ∧ (sensorByte m b s).rcp = s.rcp ∧ (sensorByte m b s).jnl = s.jnl ∧
      (sensorByte m b s).cal = s.cal ∧ (sensorByte m b s).itu = s.itu ∧ (sensorByte m b s).prt = s.prt ∧
      (sensorByte m b s).fresh = s.fresh ∧ (sensorByte m b s).pending = s.pending := by
  simp only [sensorByte]; (repeat' split) <;> simp

@[simp] theorem ageSensor_frame (m : MeterId) (s : State) :
    (ageSensor m s).mtr = s.mtr ∧ (ageSensor m s).tpi.probes = s.tpi.probes ∧
      (ageSensor m s).tpi.reconciles = s.tpi.reconciles ∧ (ageSensor m s).tpi.lastReconcile = s.tpi.lastReconcile ∧
      (ageSensor m s).idu = s.idu ∧ (ageSensor m s).mtb = s.mtb ∧ (ageSensor m s).bil = s.bil ∧
      (ageSensor m s).hsc = s.hsc ∧ (ageSensor m s).stk = s.stk ∧ (ageSensor m s).rcp = s.rcp ∧
      (ageSensor m s).jnl = s.jnl ∧ (ageSensor m s).cal = s.cal ∧ (ageSensor m s).itu.inputs = s.itu.inputs ∧
      (ageSensor m s).itu.latch = s.itu.latch ∧ (ageSensor m s).itu.clock = s.itu.clock ∧
      (ageSensor m s).itu.clockValid = s.itu.clockValid ∧ (ageSensor m s).itu.idleInterval = s.itu.idleInterval ∧
      (ageSensor m s).itu.idleSources = s.itu.idleSources ∧
      (ageSensor m s).itu.lines = s.itu.lines ∧ (ageSensor m s).itu.idleDeadline = s.itu.idleDeadline ∧
      (ageSensor m s).itu.standby = s.itu.standby ∧ (ageSensor m s).prt = s.prt ∧ (ageSensor m s).fresh = s.fresh ∧
      (ageSensor m s).pending = s.pending := by
  unfold ageSensor; (repeat' split) <;> simp

@[simp] theorem takeProbe_frame (c : Comp) (level : Nat) (temp : Int) (s : State) :
    (takeProbe c level temp s).mtr.inletComp = s.mtr.inletComp ∧
      (takeProbe c level temp s).tpi.sensors = s.tpi.sensors ∧ (takeProbe c level temp s).idu = s.idu ∧
      (takeProbe c level temp s).mtb = s.mtb ∧ (takeProbe c level temp s).bil = s.bil ∧
      (takeProbe c level temp s).hsc = s.hsc ∧ (takeProbe c level temp s).jnl.cursor = s.jnl.cursor ∧
      (takeProbe c level temp s).cal = s.cal ∧ (takeProbe c level temp s).itu.inputs = s.itu.inputs ∧
      (takeProbe c level temp s).itu.latch = s.itu.latch ∧ (takeProbe c level temp s).itu.clock = s.itu.clock ∧
      (takeProbe c level temp s).itu.clockValid = s.itu.clockValid ∧
      (takeProbe c level temp s).itu.mono = s.itu.mono ∧
      (takeProbe c level temp s).itu.idleInterval = s.itu.idleInterval ∧
      (takeProbe c level temp s).itu.idleSources = s.itu.idleSources ∧
      (takeProbe c level temp s).itu.lines = s.itu.lines ∧
      (takeProbe c level temp s).itu.standby = s.itu.standby ∧ (takeProbe c level temp s).fresh = s.fresh ∧
      (takeProbe c level temp s).pending = s.pending := by
  simp only [takeProbe]; (repeat' split) <;> simp

@[simp] theorem judgeProbe_frame (c : Comp) (frame : List Byte) (s : State) :
    (judgeProbe c frame s).mtr.inletComp = s.mtr.inletComp ∧ (judgeProbe c frame s).tpi.sensors = s.tpi.sensors ∧
      (judgeProbe c frame s).idu = s.idu ∧ (judgeProbe c frame s).mtb = s.mtb ∧ (judgeProbe c frame s).bil = s.bil ∧
      (judgeProbe c frame s).hsc = s.hsc ∧ (judgeProbe c frame s).jnl.cursor = s.jnl.cursor ∧
      (judgeProbe c frame s).cal = s.cal ∧ (judgeProbe c frame s).itu.inputs = s.itu.inputs ∧
      (judgeProbe c frame s).itu.latch = s.itu.latch ∧ (judgeProbe c frame s).itu.clock = s.itu.clock ∧
      (judgeProbe c frame s).itu.clockValid = s.itu.clockValid ∧ (judgeProbe c frame s).itu.mono = s.itu.mono ∧
      (judgeProbe c frame s).itu.idleInterval = s.itu.idleInterval ∧
      (judgeProbe c frame s).itu.idleSources = s.itu.idleSources ∧
      (judgeProbe c frame s).itu.lines = s.itu.lines ∧
      (judgeProbe c frame s).itu.standby = s.itu.standby ∧ (judgeProbe c frame s).fresh = s.fresh ∧
      (judgeProbe c frame s).pending = s.pending := by
  simp only [judgeProbe]; (repeat' split) <;> simp

@[simp] theorem probeByte_frame (c : Comp) (b : Byte) (s : State) :
    (probeByte c b s).mtr.inletComp = s.mtr.inletComp ∧ (probeByte c b s).tpi.sensors = s.tpi.sensors ∧
      (probeByte c b s).idu = s.idu ∧ (probeByte c b s).mtb = s.mtb ∧ (probeByte c b s).bil = s.bil ∧
      (probeByte c b s).hsc = s.hsc ∧ (probeByte c b s).jnl.cursor = s.jnl.cursor ∧ (probeByte c b s).cal = s.cal ∧
      (probeByte c b s).itu.inputs = s.itu.inputs ∧ (probeByte c b s).itu.latch = s.itu.latch ∧
      (probeByte c b s).itu.clock = s.itu.clock ∧ (probeByte c b s).itu.clockValid = s.itu.clockValid ∧
      (probeByte c b s).itu.mono = s.itu.mono ∧ (probeByte c b s).itu.idleInterval = s.itu.idleInterval ∧
      (probeByte c b s).itu.idleSources = s.itu.idleSources ∧
      (probeByte c b s).itu.lines = s.itu.lines ∧ (probeByte c b s).itu.standby = s.itu.standby ∧
      (probeByte c b s).fresh = s.fresh ∧ (probeByte c b s).pending = s.pending := by
  simp only [probeByte]; (repeat' split) <;> simp

@[simp] theorem ageProbe_frame (c : Comp) (s : State) :
    (ageProbe c s).mtr.inletComp = s.mtr.inletComp ∧ (ageProbe c s).tpi.sensors = s.tpi.sensors ∧
      (ageProbe c s).idu = s.idu ∧ (ageProbe c s).mtb = s.mtb ∧ (ageProbe c s).bil = s.bil ∧
      (ageProbe c s).hsc = s.hsc ∧ (ageProbe c s).jnl.cursor = s.jnl.cursor ∧ (ageProbe c s).cal = s.cal ∧
      (ageProbe c s).itu.inputs = s.itu.inputs ∧ (ageProbe c s).itu.latch = s.itu.latch ∧
      (ageProbe c s).itu.clock = s.itu.clock ∧ (ageProbe c s).itu.clockValid = s.itu.clockValid ∧
      (ageProbe c s).itu.idleInterval = s.itu.idleInterval ∧ (ageProbe c s).itu.idleSources = s.itu.idleSources ∧
      (ageProbe c s).itu.lines = s.itu.lines ∧
      (ageProbe c s).itu.standby = s.itu.standby ∧ (ageProbe c s).fresh = s.fresh ∧
      (ageProbe c s).pending = s.pending := by
  unfold ageProbe; (repeat' split) <;> simp

@[simp] theorem sensorGap_frame (m : MeterId) (s : State) :
    (sensorGap m s).mtr = s.mtr ∧ (sensorGap m s).tpi.probes = s.tpi.probes ∧
      (sensorGap m s).tpi.reconciles = s.tpi.reconciles ∧ (sensorGap m s).tpi.lastReconcile = s.tpi.lastReconcile ∧
      (sensorGap m s).idu = s.idu ∧ (sensorGap m s).mtb = s.mtb ∧ (sensorGap m s).bil = s.bil ∧
      (sensorGap m s).hsc = s.hsc ∧ (sensorGap m s).stk = s.stk ∧ (sensorGap m s).rcp = s.rcp ∧
      (sensorGap m s).jnl = s.jnl ∧ (sensorGap m s).cal = s.cal ∧ (sensorGap m s).itu.inputs = s.itu.inputs ∧
      (sensorGap m s).itu.latch = s.itu.latch ∧ (sensorGap m s).itu.clock = s.itu.clock ∧
      (sensorGap m s).itu.clockValid = s.itu.clockValid ∧ (sensorGap m s).itu.idleInterval = s.itu.idleInterval ∧
      (sensorGap m s).itu.idleSources = s.itu.idleSources ∧
      (sensorGap m s).itu.lines = s.itu.lines ∧ (sensorGap m s).itu.idleDeadline = s.itu.idleDeadline ∧
      (sensorGap m s).itu.standby = s.itu.standby ∧ (sensorGap m s).prt = s.prt ∧ (sensorGap m s).fresh = s.fresh ∧
      (sensorGap m s).pending = s.pending := by
  simp only [sensorGap]; (repeat' split) <;> simp

@[simp] theorem probeGap_frame (c : Comp) (s : State) :
    (probeGap c s).mtr = s.mtr ∧ (probeGap c s).tpi.sensors = s.tpi.sensors ∧
      (probeGap c s).tpi.reconciles = s.tpi.reconciles ∧ (probeGap c s).tpi.lastReconcile = s.tpi.lastReconcile ∧
      (probeGap c s).idu = s.idu ∧ (probeGap c s).mtb = s.mtb ∧ (probeGap c s).bil = s.bil ∧
      (probeGap c s).hsc = s.hsc ∧ (probeGap c s).stk = s.stk ∧ (probeGap c s).rcp = s.rcp ∧
      (probeGap c s).jnl = s.jnl ∧ (probeGap c s).cal = s.cal ∧ (probeGap c s).itu.inputs = s.itu.inputs ∧
      (probeGap c s).itu.latch = s.itu.latch ∧ (probeGap c s).itu.clock = s.itu.clock ∧
      (probeGap c s).itu.clockValid = s.itu.clockValid ∧ (probeGap c s).itu.idleInterval = s.itu.idleInterval ∧
      (probeGap c s).itu.idleSources = s.itu.idleSources ∧
      (probeGap c s).itu.lines = s.itu.lines ∧ (probeGap c s).itu.idleDeadline = s.itu.idleDeadline ∧
      (probeGap c s).itu.standby = s.itu.standby ∧ (probeGap c s).prt = s.prt ∧ (probeGap c s).fresh = s.fresh ∧
      (probeGap c s).pending = s.pending := by
  simp only [probeGap]; (repeat' split) <;> simp

/-! ## The receipt context -/

@[simp] theorem enterReceipt_receipt (st : ReceiptState) (s : State) :
    (enterReceipt st s).rcp.receipt = { s.rcp.receipt with state := st } := by
  simp [enterReceipt]

@[simp] theorem receiptTimer_receipt (ms : Nat) (s : State) :
    (receiptTimer ms s).rcp.receipt = { s.rcp.receipt with timer := some (s.itu.mono + ms) } := by
  simp [receiptTimer]

/-- The entry to SETTLING (R146). -/
@[simp] theorem enterSettling_receipt (o : ReceiptOutcome) (s : State) :
    (enterSettling o s).rcp.receipt =
      { s.rcp.receipt with state := .settling, timer := some (s.itu.mono + 20000), outcome := some o } := by
  simp [enterSettling]

/-- A close leaves the receipt IDLE, with nothing in its context (R146). -/
theorem closeReceiptNow_receipt (o : ReceiptOutcome) (s : State) (d : Docket) (hd : s.rcp.receipt.docket = some d) :
    (closeReceiptNow o s).rcp.receipt = {} := by
  simp [closeReceiptNow, hd]

/-- A close leaves MI unowned when the receipt had started (R8). -/
theorem closeReceiptNow_owned (o : ReceiptOutcome) (s : State) (d : Docket) (hd : s.rcp.receipt.docket = some d)
    (hs : s.rcp.receipt.started.isSome = true) : ((closeReceiptNow o s).mtr.meters.get .mi).owned = false := by
  simp [closeReceiptNow, hd, hs, closeMeter]

@[simp] theorem setInletFault_receipt (kind : FaultKind) (locked : Bool) (v : Option Nat) (s : State) :
    (setInletFault kind locked v s).rcp.receipt = s.rcp.receipt := by simp

@[simp] theorem setInletFault_fault (kind : FaultKind) (locked : Bool) (v : Option Nat) (s : State) :
    (setInletFault kind locked v s).rcp.fault = if locked then .locked kind else .halted kind := by
  simp only [setInletFault, raiseIf]
  split <;> simp

/-! ## The strapping volume (R153) -/

/-- A level at the last point of a table is not above it. -/
theorem strapFrom_last (p : StrapPoint) : strapFrom p.level p [] = (p.gross, false) := by simp [strapFrom]

/-- The volume of a level that no following point lies below is no less than the first point's. -/
theorem strapFrom_ge (level : Nat) (p : StrapPoint) (l : List StrapPoint)
    (h : l.Pairwise fun a b => a.gross ≤ b.gross) (hp : ∀ q ∈ l, p.gross ≤ q.gross) :
    p.gross ≤ (strapFrom level p l).1 := by
  induction l generalizing p with
  | nil => simp [strapFrom]
  | cons q rest ih =>
    rw [List.pairwise_cons] at h
    simp only [strapFrom]
    split
    · exact Nat.le_add_right _ _
    · exact (hp q (by simp)).trans (ih q h.2 h.1)

/-! ## Reconciles -/

/-- The end of a reconcile leaves its compartment FREE and without a reconcile (R129, R155). -/
theorem endReconcile_tpi (c : Comp) (k : ReconcileCtx) (o : ReconcileOutcome) (f : Option DipFigures) (high : Bool)
    (s : State) : (endReconcile c k o f high s).tpi.reconciles = s.tpi.reconciles.set c none := by
  simp [endReconcile]

theorem abortReconcile_none (c : Comp) (o : ReconcileOutcome) (s : State) (h : s.tpi.reconciles.get c = none) :
    abortReconcile c o s = s := by
  simp [abortReconcile, h]

/-! ## Counts -/

/-- A count grows by at most one at an arrival, and no other count changes (R4, R5). -/
theorem countPulse_sum (ch : Channel) (other : Bool) (c : Counts) :
    let d := countPulse ch other c
    d.aFwd + d.aRev + d.bFwd + d.bRev ≤ c.aFwd + c.aRev + c.bFwd + c.bRev + 1 := by
  cases ch <;> cases other <;> simp [countPulse, satAdd] <;> omega

/-- The counted pulses are no more than either net count (R5). -/
theorem countedPulses_le (c : Counts) : countedPulses c ≤ netA c ∧ countedPulses c ≤ netB c := by
  simp [countedPulses]

/-- The totals of a meter never fall at an advance (R10). -/
theorem totalise_le (pulses gross : Nat) (m : MeterState) (hp : m.totalPulses ≤ max64) (hg : m.totalGross ≤ max64) :
    m.totalPulses ≤ (totalise pulses gross m).totalPulses ∧ m.totalGross ≤ (totalise pulses gross m).totalGross := by
  simp only [totalise, satAdd]
  omega

end Sys2Proof.Machine
end

