-- ==== Sys2Proof/Laws/Site.lean ====
section
/-! SUPPORT. What the operations of Machine/Site.lean and Machine/Ports.lean leave as it was, and what they do. -/

namespace Sys2Proof.Machine

@[simp] theorem endCalibration_frame (s : State) :
    (endCalibration s).mtr = s.mtr ∧ (endCalibration s).tpi = s.tpi ∧
      (endCalibration s).idu.templates = s.idu.templates ∧ (endCalibration s).idu.confirmCount = s.idu.confirmCount ∧
      (endCalibration s).mtb = s.mtb ∧ (endCalibration s).bil = s.bil ∧
      (endCalibration s).hsc.faults = s.hsc.faults ∧ (endCalibration s).hsc.map = s.hsc.map ∧
      (endCalibration s).hsc.params = s.hsc.params ∧ (endCalibration s).hsc.minDelivery = s.hsc.minDelivery ∧
      (endCalibration s).hsc.retries = s.hsc.retries ∧ (endCalibration s).stk = s.stk ∧
      (endCalibration s).rcp = s.rcp ∧ (endCalibration s).jnl = s.jnl ∧
      (endCalibration s).cal.results = s.cal.results ∧ (endCalibration s).itu = s.itu ∧
      (endCalibration s).fresh = s.fresh ∧ (endCalibration s).pending = s.pending := by
  simp only [endCalibration]; (repeat' split) <;> simp

@[simp] theorem clearLeaks_frame (s : State) :
    (clearLeaks s).mtr.inletComp = s.mtr.inletComp ∧ (clearLeaks s).tpi = s.tpi ∧ (clearLeaks s).idu = s.idu ∧
      (clearLeaks s).mtb = s.mtb ∧ (clearLeaks s).bil = s.bil ∧ (clearLeaks s).hsc = s.hsc ∧
      (clearLeaks s).stk = s.stk ∧ (clearLeaks s).rcp = s.rcp ∧ (clearLeaks s).jnl = s.jnl ∧
      (clearLeaks s).cal = s.cal ∧ (clearLeaks s).itu = s.itu ∧ (clearLeaks s).prt = s.prt ∧
      (clearLeaks s).fresh = s.fresh ∧ (clearLeaks s).pending = s.pending := by
  simp [clearLeaks]

@[simp] theorem emergencyStop_frame (s : State) :
    (emergencyStop s).mtr = s.mtr ∧ (emergencyStop s).tpi = s.tpi ∧
      (emergencyStop s).idu.templates = s.idu.templates ∧ (emergencyStop s).idu.confirmCount = s.idu.confirmCount ∧
      (emergencyStop s).mtb = s.mtb ∧ (emergencyStop s).bil = s.bil ∧ (emergencyStop s).hsc.faults = s.hsc.faults ∧
      (emergencyStop s).hsc.map = s.hsc.map ∧ (emergencyStop s).hsc.params = s.hsc.params ∧
      (emergencyStop s).hsc.minDelivery = s.hsc.minDelivery ∧ (emergencyStop s).hsc.retries = s.hsc.retries ∧
      (emergencyStop s).stk = s.stk ∧ (emergencyStop s).rcp.fault = s.rcp.fault ∧ (emergencyStop s).jnl = s.jnl ∧
      (emergencyStop s).cal = s.cal ∧ (emergencyStop s).itu.inputs = s.itu.inputs ∧
      (emergencyStop s).itu.clock = s.itu.clock ∧ (emergencyStop s).itu.clockValid = s.itu.clockValid ∧
      (emergencyStop s).itu.mono = s.itu.mono ∧ (emergencyStop s).itu.idleInterval = s.itu.idleInterval ∧
      (emergencyStop s).itu.idleSources = s.itu.idleSources ∧
      (emergencyStop s).itu.lines = s.itu.lines ∧ (emergencyStop s).itu.standby = s.itu.standby ∧
      (emergencyStop s).fresh = s.fresh ∧ (emergencyStop s).pending = s.pending := by
  unfold emergencyStop; (repeat' split) <;> simp

@[simp] theorem powerFailStarts_frame (s : State) :
    (powerFailStarts s).mtr.inletComp = s.mtr.inletComp ∧ (powerFailStarts s).tpi.sensors = s.tpi.sensors ∧
      (powerFailStarts s).tpi.probes = s.tpi.probes ∧ (powerFailStarts s).idu.templates = s.idu.templates ∧
      (powerFailStarts s).idu.confirmCount = s.idu.confirmCount ∧ (powerFailStarts s).mtb.openSite = s.mtb.openSite ∧
      (powerFailStarts s).mtb.dayStart = s.mtb.dayStart ∧ (powerFailStarts s).mtb.periodDay = s.mtb.periodDay ∧
      (powerFailStarts s).bil.prices = s.bil.prices ∧ (powerFailStarts s).hsc.faults = s.hsc.faults ∧
      (powerFailStarts s).hsc.map = s.hsc.map ∧ (powerFailStarts s).hsc.params = s.hsc.params ∧
      (powerFailStarts s).hsc.minDelivery = s.hsc.minDelivery ∧ (powerFailStarts s).hsc.retries = s.hsc.retries ∧
      (powerFailStarts s).rcp.fault = s.rcp.fault ∧ (powerFailStarts s).jnl.cursor = s.jnl.cursor ∧
      (powerFailStarts s).jnl.nextSeq = s.jnl.nextSeq ∧ (powerFailStarts s).jnl.deferred = s.jnl.deferred ∧
      (powerFailStarts s).cal.on = s.cal.on ∧ (powerFailStarts s).itu.inputs = s.itu.inputs ∧
      (powerFailStarts s).itu.latch = s.itu.latch ∧ (powerFailStarts s).itu.clock = s.itu.clock ∧
      (powerFailStarts s).itu.clockValid = s.itu.clockValid ∧ (powerFailStarts s).itu.mono = s.itu.mono ∧
      (powerFailStarts s).itu.idleInterval = s.itu.idleInterval ∧
      (powerFailStarts s).itu.idleSources = s.itu.idleSources ∧
      (powerFailStarts s).itu.lines = s.itu.lines ∧ (powerFailStarts s).itu.standby = s.itu.standby ∧
      (powerFailStarts s).pending = s.pending := by
  simp [powerFailStarts]

@[simp] theorem powerFailEnds_frame (s : State) :
    (powerFailEnds s).mtr.inletComp = s.mtr.inletComp ∧ (powerFailEnds s).tpi = s.tpi ∧
      (powerFailEnds s).idu.templates = s.idu.templates ∧ (powerFailEnds s).idu.confirmCount = s.idu.confirmCount ∧
      (powerFailEnds s).mtb = s.mtb ∧ (powerFailEnds s).bil.contractors = s.bil.contractors ∧
      (powerFailEnds s).hsc.faults = s.hsc.faults ∧ (powerFailEnds s).hsc.map = s.hsc.map ∧
      (powerFailEnds s).hsc.params = s.hsc.params ∧ (powerFailEnds s).hsc.minDelivery = s.hsc.minDelivery ∧
      (powerFailEnds s).hsc.retries = s.hsc.retries ∧ (powerFailEnds s).stk = s.stk ∧ (powerFailEnds s).rcp = s.rcp ∧
      (powerFailEnds s).jnl.cursor = s.jnl.cursor ∧ (powerFailEnds s).jnl.deferred = s.jnl.deferred ∧
      (powerFailEnds s).cal.results = s.cal.results ∧ (powerFailEnds s).itu.inputs = s.itu.inputs ∧
      (powerFailEnds s).itu.latch = s.itu.latch ∧ (powerFailEnds s).itu.clock = s.itu.clock ∧
      (powerFailEnds s).itu.clockValid = s.itu.clockValid ∧ (powerFailEnds s).itu.mono = s.itu.mono ∧
      (powerFailEnds s).itu.idleInterval = s.itu.idleInterval ∧
      (powerFailEnds s).itu.idleSources = s.itu.idleSources ∧
      (powerFailEnds s).itu.lines = s.itu.lines ∧ (powerFailEnds s).itu.standby = s.itu.standby ∧
      (powerFailEnds s).fresh = s.fresh ∧ (powerFailEnds s).pending = s.pending := by
  simp only [powerFailEnds]; (repeat' split) <;> simp

@[simp] theorem switchOpens_frame (s : State) :
    (switchOpens s).mtr = s.mtr ∧ (switchOpens s).tpi = s.tpi ∧ (switchOpens s).idu.templates = s.idu.templates ∧
      (switchOpens s).idu.confirmCount = s.idu.confirmCount ∧ (switchOpens s).mtb = s.mtb ∧
      (switchOpens s).bil = s.bil ∧ (switchOpens s).hsc.faults = s.hsc.faults ∧ (switchOpens s).hsc.map = s.hsc.map ∧
      (switchOpens s).hsc.params = s.hsc.params ∧ (switchOpens s).hsc.minDelivery = s.hsc.minDelivery ∧
      (switchOpens s).hsc.retries = s.hsc.retries ∧ (switchOpens s).stk = s.stk ∧ (switchOpens s).rcp = s.rcp ∧
      (switchOpens s).jnl = s.jnl ∧ (switchOpens s).cal.results = s.cal.results ∧ (switchOpens s).itu = s.itu ∧
      (switchOpens s).fresh = s.fresh ∧ (switchOpens s).pending = s.pending := by
  unfold switchOpens; (repeat' split) <;> simp

@[simp] theorem inputEvent_frame (i : Input) (active : Bool) (s : State) :
    (inputEvent i active s).mtr.inletComp = s.mtr.inletComp ∧ (inputEvent i active s).tpi.sensors = s.tpi.sensors ∧
      (inputEvent i active s).tpi.probes = s.tpi.probes ∧ (inputEvent i active s).idu.templates = s.idu.templates ∧
      (inputEvent i active s).idu.confirmCount = s.idu.confirmCount ∧
      (inputEvent i active s).mtb.openSite = s.mtb.openSite ∧ (inputEvent i active s).mtb.dayStart = s.mtb.dayStart ∧
      (inputEvent i active s).mtb.periodDay = s.mtb.periodDay ∧ (inputEvent i active s).hsc.faults = s.hsc.faults ∧
      (inputEvent i active s).hsc.map = s.hsc.map ∧ (inputEvent i active s).hsc.params = s.hsc.params ∧
      (inputEvent i active s).hsc.minDelivery = s.hsc.minDelivery ∧
      (inputEvent i active s).hsc.retries = s.hsc.retries ∧ (inputEvent i active s).rcp.fault = s.rcp.fault ∧
      (inputEvent i active s).jnl.cursor = s.jnl.cursor ∧ (inputEvent i active s).jnl.deferred = s.jnl.deferred ∧
      (inputEvent i active s).itu.inputs = s.itu.inputs ∧ (inputEvent i active s).itu.clock = s.itu.clock ∧
      (inputEvent i active s).itu.clockValid = s.itu.clockValid ∧ (inputEvent i active s).itu.mono = s.itu.mono ∧
      (inputEvent i active s).itu.idleInterval = s.itu.idleInterval ∧
      (inputEvent i active s).itu.idleSources = s.itu.idleSources ∧
      (inputEvent i active s).itu.lines = s.itu.lines ∧ (inputEvent i active s).pending = s.pending := by
  unfold inputEvent; (repeat' split) <;> simp

@[simp] theorem modInput_frame (i : Input) (f : InputState → InputState) (s : State) :
    (modInput i f s).mtr = s.mtr ∧ (modInput i f s).tpi = s.tpi ∧ (modInput i f s).idu = s.idu ∧
      (modInput i f s).mtb = s.mtb ∧ (modInput i f s).bil = s.bil ∧ (modInput i f s).hsc = s.hsc ∧
      (modInput i f s).stk = s.stk ∧ (modInput i f s).rcp = s.rcp ∧ (modInput i f s).jnl = s.jnl ∧
      (modInput i f s).cal = s.cal ∧ (modInput i f s).itu.latch = s.itu.latch ∧
      (modInput i f s).itu.clock = s.itu.clock ∧ (modInput i f s).itu.clockValid = s.itu.clockValid ∧
      (modInput i f s).itu.mono = s.itu.mono ∧ (modInput i f s).itu.idleInterval = s.itu.idleInterval ∧
      (modInput i f s).itu.idleSources = s.itu.idleSources ∧
      (modInput i f s).itu.lines = s.itu.lines ∧ (modInput i f s).itu.idleDeadline = s.itu.idleDeadline ∧
      (modInput i f s).itu.standby = s.itu.standby ∧ (modInput i f s).prt = s.prt ∧
      (modInput i f s).fresh = s.fresh ∧ (modInput i f s).pending = s.pending := by
  simp [modInput]

@[simp] theorem changeInput_frame (i : Input) (active : Bool) (s : State) :
    (changeInput i active s).mtr.inletComp = s.mtr.inletComp ∧ (changeInput i active s).tpi.sensors = s.tpi.sensors ∧
      (changeInput i active s).tpi.probes = s.tpi.probes ∧ (changeInput i active s).idu.templates = s.idu.templates ∧
      (changeInput i active s).idu.confirmCount = s.idu.confirmCount ∧
      (changeInput i active s).mtb.openSite = s.mtb.openSite ∧
      (changeInput i active s).mtb.dayStart = s.mtb.dayStart ∧
      (changeInput i active s).mtb.periodDay = s.mtb.periodDay ∧ (changeInput i active s).hsc.faults = s.hsc.faults ∧
      (changeInput i active s).hsc.map = s.hsc.map ∧ (changeInput i active s).hsc.params = s.hsc.params ∧
      (changeInput i active s).hsc.minDelivery = s.hsc.minDelivery ∧
      (changeInput i active s).hsc.retries = s.hsc.retries ∧ (changeInput i active s).rcp.fault = s.rcp.fault ∧
      (changeInput i active s).jnl.cursor = s.jnl.cursor ∧ (changeInput i active s).jnl.deferred = s.jnl.deferred ∧
      (changeInput i active s).itu.clock = s.itu.clock ∧ (changeInput i active s).itu.clockValid = s.itu.clockValid ∧
      (changeInput i active s).itu.mono = s.itu.mono ∧
      (changeInput i active s).itu.idleInterval = s.itu.idleInterval ∧
      (changeInput i active s).itu.idleSources = s.itu.idleSources ∧
      (changeInput i active s).itu.lines = s.itu.lines ∧
      (changeInput i active s).pending = s.pending := by
  unfold changeInput; (repeat' split) <;> simp

@[simp] theorem driveLine_frame (i : Input) (level : Bool) (s : State) :
    (driveLine i level s).mtr.inletComp = s.mtr.inletComp ∧ (driveLine i level s).tpi.sensors = s.tpi.sensors ∧
      (driveLine i level s).tpi.probes = s.tpi.probes ∧ (driveLine i level s).idu.templates = s.idu.templates ∧
      (driveLine i level s).idu.confirmCount = s.idu.confirmCount ∧
      (driveLine i level s).mtb.openSite = s.mtb.openSite ∧
      (driveLine i level s).mtb.dayStart = s.mtb.dayStart ∧
      (driveLine i level s).mtb.periodDay = s.mtb.periodDay ∧ (driveLine i level s).hsc.faults = s.hsc.faults ∧
      (driveLine i level s).hsc.map = s.hsc.map ∧ (driveLine i level s).hsc.params = s.hsc.params ∧
      (driveLine i level s).hsc.minDelivery = s.hsc.minDelivery ∧
      (driveLine i level s).hsc.retries = s.hsc.retries ∧ (driveLine i level s).rcp.fault = s.rcp.fault ∧
      (driveLine i level s).jnl.cursor = s.jnl.cursor ∧ (driveLine i level s).jnl.deferred = s.jnl.deferred ∧
      (driveLine i level s).itu.clock = s.itu.clock ∧ (driveLine i level s).itu.clockValid = s.itu.clockValid ∧
      (driveLine i level s).itu.mono = s.itu.mono ∧
      (driveLine i level s).itu.idleInterval = s.itu.idleInterval ∧
      (driveLine i level s).itu.idleSources = s.itu.idleSources ∧
      (driveLine i level s).itu.lines = s.itu.lines ∧
      (driveLine i level s).pending = s.pending := by
  simp only [driveLine]; (repeat' split) <;> simp

/-- What a change of a line's level does: nothing where the line is at the level, else the end or the start of the
measurement, or with debounce 0 the event itself (R186). -/
theorem driveLine_eq (i : Input) (level : Bool) (s : State) :
    let x := s.itu.inputs.get i
    (x.level = level → driveLine i level s = s) ∧
    (x.level ≠ level → levelState x.activeLow level = x.active →
      driveLine i level s = modInput i (fun x => { x with level := level, heldAt := none }) s) ∧
    (x.level ≠ level → levelState x.activeLow level ≠ x.active → x.debounce = 0 →
      driveLine i level s = changeInput i (levelState x.activeLow level) s) ∧
    (x.level ≠ level → levelState x.activeLow level ≠ x.active → x.debounce ≠ 0 →
      driveLine i level s =
        modInput i (fun x => { x with level := level, heldAt := some (s.itu.mono + x.debounce) }) s) := by
  refine ⟨fun h => ?_, fun h hn => ?_, fun h hn hd => ?_, fun h hn hd => ?_⟩ <;> simp [driveLine, *]

@[simp] theorem retakeInput_frame (i : Input) (s : State) :
    (retakeInput i s).mtr.inletComp = s.mtr.inletComp ∧ (retakeInput i s).tpi.sensors = s.tpi.sensors ∧
      (retakeInput i s).tpi.probes = s.tpi.probes ∧ (retakeInput i s).idu.templates = s.idu.templates ∧
      (retakeInput i s).idu.confirmCount = s.idu.confirmCount ∧ (retakeInput i s).mtb.openSite = s.mtb.openSite ∧
      (retakeInput i s).mtb.dayStart = s.mtb.dayStart ∧ (retakeInput i s).mtb.periodDay = s.mtb.periodDay ∧
      (retakeInput i s).hsc.faults = s.hsc.faults ∧ (retakeInput i s).hsc.map = s.hsc.map ∧
      (retakeInput i s).hsc.params = s.hsc.params ∧ (retakeInput i s).hsc.minDelivery = s.hsc.minDelivery ∧
      (retakeInput i s).hsc.retries = s.hsc.retries ∧ (retakeInput i s).rcp.fault = s.rcp.fault ∧
      (retakeInput i s).jnl.cursor = s.jnl.cursor ∧ (retakeInput i s).jnl.deferred = s.jnl.deferred ∧
      (retakeInput i s).itu.clock = s.itu.clock ∧ (retakeInput i s).itu.clockValid = s.itu.clockValid ∧
      (retakeInput i s).itu.mono = s.itu.mono ∧ (retakeInput i s).itu.idleInterval = s.itu.idleInterval ∧
      (retakeInput i s).itu.idleSources = s.itu.idleSources ∧
      (retakeInput i s).itu.lines = s.itu.lines ∧ (retakeInput i s).pending = s.pending := by
  simp only [retakeInput]; (repeat' split) <;> simp

@[simp] theorem enterStandbyNow_frame (s : State) :
    (enterStandbyNow s).mtr = s.mtr ∧ (enterStandbyNow s).tpi.reconciles = s.tpi.reconciles ∧
      (enterStandbyNow s).idu.templates = s.idu.templates ∧
      (enterStandbyNow s).idu.confirmCount = s.idu.confirmCount ∧ (enterStandbyNow s).mtb = s.mtb ∧
      (enterStandbyNow s).bil = s.bil ∧ (enterStandbyNow s).hsc = s.hsc ∧ (enterStandbyNow s).stk = s.stk ∧
      (enterStandbyNow s).rcp = s.rcp ∧ (enterStandbyNow s).jnl = s.jnl ∧ (enterStandbyNow s).cal = s.cal ∧
      (enterStandbyNow s).itu.inputs = s.itu.inputs ∧ (enterStandbyNow s).itu.latch = s.itu.latch ∧
      (enterStandbyNow s).itu.clock = s.itu.clock ∧ (enterStandbyNow s).itu.clockValid = s.itu.clockValid ∧
      (enterStandbyNow s).itu.mono = s.itu.mono ∧ (enterStandbyNow s).itu.idleInterval = s.itu.idleInterval ∧
      (enterStandbyNow s).itu.idleSources = s.itu.idleSources ∧
      (enterStandbyNow s).itu.lines = s.itu.lines ∧ (enterStandbyNow s).prt = s.prt ∧
      (enterStandbyNow s).fresh = s.fresh ∧ (enterStandbyNow s).pending = s.pending := by
  simp [enterStandbyNow]

@[simp] theorem setLevels_frame (levels : BitVec 12) (s : State) :
    (setLevels levels s).mtr = s.mtr ∧ (setLevels levels s).tpi = s.tpi ∧ (setLevels levels s).idu = s.idu ∧
      (setLevels levels s).mtb = s.mtb ∧ (setLevels levels s).bil = s.bil ∧ (setLevels levels s).hsc = s.hsc ∧
      (setLevels levels s).stk = s.stk ∧ (setLevels levels s).rcp = s.rcp ∧ (setLevels levels s).jnl = s.jnl ∧
      (setLevels levels s).cal = s.cal ∧ (setLevels levels s).itu.latch = s.itu.latch ∧
      (setLevels levels s).itu.clock = s.itu.clock ∧ (setLevels levels s).itu.clockValid = s.itu.clockValid ∧
      (setLevels levels s).itu.mono = s.itu.mono ∧ (setLevels levels s).itu.idleInterval = s.itu.idleInterval ∧
      (setLevels levels s).itu.idleSources = s.itu.idleSources ∧
      (setLevels levels s).itu.lines = s.itu.lines ∧
      (setLevels levels s).itu.idleDeadline = s.itu.idleDeadline ∧ (setLevels levels s).itu.standby = s.itu.standby ∧
      (setLevels levels s).prt = s.prt ∧ (setLevels levels s).fresh = s.fresh ∧
      (setLevels levels s).pending = s.pending := by
  simp [setLevels, allInputs]

@[simp] theorem takeLevels_frame (s : State) :
    (takeLevels s).mtr = s.mtr ∧ (takeLevels s).tpi = s.tpi ∧ (takeLevels s).idu = s.idu ∧
      (takeLevels s).mtb = s.mtb ∧ (takeLevels s).bil = s.bil ∧ (takeLevels s).hsc = s.hsc ∧
      (takeLevels s).stk = s.stk ∧ (takeLevels s).rcp = s.rcp ∧ (takeLevels s).jnl = s.jnl ∧
      (takeLevels s).cal = s.cal ∧ (takeLevels s).itu.latch = s.itu.latch ∧ (takeLevels s).itu.clock = s.itu.clock ∧
      (takeLevels s).itu.clockValid = s.itu.clockValid ∧ (takeLevels s).itu.mono = s.itu.mono ∧
      (takeLevels s).itu.idleInterval = s.itu.idleInterval ∧ (takeLevels s).itu.idleSources = s.itu.idleSources ∧
      (takeLevels s).itu.lines = s.itu.lines ∧
      (takeLevels s).itu.idleDeadline = s.itu.idleDeadline ∧ (takeLevels s).itu.standby = s.itu.standby ∧
      (takeLevels s).prt = s.prt ∧ (takeLevels s).fresh = s.fresh ∧ (takeLevels s).pending = s.pending := by
  simp [takeLevels, allInputs]

@[simp] theorem volatileReset_frame (s : State) :
    (volatileReset s).mtr.inletComp = s.mtr.inletComp ∧ (volatileReset s).idu.templates = s.idu.templates ∧
      (volatileReset s).idu.confirmCount = s.idu.confirmCount ∧ (volatileReset s).mtb = s.mtb ∧
      (volatileReset s).bil.prices = s.bil.prices ∧ (volatileReset s).hsc.faults = s.hsc.faults ∧
      (volatileReset s).hsc.shadows = s.hsc.shadows ∧ (volatileReset s).hsc.map = s.hsc.map ∧
      (volatileReset s).hsc.params = s.hsc.params ∧ (volatileReset s).hsc.minDelivery = s.hsc.minDelivery ∧
      (volatileReset s).hsc.retries = s.hsc.retries ∧ (volatileReset s).rcp.shadow = s.rcp.shadow ∧
      (volatileReset s).rcp.fault = s.rcp.fault ∧ (volatileReset s).jnl = s.jnl ∧ (volatileReset s).itu = s.itu ∧
      (volatileReset s).fresh = s.fresh ∧ (volatileReset s).pending = s.pending := by
  simp [volatileReset]

@[simp] theorem startUp_frame (clockLost : Bool) (s : State) :
    (startUp clockLost s).mtr.inletComp = s.mtr.inletComp ∧ (startUp clockLost s).tpi = s.tpi ∧
      (startUp clockLost s).idu = s.idu ∧ (startUp clockLost s).mtb.openSite = s.mtb.openSite ∧
      (startUp clockLost s).mtb.dayStart = s.mtb.dayStart ∧ (startUp clockLost s).hsc.hoses = s.hsc.hoses ∧
      (startUp clockLost s).hsc.faults = s.hsc.faults ∧ (startUp clockLost s).hsc.pumps = s.hsc.pumps ∧
      (startUp clockLost s).hsc.map = s.hsc.map ∧ (startUp clockLost s).hsc.params = s.hsc.params ∧
      (startUp clockLost s).hsc.minDelivery = s.hsc.minDelivery ∧ (startUp clockLost s).hsc.retries = s.hsc.retries ∧
      (startUp clockLost s).rcp.receipt = s.rcp.receipt ∧ (startUp clockLost s).rcp.fault = s.rcp.fault ∧
      (startUp clockLost s).jnl.cursor = s.jnl.cursor ∧ (startUp clockLost s).cal = s.cal ∧
      (startUp clockLost s).itu.inputs = s.itu.inputs ∧ (startUp clockLost s).itu.latch = s.itu.latch ∧
      (startUp clockLost s).itu.clock = s.itu.clock ∧ (startUp clockLost s).itu.clockValid = s.itu.clockValid ∧
      (startUp clockLost s).itu.mono = s.itu.mono ∧ (startUp clockLost s).itu.idleInterval = s.itu.idleInterval ∧
      (startUp clockLost s).itu.idleSources = s.itu.idleSources ∧
      (startUp clockLost s).itu.lines = s.itu.lines ∧ (startUp clockLost s).pending = s.pending := by
  unfold startUp
  simp only [forHoses]
  (repeat' split) <;> simp

@[simp] theorem hardwareReset_frame (levels : BitVec 12) (batteryKept : Bool) (downtime : Nat) (s : State) :
    (hardwareReset levels batteryKept downtime s).mtr.inletComp = s.mtr.inletComp ∧
      (hardwareReset levels batteryKept downtime s).idu.templates = s.idu.templates ∧
      (hardwareReset levels batteryKept downtime s).idu.confirmCount = s.idu.confirmCount ∧
      (hardwareReset levels batteryKept downtime s).mtb.openSite = s.mtb.openSite ∧
      (hardwareReset levels batteryKept downtime s).mtb.dayStart = s.mtb.dayStart ∧
      (hardwareReset levels batteryKept downtime s).hsc.faults = s.hsc.faults ∧
      (hardwareReset levels batteryKept downtime s).hsc.map = s.hsc.map ∧
      (hardwareReset levels batteryKept downtime s).hsc.params = s.hsc.params ∧
      (hardwareReset levels batteryKept downtime s).hsc.minDelivery = s.hsc.minDelivery ∧
      (hardwareReset levels batteryKept downtime s).hsc.retries = s.hsc.retries ∧
      (hardwareReset levels batteryKept downtime s).rcp.fault = s.rcp.fault ∧
      (hardwareReset levels batteryKept downtime s).jnl.cursor = s.jnl.cursor ∧
      (hardwareReset levels batteryKept downtime s).itu.idleInterval = s.itu.idleInterval ∧
      (hardwareReset levels batteryKept downtime s).itu.idleSources = s.itu.idleSources ∧
      (hardwareReset levels batteryKept downtime s).itu.lines = s.itu.lines ∧
      (hardwareReset levels batteryKept downtime s).pending = s.pending := by
  simp [hardwareReset]

@[simp] theorem restartNow_frame (s : State) :
    (restartNow s).mtr.inletComp = s.mtr.inletComp ∧ (restartNow s).idu.templates = s.idu.templates ∧
      (restartNow s).idu.confirmCount = s.idu.confirmCount ∧ (restartNow s).mtb.openSite = s.mtb.openSite ∧
      (restartNow s).mtb.dayStart = s.mtb.dayStart ∧ (restartNow s).hsc.faults = s.hsc.faults ∧
      (restartNow s).hsc.map = s.hsc.map ∧ (restartNow s).hsc.params = s.hsc.params ∧
      (restartNow s).hsc.minDelivery = s.hsc.minDelivery ∧ (restartNow s).hsc.retries = s.hsc.retries ∧
      (restartNow s).rcp.fault = s.rcp.fault ∧ (restartNow s).jnl.cursor = s.jnl.cursor ∧
      (restartNow s).itu.latch = s.itu.latch ∧ (restartNow s).itu.clock = s.itu.clock ∧
      (restartNow s).itu.clockValid = s.itu.clockValid ∧ (restartNow s).itu.mono = s.itu.mono ∧
      (restartNow s).itu.idleInterval = s.itu.idleInterval ∧ (restartNow s).itu.idleSources = s.itu.idleSources ∧
      (restartNow s).itu.lines = s.itu.lines ∧
      (restartNow s).pending = s.pending := by
  simp [restartNow]

@[simp] theorem countRefused_frame (p : Port) (s : State) :
    (countRefused p s).mtr = s.mtr ∧ (countRefused p s).tpi = s.tpi ∧ (countRefused p s).idu = s.idu ∧
      (countRefused p s).mtb = s.mtb ∧ (countRefused p s).bil = s.bil ∧ (countRefused p s).hsc = s.hsc ∧
      (countRefused p s).stk = s.stk ∧ (countRefused p s).rcp = s.rcp ∧ (countRefused p s).jnl = s.jnl ∧
      (countRefused p s).cal = s.cal ∧ (countRefused p s).itu = s.itu ∧ (countRefused p s).fresh = s.fresh ∧
      (countRefused p s).pending = s.pending := by
  simp [countRefused]

@[simp] theorem answer_frame (p : Port) (r : Response) (s : State) :
    (answer p r s).mtr = s.mtr ∧ (answer p r s).tpi = s.tpi ∧ (answer p r s).idu = s.idu ∧
      (answer p r s).mtb = s.mtb ∧ (answer p r s).bil = s.bil ∧ (answer p r s).hsc = s.hsc ∧
      (answer p r s).stk = s.stk ∧ (answer p r s).rcp = s.rcp ∧ (answer p r s).jnl = s.jnl ∧
      (answer p r s).cal = s.cal ∧ (answer p r s).itu = s.itu ∧ (answer p r s).fresh = s.fresh ∧
      (answer p r s).pending = s.pending := by
  simp [answer]

@[simp] theorem reloadByRequest_frame (p : Port) (s : State) :
    (reloadByRequest p s).mtr = s.mtr ∧ (reloadByRequest p s).tpi = s.tpi ∧ (reloadByRequest p s).idu = s.idu ∧
      (reloadByRequest p s).mtb = s.mtb ∧ (reloadByRequest p s).bil = s.bil ∧ (reloadByRequest p s).hsc = s.hsc ∧
      (reloadByRequest p s).stk = s.stk ∧ (reloadByRequest p s).rcp = s.rcp ∧ (reloadByRequest p s).jnl = s.jnl ∧
      (reloadByRequest p s).cal = s.cal ∧ (reloadByRequest p s).itu.inputs = s.itu.inputs ∧
      (reloadByRequest p s).itu.latch = s.itu.latch ∧ (reloadByRequest p s).itu.clock = s.itu.clock ∧
      (reloadByRequest p s).itu.clockValid = s.itu.clockValid ∧ (reloadByRequest p s).itu.mono = s.itu.mono ∧
      (reloadByRequest p s).itu.idleInterval = s.itu.idleInterval ∧
      (reloadByRequest p s).itu.idleSources = s.itu.idleSources ∧
      (reloadByRequest p s).itu.lines = s.itu.lines ∧ (reloadByRequest p s).itu.standby = s.itu.standby ∧
      (reloadByRequest p s).prt = s.prt ∧ (reloadByRequest p s).fresh = s.fresh ∧
      (reloadByRequest p s).pending = s.pending := by
  unfold reloadByRequest; (repeat' split) <;> simp

@[simp] theorem readTransfer_frame (p : Port) (count : Nat) (s : State) :
    (readTransfer p count s).mtr = s.mtr ∧ (readTransfer p count s).tpi = s.tpi ∧
      (readTransfer p count s).idu = s.idu ∧ (readTransfer p count s).mtb = s.mtb ∧
      (readTransfer p count s).bil = s.bil ∧ (readTransfer p count s).hsc = s.hsc ∧
      (readTransfer p count s).stk = s.stk ∧ (readTransfer p count s).rcp = s.rcp ∧
      (readTransfer p count s).jnl = s.jnl ∧ (readTransfer p count s).cal = s.cal ∧
      (readTransfer p count s).itu = s.itu ∧ (readTransfer p count s).pending = s.pending := by
  simp only [readTransfer]; (repeat' split) <;> simp

@[simp] theorem finishSending_frame (s : State) :
    (finishSending s).mtr = s.mtr ∧ (finishSending s).tpi = s.tpi ∧ (finishSending s).idu = s.idu ∧
      (finishSending s).mtb = s.mtb ∧ (finishSending s).bil = s.bil ∧ (finishSending s).hsc = s.hsc ∧
      (finishSending s).stk = s.stk ∧ (finishSending s).rcp = s.rcp ∧ (finishSending s).jnl = s.jnl ∧
      (finishSending s).cal = s.cal ∧ (finishSending s).itu = s.itu ∧ (finishSending s).fresh = s.fresh ∧
      (finishSending s).pending = s.pending := by
  unfold finishSending; (repeat' split) <;> simp

/-! ## Ports -/

@[simp] theorem answer_ports (p : Port) (r : Response) (s : State) :
    (answer p r s).prt.ports =
      s.prt.ports.set p { s.prt.ports.get p with phase := .answered, answer := some r } := by
  simp [answer]

@[simp] theorem countRefused_ports (p : Port) (s : State) :
    (countRefused p s).prt.ports =
      s.prt.ports.set p { s.prt.ports.get p with refused := satAdd 255 (s.prt.ports.get p).refused 1 } := by
  simp [countRefused]

@[simp] theorem portReady_wake (s : State) (p : Port) : portReady (wake s) p = portReady s p := by simp [portReady]

@[simp] theorem powerFail_wake (s : State) : powerFail (wake s) = powerFail s := by simp [powerFail, inputActive]

/-- What becomes of a request: turned away as too early, for the power-fail warning or for its port, or executed
(R197, R198). -/
theorem takeRequest_cases (k : ReqKind) (p : Port) (owner : State → State × Response) (s : State) :
    (portReady s p = false ∧ takeRequest k p owner s = countRefused p (wake s)) ∨
    (portReady s p = true ∧ powerFail s = true ∧ takeRequest k p owner s = answer p (plain .powerFail) (wake s)) ∨
    (portReady s p = true ∧ powerFail s = false ∧ permitted k p = false ∧
      takeRequest k p owner s = answer p (plain .notPermitted) (wake s)) ∨
    (portReady s p = true ∧ powerFail s = false ∧ permitted k p = true ∧
      takeRequest k p owner s =
        answer p (owner (wake s)).2 (reloadByRequest p (owner (wake s)).1)) := by
  cases hr : portReady s p <;> cases hp : powerFail s <;> cases hk : permitted k p <;>
    simp [takeRequest, hr, hp, hk]

/-- What holds of a state holds after a request, if waking, answering, counting, reloading and the request's owner
keep it. -/
theorem takeRequest_preserves {P : State → Prop} (k : ReqKind) (p : Port) (owner : State → State × Response)
    (hwake : ∀ s, P s → P (wake s)) (hcount : ∀ s, P s → P (countRefused p s))
    (hanswer : ∀ r s, P s → P (answer p r s)) (hidle : ∀ src s, P s → P (reloadIdle src s))
    (howner : ∀ s, P s → P (owner s).1) (s : State) (h : P s) : P (takeRequest k p owner s) := by
  have hr (s : State) (h : P s) : P (reloadByRequest p s) := by
    unfold reloadByRequest
    split <;> first | exact hidle _ _ h | exact h
  rcases takeRequest_cases k p owner s with ⟨_, e⟩ | ⟨_, _, e⟩ | ⟨_, _, _, e⟩ | ⟨_, _, _, e⟩ <;> rw [e]
  · exact hcount _ (hwake _ h)
  · exact hanswer _ _ (hwake _ h)
  · exact hanswer _ _ (hwake _ h)
  · exact hanswer _ _ (hr _ (howner _ (hwake _ h)))

/-- The bytes of a field are as many as its width. -/
theorem length_natBytes (w v : Nat) : (natBytes w v).length = w := by
  have hb (w v : Nat) : (bigEndian w v).length = w := by induction w generalizing v <;> simp_all [bigEndian]
  unfold natBytes
  split <;> simp [hb]

/-! ## Inputs -/

/-- An input that is in the state already has no event (R186). -/
theorem changeInput_same (i : Input) (b : Bool) (s : State) (h : inputActive s i = b) : changeInput i b s = s := by
  simp [changeInput, h]

/-- An input's change is its event in the state that holds the new level (R186). -/
theorem changeInput_event (i : Input) (b : Bool) (s : State) (h : inputActive s i ≠ b) :
    changeInput i b s =
      inputEvent i b (modInput i (fun x => { x with active := b, level := b != x.activeLow, heldAt := none }) s) := by
  simp [changeInput, h]

end Sys2Proof.Machine
end

