-- ==== Sys2Proof/Laws/Requests.lean ====
section
/-! SUPPORT. What the execution of each request leaves as it was, and the request that each command and each frame carries. -/

namespace Sys2Proof.Machine

@[simp] theorem reqEnterCalibration_frame (s : State) :
    (reqEnterCalibration s).1.mtr = s.mtr ∧ (reqEnterCalibration s).1.tpi = s.tpi ∧
      (reqEnterCalibration s).1.idu = s.idu ∧ (reqEnterCalibration s).1.mtb = s.mtb ∧
      (reqEnterCalibration s).1.bil = s.bil ∧ (reqEnterCalibration s).1.hsc = s.hsc ∧
      (reqEnterCalibration s).1.stk = s.stk ∧ (reqEnterCalibration s).1.rcp = s.rcp ∧
      (reqEnterCalibration s).1.jnl = s.jnl ∧ (reqEnterCalibration s).1.itu = s.itu ∧
      (reqEnterCalibration s).1.fresh = s.fresh ∧ (reqEnterCalibration s).1.pending = s.pending := by
  unfold reqEnterCalibration; (repeat' split) <;> simp

@[simp] theorem reqExitCalibration_frame (s : State) :
    (reqExitCalibration s).1.mtr = s.mtr ∧ (reqExitCalibration s).1.tpi = s.tpi ∧
      (reqExitCalibration s).1.idu.templates = s.idu.templates ∧
      (reqExitCalibration s).1.idu.confirmCount = s.idu.confirmCount ∧ (reqExitCalibration s).1.mtb = s.mtb ∧
      (reqExitCalibration s).1.bil = s.bil ∧ (reqExitCalibration s).1.hsc.faults = s.hsc.faults ∧
      (reqExitCalibration s).1.hsc.map = s.hsc.map ∧ (reqExitCalibration s).1.hsc.params = s.hsc.params ∧
      (reqExitCalibration s).1.hsc.minDelivery = s.hsc.minDelivery ∧
      (reqExitCalibration s).1.hsc.retries = s.hsc.retries ∧ (reqExitCalibration s).1.stk = s.stk ∧
      (reqExitCalibration s).1.rcp = s.rcp ∧ (reqExitCalibration s).1.jnl = s.jnl ∧
      (reqExitCalibration s).1.cal.results = s.cal.results ∧ (reqExitCalibration s).1.itu = s.itu ∧
      (reqExitCalibration s).1.fresh = s.fresh ∧ (reqExitCalibration s).1.pending = s.pending := by
  unfold reqExitCalibration; (repeat' split) <;> simp

@[simp] theorem dropResult_frame (m : MeterId) (s : State) :
    (dropResult m s).mtr = s.mtr ∧ (dropResult m s).tpi = s.tpi ∧ (dropResult m s).idu = s.idu ∧
      (dropResult m s).mtb = s.mtb ∧ (dropResult m s).bil = s.bil ∧ (dropResult m s).hsc = s.hsc ∧
      (dropResult m s).stk = s.stk ∧ (dropResult m s).rcp = s.rcp ∧ (dropResult m s).jnl = s.jnl ∧
      (dropResult m s).cal.on = s.cal.on ∧ (dropResult m s).itu = s.itu ∧ (dropResult m s).prt = s.prt ∧
      (dropResult m s).fresh = s.fresh ∧ (dropResult m s).pending = s.pending := by
  unfold dropResult; (repeat' split) <;> simp

@[simp] theorem setProduct_frame (c : Comp) (code : Nat) (s : State) :
    (setProduct c code s).mtr = s.mtr ∧ (setProduct c code s).tpi = s.tpi ∧ (setProduct c code s).idu = s.idu ∧
      (setProduct c code s).mtb = s.mtb ∧ (setProduct c code s).bil.contractors = s.bil.contractors ∧
      (setProduct c code s).hsc = s.hsc ∧ (setProduct c code s).stk = s.stk ∧ (setProduct c code s).rcp = s.rcp ∧
      (setProduct c code s).jnl = s.jnl ∧ (setProduct c code s).cal = s.cal ∧ (setProduct c code s).itu = s.itu ∧
      (setProduct c code s).fresh = s.fresh ∧ (setProduct c code s).pending = s.pending := by
  unfold setProduct; (repeat' split) <;> simp

@[simp] theorem storeCal_frame (w : CalWrite) (s : State) :
    (storeCal w s).mtr.inletComp = s.mtr.inletComp ∧ (storeCal w s).tpi = s.tpi ∧ (storeCal w s).idu = s.idu ∧
      (storeCal w s).mtb = s.mtb ∧ (storeCal w s).bil.contractors = s.bil.contractors ∧
      (storeCal w s).hsc.hoses = s.hsc.hoses ∧ (storeCal w s).hsc.faults = s.hsc.faults ∧
      (storeCal w s).hsc.shadows = s.hsc.shadows ∧ (storeCal w s).hsc.pumps = s.hsc.pumps ∧
      (storeCal w s).hsc.params = s.hsc.params ∧ (storeCal w s).hsc.minDelivery = s.hsc.minDelivery ∧
      (storeCal w s).hsc.retries = s.hsc.retries ∧ (storeCal w s).rcp = s.rcp ∧ (storeCal w s).jnl = s.jnl ∧
      (storeCal w s).cal.on = s.cal.on ∧ (storeCal w s).itu = s.itu ∧ (storeCal w s).fresh = s.fresh ∧
      (storeCal w s).pending = s.pending := by
  unfold storeCal; (repeat' split) <;> simp

@[simp] theorem reqCalibrationWrite_frame (param subject : Nat) (value : Int) (s : State) :
    (reqCalibrationWrite param subject value s).1.mtr.inletComp = s.mtr.inletComp ∧
      (reqCalibrationWrite param subject value s).1.tpi = s.tpi ∧
      (reqCalibrationWrite param subject value s).1.idu = s.idu ∧
      (reqCalibrationWrite param subject value s).1.mtb = s.mtb ∧
      (reqCalibrationWrite param subject value s).1.bil.contractors = s.bil.contractors ∧
      (reqCalibrationWrite param subject value s).1.hsc.hoses = s.hsc.hoses ∧
      (reqCalibrationWrite param subject value s).1.hsc.faults = s.hsc.faults ∧
      (reqCalibrationWrite param subject value s).1.hsc.shadows = s.hsc.shadows ∧
      (reqCalibrationWrite param subject value s).1.hsc.pumps = s.hsc.pumps ∧
      (reqCalibrationWrite param subject value s).1.hsc.params = s.hsc.params ∧
      (reqCalibrationWrite param subject value s).1.hsc.minDelivery = s.hsc.minDelivery ∧
      (reqCalibrationWrite param subject value s).1.hsc.retries = s.hsc.retries ∧
      (reqCalibrationWrite param subject value s).1.rcp = s.rcp ∧
      (reqCalibrationWrite param subject value s).1.jnl.cursor = s.jnl.cursor ∧
      (reqCalibrationWrite param subject value s).1.jnl.deferred = s.jnl.deferred ∧
      (reqCalibrationWrite param subject value s).1.cal.on = s.cal.on ∧
      (reqCalibrationWrite param subject value s).1.itu = s.itu ∧
      (reqCalibrationWrite param subject value s).1.fresh = s.fresh ∧
      (reqCalibrationWrite param subject value s).1.pending = s.pending := by
  unfold reqCalibrationWrite; (repeat' split) <;> simp

@[simp] theorem reqStrappingWrite_frame (comp : Nat) (points : List StrapPoint) (s : State) :
    (reqStrappingWrite comp points s).1.mtr = s.mtr ∧ (reqStrappingWrite comp points s).1.tpi = s.tpi ∧
      (reqStrappingWrite comp points s).1.idu = s.idu ∧ (reqStrappingWrite comp points s).1.mtb = s.mtb ∧
      (reqStrappingWrite comp points s).1.bil = s.bil ∧ (reqStrappingWrite comp points s).1.hsc = s.hsc ∧
      (reqStrappingWrite comp points s).1.rcp = s.rcp ∧
      (reqStrappingWrite comp points s).1.jnl.cursor = s.jnl.cursor ∧
      (reqStrappingWrite comp points s).1.jnl.deferred = s.jnl.deferred ∧
      (reqStrappingWrite comp points s).1.cal = s.cal ∧ (reqStrappingWrite comp points s).1.itu = s.itu ∧
      (reqStrappingWrite comp points s).1.fresh = s.fresh ∧
      (reqStrappingWrite comp points s).1.pending = s.pending := by
  unfold reqStrappingWrite; (repeat' split) <;> simp

@[simp] theorem reqStockLoad_frame (comp value : Nat) (s : State) :
    (reqStockLoad comp value s).1.mtr = s.mtr ∧ (reqStockLoad comp value s).1.tpi = s.tpi ∧
      (reqStockLoad comp value s).1.idu = s.idu ∧ (reqStockLoad comp value s).1.mtb = s.mtb ∧
      (reqStockLoad comp value s).1.bil = s.bil ∧ (reqStockLoad comp value s).1.hsc = s.hsc ∧
      (reqStockLoad comp value s).1.rcp = s.rcp ∧ (reqStockLoad comp value s).1.jnl.cursor = s.jnl.cursor ∧
      (reqStockLoad comp value s).1.jnl.deferred = s.jnl.deferred ∧ (reqStockLoad comp value s).1.cal = s.cal ∧
      (reqStockLoad comp value s).1.itu = s.itu ∧ (reqStockLoad comp value s).1.fresh = s.fresh ∧
      (reqStockLoad comp value s).1.pending = s.pending := by
  unfold reqStockLoad; (repeat' split) <;> simp

@[simp] theorem proveNow_frame (h : Hose) (target : Nat) (s : State) :
    (proveNow h target s).mtr.inletComp = s.mtr.inletComp ∧ (proveNow h target s).tpi = s.tpi ∧
      (proveNow h target s).idu.templates = s.idu.templates ∧
      (proveNow h target s).idu.confirmCount = s.idu.confirmCount ∧ (proveNow h target s).mtb = s.mtb ∧
      (proveNow h target s).bil = s.bil ∧ (proveNow h target s).hsc.faults = s.hsc.faults ∧
      (proveNow h target s).hsc.map = s.hsc.map ∧ (proveNow h target s).hsc.params = s.hsc.params ∧
      (proveNow h target s).hsc.minDelivery = s.hsc.minDelivery ∧ (proveNow h target s).hsc.retries = s.hsc.retries ∧
      (proveNow h target s).rcp = s.rcp ∧ (proveNow h target s).jnl.cursor = s.jnl.cursor ∧
      (proveNow h target s).jnl.deferred = s.jnl.deferred ∧ (proveNow h target s).cal.on = s.cal.on ∧
      (proveNow h target s).itu = s.itu ∧ (proveNow h target s).fresh = s.fresh ∧
      (proveNow h target s).pending = s.pending := by
  simp [proveNow]

@[simp] theorem reqProveHose_frame (hose target : Nat) (s : State) :
    (reqProveHose hose target s).1.mtr.inletComp = s.mtr.inletComp ∧ (reqProveHose hose target s).1.tpi = s.tpi ∧
      (reqProveHose hose target s).1.idu.templates = s.idu.templates ∧
      (reqProveHose hose target s).1.idu.confirmCount = s.idu.confirmCount ∧
      (reqProveHose hose target s).1.mtb = s.mtb ∧ (reqProveHose hose target s).1.bil = s.bil ∧
      (reqProveHose hose target s).1.hsc.faults = s.hsc.faults ∧ (reqProveHose hose target s).1.hsc.map = s.hsc.map ∧
      (reqProveHose hose target s).1.hsc.params = s.hsc.params ∧
      (reqProveHose hose target s).1.hsc.minDelivery = s.hsc.minDelivery ∧
      (reqProveHose hose target s).1.hsc.retries = s.hsc.retries ∧ (reqProveHose hose target s).1.rcp = s.rcp ∧
      (reqProveHose hose target s).1.jnl.cursor = s.jnl.cursor ∧
      (reqProveHose hose target s).1.jnl.deferred = s.jnl.deferred ∧
      (reqProveHose hose target s).1.cal.on = s.cal.on ∧ (reqProveHose hose target s).1.itu = s.itu ∧
      (reqProveHose hose target s).1.fresh = s.fresh ∧ (reqProveHose hose target s).1.pending = s.pending := by
  unfold reqProveHose; (repeat' split) <;> simp

@[simp] theorem reqApplyProving_frame (meter can : Nat) (s : State) :
    (reqApplyProving meter can s).1.mtr.inletComp = s.mtr.inletComp ∧ (reqApplyProving meter can s).1.tpi = s.tpi ∧
      (reqApplyProving meter can s).1.idu = s.idu ∧ (reqApplyProving meter can s).1.mtb = s.mtb ∧
      (reqApplyProving meter can s).1.bil = s.bil ∧ (reqApplyProving meter can s).1.hsc = s.hsc ∧
      (reqApplyProving meter can s).1.stk = s.stk ∧ (reqApplyProving meter can s).1.rcp = s.rcp ∧
      (reqApplyProving meter can s).1.jnl.cursor = s.jnl.cursor ∧
      (reqApplyProving meter can s).1.jnl.deferred = s.jnl.deferred ∧
      (reqApplyProving meter can s).1.cal.on = s.cal.on ∧ (reqApplyProving meter can s).1.itu = s.itu ∧
      (reqApplyProving meter can s).1.fresh = s.fresh ∧ (reqApplyProving meter can s).1.pending = s.pending := by
  simp only [reqApplyProving]; (repeat' split) <;> simp

@[simp] theorem reqAckEvents_frame (p : Port) (kinds : Nat) (s : State) :
    (reqAckEvents p kinds s).1.mtr = s.mtr ∧ (reqAckEvents p kinds s).1.tpi = s.tpi ∧
      (reqAckEvents p kinds s).1.idu = s.idu ∧ (reqAckEvents p kinds s).1.mtb = s.mtb ∧
      (reqAckEvents p kinds s).1.bil = s.bil ∧ (reqAckEvents p kinds s).1.hsc = s.hsc ∧
      (reqAckEvents p kinds s).1.stk = s.stk ∧ (reqAckEvents p kinds s).1.rcp = s.rcp ∧
      (reqAckEvents p kinds s).1.jnl = s.jnl ∧ (reqAckEvents p kinds s).1.cal = s.cal ∧
      (reqAckEvents p kinds s).1.itu = s.itu ∧ (reqAckEvents p kinds s).1.fresh = s.fresh ∧
      (reqAckEvents p kinds s).1.pending = s.pending := by
  unfold reqAckEvents; (repeat' split) <;> simp

@[simp] theorem reqSetEventMask_frame (p : Port) (kinds : Nat) (s : State) :
    (reqSetEventMask p kinds s).1.mtr = s.mtr ∧ (reqSetEventMask p kinds s).1.tpi = s.tpi ∧
      (reqSetEventMask p kinds s).1.idu = s.idu ∧ (reqSetEventMask p kinds s).1.mtb = s.mtb ∧
      (reqSetEventMask p kinds s).1.bil = s.bil ∧ (reqSetEventMask p kinds s).1.hsc = s.hsc ∧
      (reqSetEventMask p kinds s).1.stk = s.stk ∧ (reqSetEventMask p kinds s).1.rcp = s.rcp ∧
      (reqSetEventMask p kinds s).1.jnl = s.jnl ∧ (reqSetEventMask p kinds s).1.cal = s.cal ∧
      (reqSetEventMask p kinds s).1.itu = s.itu ∧ (reqSetEventMask p kinds s).1.fresh = s.fresh ∧
      (reqSetEventMask p kinds s).1.pending = s.pending := by
  unfold reqSetEventMask; (repeat' split) <;> simp

@[simp] theorem armNow_frame (h : Hose) (operator : Nat) (preset : Option Nat) (s : State) :
    (armNow h operator preset s).mtr = s.mtr ∧ (armNow h operator preset s).tpi = s.tpi ∧
      (armNow h operator preset s).idu.templates = s.idu.templates ∧
      (armNow h operator preset s).idu.confirmCount = s.idu.confirmCount ∧ (armNow h operator preset s).mtb = s.mtb ∧
      (armNow h operator preset s).bil = s.bil ∧ (armNow h operator preset s).hsc.faults = s.hsc.faults ∧
      (armNow h operator preset s).hsc.pumps = s.hsc.pumps ∧ (armNow h operator preset s).hsc.map = s.hsc.map ∧
      (armNow h operator preset s).hsc.params = s.hsc.params ∧
      (armNow h operator preset s).hsc.minDelivery = s.hsc.minDelivery ∧
      (armNow h operator preset s).hsc.retries = s.hsc.retries ∧ (armNow h operator preset s).stk = s.stk ∧
      (armNow h operator preset s).rcp = s.rcp ∧ (armNow h operator preset s).jnl = s.jnl ∧
      (armNow h operator preset s).cal = s.cal ∧ (armNow h operator preset s).itu = s.itu ∧
      (armNow h operator preset s).fresh = s.fresh ∧ (armNow h operator preset s).pending = s.pending := by
  simp [armNow]

@[simp] theorem stopFlow_frame (remote : Bool) (h : Hose) (s : State) :
    (stopFlow remote h s).mtr = s.mtr ∧ (stopFlow remote h s).tpi = s.tpi ∧
      (stopFlow remote h s).idu.templates = s.idu.templates ∧
      (stopFlow remote h s).idu.confirmCount = s.idu.confirmCount ∧ (stopFlow remote h s).mtb = s.mtb ∧
      (stopFlow remote h s).bil = s.bil ∧ (stopFlow remote h s).hsc.faults = s.hsc.faults ∧
      (stopFlow remote h s).hsc.map = s.hsc.map ∧ (stopFlow remote h s).hsc.params = s.hsc.params ∧
      (stopFlow remote h s).hsc.minDelivery = s.hsc.minDelivery ∧ (stopFlow remote h s).hsc.retries = s.hsc.retries ∧
      (stopFlow remote h s).stk = s.stk ∧ (stopFlow remote h s).rcp = s.rcp ∧ (stopFlow remote h s).jnl = s.jnl ∧
      (stopFlow remote h s).cal = s.cal ∧ (stopFlow remote h s).itu = s.itu ∧ (stopFlow remote h s).fresh = s.fresh ∧
      (stopFlow remote h s).pending = s.pending := by
  unfold stopFlow; (repeat' split) <;> simp

@[simp] theorem classOrBusy_frame (s : State) :
    (classOrBusy s).1.mtr = s.mtr ∧ (classOrBusy s).1.tpi = s.tpi ∧ (classOrBusy s).1.idu = s.idu ∧
      (classOrBusy s).1.mtb = s.mtb ∧ (classOrBusy s).1.bil = s.bil ∧ (classOrBusy s).1.hsc = s.hsc ∧
      (classOrBusy s).1.stk = s.stk ∧ (classOrBusy s).1.rcp = s.rcp ∧ (classOrBusy s).1.jnl = s.jnl ∧
      (classOrBusy s).1.cal = s.cal ∧ (classOrBusy s).1.itu = s.itu ∧ (classOrBusy s).1.prt = s.prt ∧
      (classOrBusy s).1.pending = s.pending := by
  simp [classOrBusy]

@[simp] theorem clearHose_frame (h : Hose) (s : State) :
    (clearHose h s).mtr = s.mtr ∧ (clearHose h s).tpi = s.tpi ∧ (clearHose h s).idu.templates = s.idu.templates ∧
      (clearHose h s).idu.confirmCount = s.idu.confirmCount ∧ (clearHose h s).mtb = s.mtb ∧
      (clearHose h s).bil = s.bil ∧ (clearHose h s).hsc.map = s.hsc.map ∧ (clearHose h s).hsc.params = s.hsc.params ∧
      (clearHose h s).hsc.minDelivery = s.hsc.minDelivery ∧ (clearHose h s).hsc.retries = s.hsc.retries ∧
      (clearHose h s).stk = s.stk ∧ (clearHose h s).rcp = s.rcp ∧ (clearHose h s).jnl = s.jnl ∧
      (clearHose h s).cal = s.cal ∧ (clearHose h s).itu = s.itu ∧ (clearHose h s).fresh = s.fresh ∧
      (clearHose h s).pending = s.pending := by
  simp [clearHose]

@[simp] theorem reqDeliverySettingsPut_frame (minDelivery retries : Nat) (s : State) :
    (reqDeliverySettingsPut minDelivery retries s).1.mtr = s.mtr ∧
      (reqDeliverySettingsPut minDelivery retries s).1.tpi = s.tpi ∧
      (reqDeliverySettingsPut minDelivery retries s).1.idu = s.idu ∧
      (reqDeliverySettingsPut minDelivery retries s).1.mtb = s.mtb ∧
      (reqDeliverySettingsPut minDelivery retries s).1.bil = s.bil ∧
      (reqDeliverySettingsPut minDelivery retries s).1.hsc.hoses = s.hsc.hoses ∧
      (reqDeliverySettingsPut minDelivery retries s).1.hsc.faults = s.hsc.faults ∧
      (reqDeliverySettingsPut minDelivery retries s).1.hsc.shadows = s.hsc.shadows ∧
      (reqDeliverySettingsPut minDelivery retries s).1.hsc.pumps = s.hsc.pumps ∧
      (reqDeliverySettingsPut minDelivery retries s).1.hsc.map = s.hsc.map ∧
      (reqDeliverySettingsPut minDelivery retries s).1.hsc.params = s.hsc.params ∧
      (reqDeliverySettingsPut minDelivery retries s).1.stk = s.stk ∧
      (reqDeliverySettingsPut minDelivery retries s).1.rcp = s.rcp ∧
      (reqDeliverySettingsPut minDelivery retries s).1.jnl = s.jnl ∧
      (reqDeliverySettingsPut minDelivery retries s).1.cal = s.cal ∧
      (reqDeliverySettingsPut minDelivery retries s).1.itu = s.itu ∧
      (reqDeliverySettingsPut minDelivery retries s).1.prt = s.prt ∧
      (reqDeliverySettingsPut minDelivery retries s).1.fresh = s.fresh ∧
      (reqDeliverySettingsPut minDelivery retries s).1.pending = s.pending := by
  simp [reqDeliverySettingsPut]

@[simp] theorem reqExportRelease_frame (number : Nat) (s : State) :
    (reqExportRelease number s).1.mtr = s.mtr ∧ (reqExportRelease number s).1.tpi = s.tpi ∧
      (reqExportRelease number s).1.idu = s.idu ∧ (reqExportRelease number s).1.mtb = s.mtb ∧
      (reqExportRelease number s).1.bil.contractors = s.bil.contractors ∧ (reqExportRelease number s).1.hsc = s.hsc ∧
      (reqExportRelease number s).1.stk = s.stk ∧ (reqExportRelease number s).1.rcp = s.rcp ∧
      (reqExportRelease number s).1.cal = s.cal ∧ (reqExportRelease number s).1.itu = s.itu ∧
      (reqExportRelease number s).1.fresh = s.fresh ∧ (reqExportRelease number s).1.pending = s.pending := by
  unfold reqExportRelease; (repeat' split) <;> simp

@[simp] theorem setPriceNow_frame (c : Comp) (price : Nat) (s : State) :
    (setPriceNow c price s).1.mtr = s.mtr ∧ (setPriceNow c price s).1.tpi = s.tpi ∧
      (setPriceNow c price s).1.idu = s.idu ∧ (setPriceNow c price s).1.mtb = s.mtb ∧
      (setPriceNow c price s).1.bil.contractors = s.bil.contractors ∧ (setPriceNow c price s).1.hsc = s.hsc ∧
      (setPriceNow c price s).1.stk = s.stk ∧ (setPriceNow c price s).1.rcp = s.rcp ∧
      (setPriceNow c price s).1.jnl.cursor = s.jnl.cursor ∧ (setPriceNow c price s).1.jnl.deferred = s.jnl.deferred ∧
      (setPriceNow c price s).1.cal = s.cal ∧ (setPriceNow c price s).1.itu = s.itu ∧
      (setPriceNow c price s).1.fresh = s.fresh ∧ (setPriceNow c price s).1.pending = s.pending := by
  unfold setPriceNow; (repeat' split) <;> simp

@[simp] theorem setPending_frame (c : Comp) (price effective : Nat) (s : State) :
    (setPending c price effective s).1.mtr = s.mtr ∧ (setPending c price effective s).1.tpi = s.tpi ∧
      (setPending c price effective s).1.idu = s.idu ∧ (setPending c price effective s).1.mtb = s.mtb ∧
      (setPending c price effective s).1.bil.contractors = s.bil.contractors ∧
      (setPending c price effective s).1.hsc = s.hsc ∧ (setPending c price effective s).1.stk = s.stk ∧
      (setPending c price effective s).1.rcp = s.rcp ∧ (setPending c price effective s).1.jnl = s.jnl ∧
      (setPending c price effective s).1.cal = s.cal ∧ (setPending c price effective s).1.itu = s.itu ∧
      (setPending c price effective s).1.prt = s.prt ∧ (setPending c price effective s).1.fresh = s.fresh ∧
      (setPending c price effective s).1.pending = s.pending := by
  simp [setPending]

@[simp] theorem reqPriceSet_frame (comp product price : Nat) (effective : Option Nat) (s : State) :
    (reqPriceSet comp product price effective s).1.mtr = s.mtr ∧
      (reqPriceSet comp product price effective s).1.tpi = s.tpi ∧
      (reqPriceSet comp product price effective s).1.idu = s.idu ∧
      (reqPriceSet comp product price effective s).1.mtb = s.mtb ∧
      (reqPriceSet comp product price effective s).1.bil.contractors = s.bil.contractors ∧
      (reqPriceSet comp product price effective s).1.hsc = s.hsc ∧
      (reqPriceSet comp product price effective s).1.stk = s.stk ∧
      (reqPriceSet comp product price effective s).1.rcp = s.rcp ∧
      (reqPriceSet comp product price effective s).1.jnl.cursor = s.jnl.cursor ∧
      (reqPriceSet comp product price effective s).1.jnl.deferred = s.jnl.deferred ∧
      (reqPriceSet comp product price effective s).1.cal = s.cal ∧
      (reqPriceSet comp product price effective s).1.itu = s.itu ∧
      (reqPriceSet comp product price effective s).1.fresh = s.fresh ∧
      (reqPriceSet comp product price effective s).1.pending = s.pending := by
  unfold reqPriceSet; (repeat' split) <;> simp

@[simp] theorem reqPricePendingClear_frame (comp : Nat) (s : State) :
    (reqPricePendingClear comp s).1.mtr = s.mtr ∧ (reqPricePendingClear comp s).1.tpi = s.tpi ∧
      (reqPricePendingClear comp s).1.idu = s.idu ∧ (reqPricePendingClear comp s).1.mtb = s.mtb ∧
      (reqPricePendingClear comp s).1.bil.contractors = s.bil.contractors ∧
      (reqPricePendingClear comp s).1.hsc = s.hsc ∧ (reqPricePendingClear comp s).1.stk = s.stk ∧
      (reqPricePendingClear comp s).1.rcp = s.rcp ∧ (reqPricePendingClear comp s).1.jnl = s.jnl ∧
      (reqPricePendingClear comp s).1.cal = s.cal ∧ (reqPricePendingClear comp s).1.itu = s.itu ∧
      (reqPricePendingClear comp s).1.prt = s.prt ∧ (reqPricePendingClear comp s).1.fresh = s.fresh ∧
      (reqPricePendingClear comp s).1.pending = s.pending := by
  unfold reqPricePendingClear; (repeat' split) <;> simp

@[simp] theorem openReceiptNow_frame (c : Comp) (supplier : Nat) (number : List Byte) (expected : Nat) (s : State) :
    (openReceiptNow c supplier number expected s).mtr.meters = s.mtr.meters ∧
      (openReceiptNow c supplier number expected s).tpi = s.tpi ∧
      (openReceiptNow c supplier number expected s).idu = s.idu ∧
      (openReceiptNow c supplier number expected s).mtb = s.mtb ∧
      (openReceiptNow c supplier number expected s).bil = s.bil ∧
      (openReceiptNow c supplier number expected s).hsc = s.hsc ∧
      (openReceiptNow c supplier number expected s).rcp.fault = s.rcp.fault ∧
      (openReceiptNow c supplier number expected s).jnl.cursor = s.jnl.cursor ∧
      (openReceiptNow c supplier number expected s).jnl.deferred = s.jnl.deferred ∧
      (openReceiptNow c supplier number expected s).cal = s.cal ∧
      (openReceiptNow c supplier number expected s).itu.inputs = s.itu.inputs ∧
      (openReceiptNow c supplier number expected s).itu.latch = s.itu.latch ∧
      (openReceiptNow c supplier number expected s).itu.clock = s.itu.clock ∧
      (openReceiptNow c supplier number expected s).itu.clockValid = s.itu.clockValid ∧
      (openReceiptNow c supplier number expected s).itu.mono = s.itu.mono ∧
      (openReceiptNow c supplier number expected s).itu.idleInterval = s.itu.idleInterval ∧
      (openReceiptNow c supplier number expected s).itu.idleSources = s.itu.idleSources ∧
      (openReceiptNow c supplier number expected s).itu.lines = s.itu.lines ∧
      (openReceiptNow c supplier number expected s).itu.standby = s.itu.standby ∧
      (openReceiptNow c supplier number expected s).fresh = s.fresh ∧
      (openReceiptNow c supplier number expected s).pending = s.pending := by
  simp [openReceiptNow]

@[simp] theorem reqOpenReceipt_frame (comp supplier : Nat) (number : List Byte) (expected : Nat) (s : State) :
    (reqOpenReceipt comp supplier number expected s).1.mtr.meters = s.mtr.meters ∧
      (reqOpenReceipt comp supplier number expected s).1.tpi = s.tpi ∧
      (reqOpenReceipt comp supplier number expected s).1.idu = s.idu ∧
      (reqOpenReceipt comp supplier number expected s).1.mtb = s.mtb ∧
      (reqOpenReceipt comp supplier number expected s).1.bil = s.bil ∧
      (reqOpenReceipt comp supplier number expected s).1.hsc = s.hsc ∧
      (reqOpenReceipt comp supplier number expected s).1.rcp.fault = s.rcp.fault ∧
      (reqOpenReceipt comp supplier number expected s).1.jnl.cursor = s.jnl.cursor ∧
      (reqOpenReceipt comp supplier number expected s).1.jnl.deferred = s.jnl.deferred ∧
      (reqOpenReceipt comp supplier number expected s).1.cal = s.cal ∧
      (reqOpenReceipt comp supplier number expected s).1.itu.inputs = s.itu.inputs ∧
      (reqOpenReceipt comp supplier number expected s).1.itu.latch = s.itu.latch ∧
      (reqOpenReceipt comp supplier number expected s).1.itu.clock = s.itu.clock ∧
      (reqOpenReceipt comp supplier number expected s).1.itu.clockValid = s.itu.clockValid ∧
      (reqOpenReceipt comp supplier number expected s).1.itu.mono = s.itu.mono ∧
      (reqOpenReceipt comp supplier number expected s).1.itu.idleInterval = s.itu.idleInterval ∧
      (reqOpenReceipt comp supplier number expected s).1.itu.idleSources = s.itu.idleSources ∧
      (reqOpenReceipt comp supplier number expected s).1.itu.lines = s.itu.lines ∧
      (reqOpenReceipt comp supplier number expected s).1.itu.standby = s.itu.standby ∧
      (reqOpenReceipt comp supplier number expected s).1.fresh = s.fresh ∧
      (reqOpenReceipt comp supplier number expected s).1.pending = s.pending := by
  unfold reqOpenReceipt; (repeat' split) <;> simp

@[simp] theorem startReceiptNow_frame (d : Docket) (x : Started) (s : State) :
    (startReceiptNow d x s).mtr.inletComp = s.mtr.inletComp ∧ (startReceiptNow d x s).tpi = s.tpi ∧
      (startReceiptNow d x s).idu = s.idu ∧ (startReceiptNow d x s).mtb = s.mtb ∧
      (startReceiptNow d x s).bil = s.bil ∧ (startReceiptNow d x s).hsc = s.hsc ∧
      (startReceiptNow d x s).stk = s.stk ∧ (startReceiptNow d x s).rcp.fault = s.rcp.fault ∧
      (startReceiptNow d x s).jnl.cursor = s.jnl.cursor ∧ (startReceiptNow d x s).jnl.nextSeq = s.jnl.nextSeq ∧
      (startReceiptNow d x s).jnl.deferred = s.jnl.deferred ∧ (startReceiptNow d x s).cal = s.cal ∧
      (startReceiptNow d x s).itu.inputs = s.itu.inputs ∧ (startReceiptNow d x s).itu.latch = s.itu.latch ∧
      (startReceiptNow d x s).itu.clock = s.itu.clock ∧ (startReceiptNow d x s).itu.clockValid = s.itu.clockValid ∧
      (startReceiptNow d x s).itu.mono = s.itu.mono ∧ (startReceiptNow d x s).itu.idleInterval = s.itu.idleInterval ∧
      (startReceiptNow d x s).itu.idleSources = s.itu.idleSources ∧
      (startReceiptNow d x s).itu.lines = s.itu.lines ∧
      (startReceiptNow d x s).itu.standby = s.itu.standby ∧ (startReceiptNow d x s).fresh = s.fresh ∧
      (startReceiptNow d x s).pending = s.pending := by
  simp [startReceiptNow]

@[simp] theorem reqStartReceipt_frame (s : State) :
    (reqStartReceipt s).1.mtr.inletComp = s.mtr.inletComp ∧ (reqStartReceipt s).1.tpi = s.tpi ∧
      (reqStartReceipt s).1.idu = s.idu ∧ (reqStartReceipt s).1.mtb = s.mtb ∧ (reqStartReceipt s).1.bil = s.bil ∧
      (reqStartReceipt s).1.hsc = s.hsc ∧ (reqStartReceipt s).1.stk = s.stk ∧
      (reqStartReceipt s).1.rcp.fault = s.rcp.fault ∧ (reqStartReceipt s).1.jnl.cursor = s.jnl.cursor ∧
      (reqStartReceipt s).1.jnl.nextSeq = s.jnl.nextSeq ∧ (reqStartReceipt s).1.jnl.deferred = s.jnl.deferred ∧
      (reqStartReceipt s).1.cal = s.cal ∧ (reqStartReceipt s).1.itu.inputs = s.itu.inputs ∧
      (reqStartReceipt s).1.itu.latch = s.itu.latch ∧ (reqStartReceipt s).1.itu.clock = s.itu.clock ∧
      (reqStartReceipt s).1.itu.clockValid = s.itu.clockValid ∧ (reqStartReceipt s).1.itu.mono = s.itu.mono ∧
      (reqStartReceipt s).1.itu.idleInterval = s.itu.idleInterval ∧
      (reqStartReceipt s).1.itu.idleSources = s.itu.idleSources ∧
      (reqStartReceipt s).1.itu.lines = s.itu.lines ∧ (reqStartReceipt s).1.itu.standby = s.itu.standby ∧
      (reqStartReceipt s).1.fresh = s.fresh ∧ (reqStartReceipt s).1.pending = s.pending := by
  simp only [reqStartReceipt]; (repeat' split) <;> simp

@[simp] theorem reqCloseReceipt_frame (s : State) :
    (reqCloseReceipt s).1.mtr.inletComp = s.mtr.inletComp ∧ (reqCloseReceipt s).1.tpi = s.tpi ∧
      (reqCloseReceipt s).1.idu = s.idu ∧ (reqCloseReceipt s).1.mtb = s.mtb ∧ (reqCloseReceipt s).1.bil = s.bil ∧
      (reqCloseReceipt s).1.hsc = s.hsc ∧ (reqCloseReceipt s).1.rcp.fault = s.rcp.fault ∧
      (reqCloseReceipt s).1.jnl.cursor = s.jnl.cursor ∧ (reqCloseReceipt s).1.jnl.nextSeq = s.jnl.nextSeq ∧
      (reqCloseReceipt s).1.jnl.deferred = s.jnl.deferred ∧ (reqCloseReceipt s).1.cal = s.cal ∧
      (reqCloseReceipt s).1.itu.inputs = s.itu.inputs ∧ (reqCloseReceipt s).1.itu.latch = s.itu.latch ∧
      (reqCloseReceipt s).1.itu.clock = s.itu.clock ∧ (reqCloseReceipt s).1.itu.clockValid = s.itu.clockValid ∧
      (reqCloseReceipt s).1.itu.mono = s.itu.mono ∧ (reqCloseReceipt s).1.itu.idleInterval = s.itu.idleInterval ∧
      (reqCloseReceipt s).1.itu.idleSources = s.itu.idleSources ∧
      (reqCloseReceipt s).1.itu.lines = s.itu.lines ∧ (reqCloseReceipt s).1.itu.standby = s.itu.standby ∧
      (reqCloseReceipt s).1.fresh = s.fresh ∧ (reqCloseReceipt s).1.pending = s.pending := by
  unfold reqCloseReceipt; (repeat' split) <;> simp

@[simp] theorem clearInlet_frame (s : State) :
    (clearInlet s).mtr = s.mtr ∧ (clearInlet s).tpi = s.tpi ∧ (clearInlet s).idu = s.idu ∧
      (clearInlet s).mtb = s.mtb ∧ (clearInlet s).bil = s.bil ∧ (clearInlet s).hsc = s.hsc ∧
      (clearInlet s).stk = s.stk ∧ (clearInlet s).rcp.receipt = s.rcp.receipt ∧
      (clearInlet s).rcp.shadow = s.rcp.shadow ∧ (clearInlet s).jnl = s.jnl ∧ (clearInlet s).cal = s.cal ∧
      (clearInlet s).itu = s.itu ∧ (clearInlet s).prt = s.prt ∧ (clearInlet s).fresh = s.fresh ∧
      (clearInlet s).pending = s.pending := by
  simp [clearInlet]

@[simp] theorem reqClearInletHalt_frame (p : Port) (s : State) :
    (reqClearInletHalt p s).1.mtr = s.mtr ∧ (reqClearInletHalt p s).1.tpi = s.tpi ∧
      (reqClearInletHalt p s).1.idu = s.idu ∧ (reqClearInletHalt p s).1.mtb = s.mtb ∧
      (reqClearInletHalt p s).1.bil = s.bil ∧ (reqClearInletHalt p s).1.hsc = s.hsc ∧
      (reqClearInletHalt p s).1.stk = s.stk ∧ (reqClearInletHalt p s).1.rcp.receipt = s.rcp.receipt ∧
      (reqClearInletHalt p s).1.rcp.shadow = s.rcp.shadow ∧ (reqClearInletHalt p s).1.jnl = s.jnl ∧
      (reqClearInletHalt p s).1.cal = s.cal ∧ (reqClearInletHalt p s).1.itu = s.itu ∧
      (reqClearInletHalt p s).1.prt = s.prt ∧ (reqClearInletHalt p s).1.pending = s.pending := by
  simp only [reqClearInletHalt]; (repeat' split) <;> simp

@[simp] theorem reqClearInletLock_frame (s : State) :
    (reqClearInletLock s).1.mtr = s.mtr ∧ (reqClearInletLock s).1.tpi = s.tpi ∧ (reqClearInletLock s).1.idu = s.idu ∧
      (reqClearInletLock s).1.mtb = s.mtb ∧ (reqClearInletLock s).1.bil = s.bil ∧
      (reqClearInletLock s).1.hsc = s.hsc ∧ (reqClearInletLock s).1.stk = s.stk ∧
      (reqClearInletLock s).1.rcp.receipt = s.rcp.receipt ∧ (reqClearInletLock s).1.rcp.shadow = s.rcp.shadow ∧
      (reqClearInletLock s).1.jnl = s.jnl ∧ (reqClearInletLock s).1.cal = s.cal ∧
      (reqClearInletLock s).1.itu = s.itu ∧ (reqClearInletLock s).1.prt = s.prt ∧
      (reqClearInletLock s).1.fresh = s.fresh ∧ (reqClearInletLock s).1.pending = s.pending := by
  unfold reqClearInletLock; (repeat' split) <;> simp

@[simp] theorem startReconcile_frame (c : Comp) (mode : ReconcileMode) (s : State) :
    (startReconcile c mode s).mtr = s.mtr ∧ (startReconcile c mode s).tpi.sensors = s.tpi.sensors ∧
      (startReconcile c mode s).tpi.probes = s.tpi.probes ∧
      (startReconcile c mode s).tpi.lastReconcile = s.tpi.lastReconcile ∧ (startReconcile c mode s).idu = s.idu ∧
      (startReconcile c mode s).mtb = s.mtb ∧ (startReconcile c mode s).bil = s.bil ∧
      (startReconcile c mode s).hsc = s.hsc ∧ (startReconcile c mode s).rcp = s.rcp ∧
      (startReconcile c mode s).jnl.cursor = s.jnl.cursor ∧ (startReconcile c mode s).jnl.deferred = s.jnl.deferred ∧
      (startReconcile c mode s).cal = s.cal ∧ (startReconcile c mode s).itu = s.itu ∧
      (startReconcile c mode s).fresh = s.fresh ∧ (startReconcile c mode s).pending = s.pending := by
  simp [startReconcile]

@[simp] theorem reqReconcile_frame (p : Port) (comp mode : Nat) (s : State) :
    (reqReconcile p comp mode s).1.mtr = s.mtr ∧ (reqReconcile p comp mode s).1.tpi.sensors = s.tpi.sensors ∧
      (reqReconcile p comp mode s).1.tpi.probes = s.tpi.probes ∧
      (reqReconcile p comp mode s).1.tpi.lastReconcile = s.tpi.lastReconcile ∧
      (reqReconcile p comp mode s).1.idu = s.idu ∧ (reqReconcile p comp mode s).1.mtb = s.mtb ∧
      (reqReconcile p comp mode s).1.bil = s.bil ∧ (reqReconcile p comp mode s).1.hsc = s.hsc ∧
      (reqReconcile p comp mode s).1.rcp = s.rcp ∧ (reqReconcile p comp mode s).1.jnl.cursor = s.jnl.cursor ∧
      (reqReconcile p comp mode s).1.jnl.deferred = s.jnl.deferred ∧ (reqReconcile p comp mode s).1.cal = s.cal ∧
      (reqReconcile p comp mode s).1.itu = s.itu ∧ (reqReconcile p comp mode s).1.fresh = s.fresh ∧
      (reqReconcile p comp mode s).1.pending = s.pending := by
  unfold reqReconcile; (repeat' split) <;> simp

@[simp] theorem reqReadReconcile_frame (s : State) :
    (reqReadReconcile s).1.mtr = s.mtr ∧ (reqReadReconcile s).1.tpi = s.tpi ∧ (reqReadReconcile s).1.idu = s.idu ∧
      (reqReadReconcile s).1.mtb = s.mtb ∧ (reqReadReconcile s).1.bil = s.bil ∧ (reqReadReconcile s).1.hsc = s.hsc ∧
      (reqReadReconcile s).1.stk = s.stk ∧ (reqReadReconcile s).1.rcp = s.rcp ∧ (reqReadReconcile s).1.jnl = s.jnl ∧
      (reqReadReconcile s).1.cal = s.cal ∧ (reqReadReconcile s).1.itu = s.itu ∧ (reqReadReconcile s).1.prt = s.prt ∧
      (reqReadReconcile s).1.pending = s.pending := by
  simp only [reqReadReconcile]; (repeat' split) <;> simp

@[simp] theorem setInput_frame (i : Input) (activeLow : Bool) (debounce : Nat) (s : State) :
    (setInput i activeLow debounce s).mtr.inletComp = s.mtr.inletComp ∧
      (setInput i activeLow debounce s).tpi.sensors = s.tpi.sensors ∧
      (setInput i activeLow debounce s).tpi.probes = s.tpi.probes ∧
      (setInput i activeLow debounce s).idu.templates = s.idu.templates ∧
      (setInput i activeLow debounce s).idu.confirmCount = s.idu.confirmCount ∧
      (setInput i activeLow debounce s).mtb.openSite = s.mtb.openSite ∧
      (setInput i activeLow debounce s).mtb.dayStart = s.mtb.dayStart ∧
      (setInput i activeLow debounce s).mtb.periodDay = s.mtb.periodDay ∧
      (setInput i activeLow debounce s).hsc.faults = s.hsc.faults ∧
      (setInput i activeLow debounce s).hsc.map = s.hsc.map ∧
      (setInput i activeLow debounce s).hsc.params = s.hsc.params ∧
      (setInput i activeLow debounce s).hsc.minDelivery = s.hsc.minDelivery ∧
      (setInput i activeLow debounce s).hsc.retries = s.hsc.retries ∧
      (setInput i activeLow debounce s).rcp.fault = s.rcp.fault ∧
      (setInput i activeLow debounce s).jnl.cursor = s.jnl.cursor ∧
      (setInput i activeLow debounce s).jnl.deferred = s.jnl.deferred ∧
      (setInput i activeLow debounce s).itu.clock = s.itu.clock ∧
      (setInput i activeLow debounce s).itu.clockValid = s.itu.clockValid ∧
      (setInput i activeLow debounce s).itu.mono = s.itu.mono ∧
      (setInput i activeLow debounce s).itu.idleInterval = s.itu.idleInterval ∧
      (setInput i activeLow debounce s).itu.idleSources = s.itu.idleSources ∧
      (setInput i activeLow debounce s).itu.lines = s.itu.lines ∧
      (setInput i activeLow debounce s).pending = s.pending := by
  simp only [setInput]; (repeat' split) <;> simp

@[simp] theorem reqInputSettingsPut_frame (input polarity debounce : Nat) (s : State) :
    (reqInputSettingsPut input polarity debounce s).1.mtr.inletComp = s.mtr.inletComp ∧
      (reqInputSettingsPut input polarity debounce s).1.tpi.sensors = s.tpi.sensors ∧
      (reqInputSettingsPut input polarity debounce s).1.tpi.probes = s.tpi.probes ∧
      (reqInputSettingsPut input polarity debounce s).1.idu.templates = s.idu.templates ∧
      (reqInputSettingsPut input polarity debounce s).1.idu.confirmCount = s.idu.confirmCount ∧
      (reqInputSettingsPut input polarity debounce s).1.mtb.openSite = s.mtb.openSite ∧
      (reqInputSettingsPut input polarity debounce s).1.mtb.dayStart = s.mtb.dayStart ∧
      (reqInputSettingsPut input polarity debounce s).1.mtb.periodDay = s.mtb.periodDay ∧
      (reqInputSettingsPut input polarity debounce s).1.hsc.faults = s.hsc.faults ∧
      (reqInputSettingsPut input polarity debounce s).1.hsc.map = s.hsc.map ∧
      (reqInputSettingsPut input polarity debounce s).1.hsc.params = s.hsc.params ∧
      (reqInputSettingsPut input polarity debounce s).1.hsc.minDelivery = s.hsc.minDelivery ∧
      (reqInputSettingsPut input polarity debounce s).1.hsc.retries = s.hsc.retries ∧
      (reqInputSettingsPut input polarity debounce s).1.rcp.fault = s.rcp.fault ∧
      (reqInputSettingsPut input polarity debounce s).1.jnl.cursor = s.jnl.cursor ∧
      (reqInputSettingsPut input polarity debounce s).1.jnl.deferred = s.jnl.deferred ∧
      (reqInputSettingsPut input polarity debounce s).1.itu.clock = s.itu.clock ∧
      (reqInputSettingsPut input polarity debounce s).1.itu.clockValid = s.itu.clockValid ∧
      (reqInputSettingsPut input polarity debounce s).1.itu.mono = s.itu.mono ∧
      (reqInputSettingsPut input polarity debounce s).1.itu.idleInterval = s.itu.idleInterval ∧
      (reqInputSettingsPut input polarity debounce s).1.itu.idleSources = s.itu.idleSources ∧
      (reqInputSettingsPut input polarity debounce s).1.itu.lines = s.itu.lines ∧
      (reqInputSettingsPut input polarity debounce s).1.pending = s.pending := by
  unfold reqInputSettingsPut; (repeat' split) <;> simp

@[simp] theorem reqRestart_frame (s : State) :
    (reqRestart s).1.mtr.inletComp = s.mtr.inletComp ∧ (reqRestart s).1.idu.templates = s.idu.templates ∧
      (reqRestart s).1.idu.confirmCount = s.idu.confirmCount ∧ (reqRestart s).1.mtb.openSite = s.mtb.openSite ∧
      (reqRestart s).1.mtb.dayStart = s.mtb.dayStart ∧ (reqRestart s).1.hsc.faults = s.hsc.faults ∧
      (reqRestart s).1.hsc.map = s.hsc.map ∧ (reqRestart s).1.hsc.params = s.hsc.params ∧
      (reqRestart s).1.hsc.minDelivery = s.hsc.minDelivery ∧ (reqRestart s).1.hsc.retries = s.hsc.retries ∧
      (reqRestart s).1.rcp.fault = s.rcp.fault ∧ (reqRestart s).1.jnl.cursor = s.jnl.cursor ∧
      (reqRestart s).1.itu.latch = s.itu.latch ∧ (reqRestart s).1.itu.clock = s.itu.clock ∧
      (reqRestart s).1.itu.clockValid = s.itu.clockValid ∧ (reqRestart s).1.itu.mono = s.itu.mono ∧
      (reqRestart s).1.itu.idleInterval = s.itu.idleInterval ∧ (reqRestart s).1.itu.idleSources = s.itu.idleSources ∧
      (reqRestart s).1.itu.lines = s.itu.lines ∧
      (reqRestart s).1.pending = s.pending := by
  unfold reqRestart; (repeat' split) <;> simp

@[simp] theorem clockWork_frame (s : State) :
    (clockWork s).mtr = s.mtr ∧ (clockWork s).tpi = s.tpi ∧ (clockWork s).idu = s.idu ∧
      (clockWork s).mtb.openSite = s.mtb.openSite ∧ (clockWork s).mtb.dayStart = s.mtb.dayStart ∧
      (clockWork s).bil.contractors = s.bil.contractors ∧ (clockWork s).hsc = s.hsc ∧ (clockWork s).stk = s.stk ∧
      (clockWork s).rcp = s.rcp ∧ (clockWork s).jnl.cursor = s.jnl.cursor ∧
      (clockWork s).jnl.deferred = s.jnl.deferred ∧ (clockWork s).cal = s.cal ∧ (clockWork s).itu = s.itu ∧
      (clockWork s).fresh = s.fresh ∧ (clockWork s).pending = s.pending := by
  simp [clockWork]

@[simp] theorem reqSetTime_frame (time : Nat) (s : State) :
    (reqSetTime time s).1.mtr = s.mtr ∧ (reqSetTime time s).1.tpi = s.tpi ∧ (reqSetTime time s).1.idu = s.idu ∧
      (reqSetTime time s).1.mtb.openSite = s.mtb.openSite ∧ (reqSetTime time s).1.mtb.dayStart = s.mtb.dayStart ∧
      (reqSetTime time s).1.bil.contractors = s.bil.contractors ∧ (reqSetTime time s).1.hsc = s.hsc ∧
      (reqSetTime time s).1.stk = s.stk ∧ (reqSetTime time s).1.rcp = s.rcp ∧
      (reqSetTime time s).1.jnl.cursor = s.jnl.cursor ∧ (reqSetTime time s).1.jnl.deferred = s.jnl.deferred ∧
      (reqSetTime time s).1.cal = s.cal ∧ (reqSetTime time s).1.itu.inputs = s.itu.inputs ∧
      (reqSetTime time s).1.itu.latch = s.itu.latch ∧ (reqSetTime time s).1.itu.mono = s.itu.mono ∧
      (reqSetTime time s).1.itu.idleInterval = s.itu.idleInterval ∧
      (reqSetTime time s).1.itu.idleSources = s.itu.idleSources ∧
      (reqSetTime time s).1.itu.lines = s.itu.lines ∧
      (reqSetTime time s).1.itu.idleDeadline = s.itu.idleDeadline ∧
      (reqSetTime time s).1.itu.standby = s.itu.standby ∧ (reqSetTime time s).1.fresh = s.fresh ∧
      (reqSetTime time s).1.pending = s.pending := by
  unfold reqSetTime; (repeat' split) <;> simp

@[simp] theorem reqIdleSettingsPut_frame (interval sources : Nat) (s : State) :
    (reqIdleSettingsPut interval sources s).1.mtr = s.mtr ∧ (reqIdleSettingsPut interval sources s).1.tpi = s.tpi ∧
      (reqIdleSettingsPut interval sources s).1.idu = s.idu ∧ (reqIdleSettingsPut interval sources s).1.mtb = s.mtb ∧
      (reqIdleSettingsPut interval sources s).1.bil = s.bil ∧ (reqIdleSettingsPut interval sources s).1.hsc = s.hsc ∧
      (reqIdleSettingsPut interval sources s).1.stk = s.stk ∧ (reqIdleSettingsPut interval sources s).1.rcp = s.rcp ∧
      (reqIdleSettingsPut interval sources s).1.jnl = s.jnl ∧ (reqIdleSettingsPut interval sources s).1.cal = s.cal ∧
      (reqIdleSettingsPut interval sources s).1.itu.inputs = s.itu.inputs ∧
      (reqIdleSettingsPut interval sources s).1.itu.latch = s.itu.latch ∧
      (reqIdleSettingsPut interval sources s).1.itu.clock = s.itu.clock ∧
      (reqIdleSettingsPut interval sources s).1.itu.clockValid = s.itu.clockValid ∧
      (reqIdleSettingsPut interval sources s).1.itu.mono = s.itu.mono ∧
      (reqIdleSettingsPut interval sources s).1.itu.idleDeadline = s.itu.idleDeadline ∧
      (reqIdleSettingsPut interval sources s).1.itu.standby = s.itu.standby ∧
      (reqIdleSettingsPut interval sources s).1.prt = s.prt ∧
      (reqIdleSettingsPut interval sources s).1.fresh = s.fresh ∧
      (reqIdleSettingsPut interval sources s).1.pending = s.pending := by
  unfold reqIdleSettingsPut; (repeat' split) <;> simp

@[simp] theorem reqEnterStandby_frame (s : State) :
    (reqEnterStandby s).1.mtr = s.mtr ∧ (reqEnterStandby s).1.tpi.reconciles = s.tpi.reconciles ∧
      (reqEnterStandby s).1.idu.templates = s.idu.templates ∧
      (reqEnterStandby s).1.idu.confirmCount = s.idu.confirmCount ∧ (reqEnterStandby s).1.mtb = s.mtb ∧
      (reqEnterStandby s).1.bil = s.bil ∧ (reqEnterStandby s).1.hsc = s.hsc ∧ (reqEnterStandby s).1.stk = s.stk ∧
      (reqEnterStandby s).1.rcp = s.rcp ∧ (reqEnterStandby s).1.jnl = s.jnl ∧ (reqEnterStandby s).1.cal = s.cal ∧
      (reqEnterStandby s).1.itu.inputs = s.itu.inputs ∧ (reqEnterStandby s).1.itu.latch = s.itu.latch ∧
      (reqEnterStandby s).1.itu.clock = s.itu.clock ∧ (reqEnterStandby s).1.itu.clockValid = s.itu.clockValid ∧
      (reqEnterStandby s).1.itu.mono = s.itu.mono ∧ (reqEnterStandby s).1.itu.idleInterval = s.itu.idleInterval ∧
      (reqEnterStandby s).1.itu.idleSources = s.itu.idleSources ∧
      (reqEnterStandby s).1.itu.lines = s.itu.lines ∧ (reqEnterStandby s).1.prt = s.prt ∧
      (reqEnterStandby s).1.fresh = s.fresh ∧ (reqEnterStandby s).1.pending = s.pending := by
  unfold reqEnterStandby; (repeat' split) <;> simp

@[simp] theorem reqStockSettingsPut_frame (comp : Nat) (x : StockSettings) (s : State) :
    (reqStockSettingsPut comp x s).1.mtr = s.mtr ∧ (reqStockSettingsPut comp x s).1.tpi = s.tpi ∧
      (reqStockSettingsPut comp x s).1.idu = s.idu ∧ (reqStockSettingsPut comp x s).1.mtb = s.mtb ∧
      (reqStockSettingsPut comp x s).1.bil = s.bil ∧ (reqStockSettingsPut comp x s).1.hsc = s.hsc ∧
      (reqStockSettingsPut comp x s).1.rcp = s.rcp ∧ (reqStockSettingsPut comp x s).1.jnl = s.jnl ∧
      (reqStockSettingsPut comp x s).1.cal = s.cal ∧ (reqStockSettingsPut comp x s).1.itu = s.itu ∧
      (reqStockSettingsPut comp x s).1.prt = s.prt ∧ (reqStockSettingsPut comp x s).1.fresh = s.fresh ∧
      (reqStockSettingsPut comp x s).1.pending = s.pending := by
  unfold reqStockSettingsPut; (repeat' split) <;> simp

@[simp] theorem reqMachinePut_frame (f : MachineFields) (s : State) :
    (reqMachinePut f s).1.mtr = s.mtr ∧ (reqMachinePut f s).1.tpi = s.tpi ∧ (reqMachinePut f s).1.idu = s.idu ∧
      (reqMachinePut f s).1.mtb.openSite = s.mtb.openSite ∧ (reqMachinePut f s).1.mtb.dayStart = s.mtb.dayStart ∧
      (reqMachinePut f s).1.mtb.periodDay = s.mtb.periodDay ∧ (reqMachinePut f s).1.mtb.rules = s.mtb.rules ∧
      (reqMachinePut f s).1.bil = s.bil ∧ (reqMachinePut f s).1.hsc = s.hsc ∧ (reqMachinePut f s).1.stk = s.stk ∧
      (reqMachinePut f s).1.rcp = s.rcp ∧ (reqMachinePut f s).1.jnl = s.jnl ∧ (reqMachinePut f s).1.cal = s.cal ∧
      (reqMachinePut f s).1.itu = s.itu ∧ (reqMachinePut f s).1.prt = s.prt ∧ (reqMachinePut f s).1.fresh = s.fresh ∧
      (reqMachinePut f s).1.pending = s.pending := by
  unfold reqMachinePut; (repeat' split) <;> simp

@[simp] theorem reqMachineRemove_frame (number : Nat) (s : State) :
    (reqMachineRemove number s).1.mtr = s.mtr ∧ (reqMachineRemove number s).1.tpi = s.tpi ∧
      (reqMachineRemove number s).1.idu = s.idu ∧ (reqMachineRemove number s).1.mtb.openSite = s.mtb.openSite ∧
      (reqMachineRemove number s).1.mtb.dayStart = s.mtb.dayStart ∧
      (reqMachineRemove number s).1.mtb.periodDay = s.mtb.periodDay ∧
      (reqMachineRemove number s).1.mtb.rules = s.mtb.rules ∧ (reqMachineRemove number s).1.bil = s.bil ∧
      (reqMachineRemove number s).1.hsc = s.hsc ∧ (reqMachineRemove number s).1.stk = s.stk ∧
      (reqMachineRemove number s).1.rcp = s.rcp ∧ (reqMachineRemove number s).1.jnl = s.jnl ∧
      (reqMachineRemove number s).1.cal = s.cal ∧ (reqMachineRemove number s).1.itu = s.itu ∧
      (reqMachineRemove number s).1.prt = s.prt ∧ (reqMachineRemove number s).1.fresh = s.fresh ∧
      (reqMachineRemove number s).1.pending = s.pending := by
  unfold reqMachineRemove; (repeat' split) <;> simp

@[simp] theorem reqOpenSitePut_frame (mode contractor : Nat) (allowance : PerComp (Option Nat)) (s : State) :
    (reqOpenSitePut mode contractor allowance s).1.mtr = s.mtr ∧
      (reqOpenSitePut mode contractor allowance s).1.tpi = s.tpi ∧
      (reqOpenSitePut mode contractor allowance s).1.idu = s.idu ∧
      (reqOpenSitePut mode contractor allowance s).1.mtb.machines = s.mtb.machines ∧
      (reqOpenSitePut mode contractor allowance s).1.mtb.dayStart = s.mtb.dayStart ∧
      (reqOpenSitePut mode contractor allowance s).1.mtb.periodDay = s.mtb.periodDay ∧
      (reqOpenSitePut mode contractor allowance s).1.mtb.rules = s.mtb.rules ∧
      (reqOpenSitePut mode contractor allowance s).1.bil = s.bil ∧
      (reqOpenSitePut mode contractor allowance s).1.hsc = s.hsc ∧
      (reqOpenSitePut mode contractor allowance s).1.stk = s.stk ∧
      (reqOpenSitePut mode contractor allowance s).1.rcp = s.rcp ∧
      (reqOpenSitePut mode contractor allowance s).1.jnl = s.jnl ∧
      (reqOpenSitePut mode contractor allowance s).1.cal = s.cal ∧
      (reqOpenSitePut mode contractor allowance s).1.itu = s.itu ∧
      (reqOpenSitePut mode contractor allowance s).1.prt = s.prt ∧
      (reqOpenSitePut mode contractor allowance s).1.fresh = s.fresh ∧
      (reqOpenSitePut mode contractor allowance s).1.pending = s.pending := by
  unfold reqOpenSitePut; (repeat' split) <;> simp

@[simp] theorem reqPeriodSettingsPut_frame (dayStart : Nat) (s : State) :
    (reqPeriodSettingsPut dayStart s).1.mtr = s.mtr ∧ (reqPeriodSettingsPut dayStart s).1.tpi = s.tpi ∧
      (reqPeriodSettingsPut dayStart s).1.idu = s.idu ∧
      (reqPeriodSettingsPut dayStart s).1.mtb.openSite = s.mtb.openSite ∧
      (reqPeriodSettingsPut dayStart s).1.mtb.rules = s.mtb.rules ∧ (reqPeriodSettingsPut dayStart s).1.bil = s.bil ∧
      (reqPeriodSettingsPut dayStart s).1.hsc = s.hsc ∧ (reqPeriodSettingsPut dayStart s).1.stk = s.stk ∧
      (reqPeriodSettingsPut dayStart s).1.rcp = s.rcp ∧ (reqPeriodSettingsPut dayStart s).1.jnl = s.jnl ∧
      (reqPeriodSettingsPut dayStart s).1.cal = s.cal ∧ (reqPeriodSettingsPut dayStart s).1.itu = s.itu ∧
      (reqPeriodSettingsPut dayStart s).1.fresh = s.fresh ∧
      (reqPeriodSettingsPut dayStart s).1.pending = s.pending := by
  simp [reqPeriodSettingsPut]

@[simp] theorem reqGroupRulePut_frame (f : RuleFields) (s : State) :
    (reqGroupRulePut f s).1.mtr = s.mtr ∧ (reqGroupRulePut f s).1.tpi = s.tpi ∧ (reqGroupRulePut f s).1.idu = s.idu ∧
      (reqGroupRulePut f s).1.mtb.machines = s.mtb.machines ∧ (reqGroupRulePut f s).1.mtb.openSite = s.mtb.openSite ∧
      (reqGroupRulePut f s).1.mtb.dayStart = s.mtb.dayStart ∧
      (reqGroupRulePut f s).1.mtb.periodDay = s.mtb.periodDay ∧ (reqGroupRulePut f s).1.bil = s.bil ∧
      (reqGroupRulePut f s).1.hsc = s.hsc ∧ (reqGroupRulePut f s).1.stk = s.stk ∧
      (reqGroupRulePut f s).1.rcp = s.rcp ∧ (reqGroupRulePut f s).1.jnl = s.jnl ∧
      (reqGroupRulePut f s).1.cal = s.cal ∧ (reqGroupRulePut f s).1.itu = s.itu ∧
      (reqGroupRulePut f s).1.prt = s.prt ∧ (reqGroupRulePut f s).1.fresh = s.fresh ∧
      (reqGroupRulePut f s).1.pending = s.pending := by
  unfold reqGroupRulePut; (repeat' split) <;> simp

@[simp] theorem reqContractorPut_frame (index state : Nat) (adjustment : Int) (basis : Nat) (limit : Option Nat) (s : State) :
    (reqContractorPut index state adjustment basis limit s).1.mtr = s.mtr ∧
      (reqContractorPut index state adjustment basis limit s).1.tpi = s.tpi ∧
      (reqContractorPut index state adjustment basis limit s).1.idu = s.idu ∧
      (reqContractorPut index state adjustment basis limit s).1.mtb = s.mtb ∧
      (reqContractorPut index state adjustment basis limit s).1.bil.prices = s.bil.prices ∧
      (reqContractorPut index state adjustment basis limit s).1.hsc = s.hsc ∧
      (reqContractorPut index state adjustment basis limit s).1.stk = s.stk ∧
      (reqContractorPut index state adjustment basis limit s).1.rcp = s.rcp ∧
      (reqContractorPut index state adjustment basis limit s).1.jnl = s.jnl ∧
      (reqContractorPut index state adjustment basis limit s).1.cal = s.cal ∧
      (reqContractorPut index state adjustment basis limit s).1.itu = s.itu ∧
      (reqContractorPut index state adjustment basis limit s).1.prt = s.prt ∧
      (reqContractorPut index state adjustment basis limit s).1.fresh = s.fresh ∧
      (reqContractorPut index state adjustment basis limit s).1.pending = s.pending := by
  unfold reqContractorPut; (repeat' split) <;> simp

@[simp] theorem reqContractorSettle_frame (index amount : Nat) (s : State) :
    (reqContractorSettle index amount s).1.mtr = s.mtr ∧ (reqContractorSettle index amount s).1.tpi = s.tpi ∧
      (reqContractorSettle index amount s).1.idu = s.idu ∧ (reqContractorSettle index amount s).1.mtb = s.mtb ∧
      (reqContractorSettle index amount s).1.bil.prices = s.bil.prices ∧
      (reqContractorSettle index amount s).1.hsc = s.hsc ∧ (reqContractorSettle index amount s).1.stk = s.stk ∧
      (reqContractorSettle index amount s).1.rcp = s.rcp ∧ (reqContractorSettle index amount s).1.jnl = s.jnl ∧
      (reqContractorSettle index amount s).1.cal = s.cal ∧ (reqContractorSettle index amount s).1.itu = s.itu ∧
      (reqContractorSettle index amount s).1.prt = s.prt ∧ (reqContractorSettle index amount s).1.fresh = s.fresh ∧
      (reqContractorSettle index amount s).1.pending = s.pending := by
  unfold reqContractorSettle; (repeat' split) <;> simp

@[simp] theorem reqTemplatePut_frame (index : Nat) (t : Template) (s : State) :
    (reqTemplatePut index t s).1.mtr = s.mtr ∧ (reqTemplatePut index t s).1.tpi = s.tpi ∧
      (reqTemplatePut index t s).1.idu.confirmCount = s.idu.confirmCount ∧
      (reqTemplatePut index t s).1.idu.readers = s.idu.readers ∧ (reqTemplatePut index t s).1.mtb = s.mtb ∧
      (reqTemplatePut index t s).1.bil = s.bil ∧ (reqTemplatePut index t s).1.hsc = s.hsc ∧
      (reqTemplatePut index t s).1.stk = s.stk ∧ (reqTemplatePut index t s).1.rcp = s.rcp ∧
      (reqTemplatePut index t s).1.jnl = s.jnl ∧ (reqTemplatePut index t s).1.cal = s.cal ∧
      (reqTemplatePut index t s).1.itu = s.itu ∧ (reqTemplatePut index t s).1.prt = s.prt ∧
      (reqTemplatePut index t s).1.fresh = s.fresh ∧ (reqTemplatePut index t s).1.pending = s.pending := by
  unfold reqTemplatePut; (repeat' split) <;> simp

@[simp] theorem reqTemplateClear_frame (index : Nat) (s : State) :
    (reqTemplateClear index s).1.mtr = s.mtr ∧ (reqTemplateClear index s).1.tpi = s.tpi ∧
      (reqTemplateClear index s).1.idu.confirmCount = s.idu.confirmCount ∧
      (reqTemplateClear index s).1.idu.readers = s.idu.readers ∧ (reqTemplateClear index s).1.mtb = s.mtb ∧
      (reqTemplateClear index s).1.bil = s.bil ∧ (reqTemplateClear index s).1.hsc = s.hsc ∧
      (reqTemplateClear index s).1.stk = s.stk ∧ (reqTemplateClear index s).1.rcp = s.rcp ∧
      (reqTemplateClear index s).1.jnl = s.jnl ∧ (reqTemplateClear index s).1.cal = s.cal ∧
      (reqTemplateClear index s).1.itu = s.itu ∧ (reqTemplateClear index s).1.prt = s.prt ∧
      (reqTemplateClear index s).1.fresh = s.fresh ∧ (reqTemplateClear index s).1.pending = s.pending := by
  unfold reqTemplateClear; (repeat' split) <;> simp

@[simp] theorem reqTagSettingsPut_frame (confirm : Nat) (s : State) :
    (reqTagSettingsPut confirm s).1.mtr = s.mtr ∧ (reqTagSettingsPut confirm s).1.tpi = s.tpi ∧
      (reqTagSettingsPut confirm s).1.idu.templates = s.idu.templates ∧
      (reqTagSettingsPut confirm s).1.idu.readers = s.idu.readers ∧ (reqTagSettingsPut confirm s).1.mtb = s.mtb ∧
      (reqTagSettingsPut confirm s).1.bil = s.bil ∧ (reqTagSettingsPut confirm s).1.hsc = s.hsc ∧
      (reqTagSettingsPut confirm s).1.stk = s.stk ∧ (reqTagSettingsPut confirm s).1.rcp = s.rcp ∧
      (reqTagSettingsPut confirm s).1.jnl = s.jnl ∧ (reqTagSettingsPut confirm s).1.cal = s.cal ∧
      (reqTagSettingsPut confirm s).1.itu = s.itu ∧ (reqTagSettingsPut confirm s).1.prt = s.prt ∧
      (reqTagSettingsPut confirm s).1.fresh = s.fresh ∧ (reqTagSettingsPut confirm s).1.pending = s.pending := by
  simp [reqTagSettingsPut]

@[simp] theorem reqReadTagDiagnostics_frame (reader : Nat) (s : State) :
    (reqReadTagDiagnostics reader s).1.mtr = s.mtr ∧ (reqReadTagDiagnostics reader s).1.tpi = s.tpi ∧
      (reqReadTagDiagnostics reader s).1.idu.templates = s.idu.templates ∧
      (reqReadTagDiagnostics reader s).1.idu.confirmCount = s.idu.confirmCount ∧
      (reqReadTagDiagnostics reader s).1.mtb = s.mtb ∧ (reqReadTagDiagnostics reader s).1.bil = s.bil ∧
      (reqReadTagDiagnostics reader s).1.hsc = s.hsc ∧ (reqReadTagDiagnostics reader s).1.stk = s.stk ∧
      (reqReadTagDiagnostics reader s).1.rcp = s.rcp ∧ (reqReadTagDiagnostics reader s).1.jnl = s.jnl ∧
      (reqReadTagDiagnostics reader s).1.cal = s.cal ∧ (reqReadTagDiagnostics reader s).1.itu = s.itu ∧
      (reqReadTagDiagnostics reader s).1.prt = s.prt ∧ (reqReadTagDiagnostics reader s).1.fresh = s.fresh ∧
      (reqReadTagDiagnostics reader s).1.pending = s.pending := by
  unfold reqReadTagDiagnostics; (repeat' split) <;> simp

@[simp] theorem expireIdle_frame (s : State) :
    (expireIdle s).mtr = s.mtr ∧ (expireIdle s).tpi = s.tpi ∧ (expireIdle s).idu = s.idu ∧
      (expireIdle s).mtb = s.mtb ∧ (expireIdle s).bil = s.bil ∧ (expireIdle s).hsc = s.hsc ∧
      (expireIdle s).stk = s.stk ∧ (expireIdle s).rcp = s.rcp ∧ (expireIdle s).jnl = s.jnl ∧
      (expireIdle s).cal = s.cal ∧ (expireIdle s).itu.inputs = s.itu.inputs ∧
      (expireIdle s).itu.latch = s.itu.latch ∧ (expireIdle s).itu.clock = s.itu.clock ∧
      (expireIdle s).itu.clockValid = s.itu.clockValid ∧ (expireIdle s).itu.idleInterval = s.itu.idleInterval ∧
      (expireIdle s).itu.idleSources = s.itu.idleSources ∧
      (expireIdle s).itu.lines = s.itu.lines ∧ (expireIdle s).itu.standby = s.itu.standby ∧
      (expireIdle s).fresh = s.fresh ∧ (expireIdle s).pending = s.pending := by
  unfold expireIdle; (repeat' split) <;> simp

@[simp] theorem writeFirstDeferred_frame (s : State) :
    (writeFirstDeferred s).mtr = s.mtr ∧ (writeFirstDeferred s).tpi = s.tpi ∧ (writeFirstDeferred s).idu = s.idu ∧
      (writeFirstDeferred s).mtb = s.mtb ∧ (writeFirstDeferred s).bil = s.bil ∧ (writeFirstDeferred s).hsc = s.hsc ∧
      (writeFirstDeferred s).stk = s.stk ∧ (writeFirstDeferred s).rcp = s.rcp ∧
      (writeFirstDeferred s).jnl.cursor = s.jnl.cursor ∧ (writeFirstDeferred s).cal = s.cal ∧
      (writeFirstDeferred s).itu = s.itu ∧ (writeFirstDeferred s).fresh = s.fresh ∧
      (writeFirstDeferred s).pending = s.pending := by
  unfold writeFirstDeferred; (repeat' split) <;> simp

/-! ## The request that a command is -/

/-- A command that is a request is taken by its port (R197, R198). -/
theorem exec_request {i : Instr} {k : ReqKind} {p : Port} {owner : State → State × Response}
    (h : requestOf i = some (k, p, owner)) (s : State) : exec i s = .next (takeRequest k p owner s) := by
  cases i <;> simp only [requestOf, Option.some.injEq, Prod.mk.injEq, reduceCtorEq] at h
  all_goals
    obtain ⟨rfl, rfl, rfl⟩ := h
    rfl

/-- The execution that a frame's payload names is that of a command. -/
theorem payloadOwner_request {p : Port} {k : ReqKind} {payload : List Byte} {owner : State → State × Response}
    (h : payloadOwner p k payload = some owner) :
    ∃ i j q, payloadCommand p k payload = some i ∧ requestOf i = some (j, q, owner) := by
  obtain ⟨⟨j, q, o⟩, hb, rfl⟩ := Option.map_eq_some_iff.mp h
  obtain ⟨i, hi, hr⟩ := Option.bind_eq_some_iff.mp hb
  exact ⟨i, j, q, hi, hr⟩

/-- What holds of a state holds after a frame, if waking, answering, counting, reloading and the execution of every
request keep it. -/
theorem takeFrame_preserves {P : State → Prop} (p : Port) (frame : List Byte)
    (hwake : ∀ s, P s → P (wake s)) (hcount : ∀ s, P s → P (countRefused p s))
    (hanswer : ∀ r s, P s → P (answer p r s)) (hidle : ∀ src s, P s → P (reloadIdle src s))
    (howner : ∀ i k q owner s, requestOf i = some (k, q, owner) → P s → P (owner s).1) (s : State) (h : P s) :
    P (takeFrame p frame s) := by
  have hr (s : State) (h : P s) : P (reloadByRequest p s) := by
    unfold reloadByRequest
    split <;> first | exact hidle _ _ h | exact h
  have hw := hwake s h
  unfold takeFrame
  dsimp only
  split
  · exact hcount _ hw
  · split
    · exact hanswer _ _ hw
    · split
      · exact hanswer _ _ hw
      · unfold takeGood
        split
        · exact hanswer _ _ hw
        · split
          · exact hanswer _ _ hw
          · split
            · exact hanswer _ _ hw
            · rename_i owner ho
              obtain ⟨i, k, q, -, hi⟩ := payloadOwner_request ho
              exact hanswer _ _ (hr _ (howner i k q owner _ hi hw))

/-! ## The lines -/

/-- What holds of a state holds after line changes, if a change of a line and the shortening of the store keep it. -/
theorem runLines_preserves {P : State → Prop} (hdrive : ∀ i level s, P s → P (driveLine i level s))
    (hstore : ∀ lines s, P s → P (modItu (fun x => { x with lines := lines }) s)) (lines : List LineChange) (s : State)
    (h : P s) : P (runLines lines s) := by
  induction lines generalizing s with
  | nil => exact hstore _ _ h
  | cons c rest ih =>
    unfold runLines
    split
    · exact ih _ (hdrive _ _ _ h)
    · exact hstore _ _ h

/-- The same after a millisecond of waiting. -/
theorem passLines_preserves {P : State → Prop} (hdrive : ∀ i level s, P s → P (driveLine i level s))
    (hstore : ∀ lines s, P s → P (modItu (fun x => { x with lines := lines }) s)) (s : State) (h : P s) :
    P (passLines s) := by
  unfold passLines
  split
  · exact h
  · exact runLines_preserves hdrive hstore _ _ h

/-- With nothing in store a millisecond changes no line. -/
@[simp] theorem passLines_nil (s : State) (h : s.itu.lines = []) : passLines s = s := by simp [passLines, h]

end Sys2Proof.Machine
end

