-- ==== Sys2Proof/Laws/PerInstr.lean ====
section
/-! SUPPORT. The family of statements made for each command: the frame that carries a command (Table 13-1) names the
kind and the port of the request that the command is; a command that is no request has no frame. -/

namespace Sys2Proof.Laws.KindAndPort

open Sys2Proof.Machine

/-- The frame of a command carries the command's own kind, on its own port. -/
def Statement (i : Instr) : Prop :=
  (asRequest i).map (fun r => (r.2.1, r.1)) = (requestOf i).map fun r => (r.1, r.2.1)

theorem readMeter (port : Port) (meter : Nat) : Statement (.readMeter port meter) := rfl

theorem readSensors (port : Port) : Statement (.readSensors port) := rfl

theorem templatePut (port : Port) (index : Nat) (minLen : Nat) (maxLen : Nat) (offsets : List Nat) (check : Nat)
    (idOffset : Nat) (idLength : Nat) (hoursOffset : Option Nat)
    : Statement (.templatePut port index minLen maxLen offsets check idOffset idLength hoursOffset) := rfl

theorem templateClear (port : Port) (index : Nat) : Statement (.templateClear port index) := rfl

theorem tagSettingsPut (port : Port) (confirm : Nat) : Statement (.tagSettingsPut port confirm) := rfl

theorem templateRead (port : Port) (index : Nat) : Statement (.templateRead port index) := rfl

theorem tagSettingsRead (port : Port) : Statement (.tagSettingsRead port) := rfl

theorem readTagDiagnostics (port : Port) (reader : Nat) : Statement (.readTagDiagnostics port reader) := rfl

theorem machinePut (port : Port) (number : Nat) (status : Nat) (contractor : Nat) (comps : Nat)
    (capacity1 : Option Nat) (allowance1 : Option Nat) (capacity2 : Option Nat) (allowance2 : Option Nat)
    (manual : Nat) (tagRequired : Nat)
    : Statement (.machinePut port number status contractor comps capacity1 allowance1 capacity2 allowance2 manual tagRequired) := rfl

theorem machineRemove (port : Port) (number : Nat) : Statement (.machineRemove port number) := rfl

theorem openSitePut (port : Port) (mode : Nat) (contractor : Nat) (allowance1 : Option Nat)
    (allowance2 : Option Nat) : Statement (.openSitePut port mode contractor allowance1 allowance2) := rfl

theorem periodSettingsPut (port : Port) (dayStart : Nat) : Statement (.periodSettingsPut port dayStart) := rfl

theorem groupRulePut (port : Port) (index : Nat) (state : Nat) (low : Nat) (high : Nat) (contractor : Nat)
    (comps : Nat) (allowance1 : Option Nat) (allowance2 : Option Nat) (interval : Nat)
    : Statement (.groupRulePut port index state low high contractor comps allowance1 allowance2 interval) := rfl

theorem contractorPut (port : Port) (index : Nat) (state : Nat) (adjustment : Int) (basis : Nat)
    (limit : Option Nat) : Statement (.contractorPut port index state adjustment basis limit) := rfl

theorem contractorSettle (port : Port) (index : Nat) (amount : Nat)
    : Statement (.contractorSettle port index amount) := rfl

theorem machineRead (port : Port) (number : Nat) : Statement (.machineRead port number) := rfl

theorem machineList (port : Port) (start : Nat) : Statement (.machineList port start) := rfl

theorem openSiteRead (port : Port) : Statement (.openSiteRead port) := rfl

theorem periodSettingsRead (port : Port) : Statement (.periodSettingsRead port) := rfl

theorem groupRuleRead (port : Port) (index : Nat) : Statement (.groupRuleRead port index) := rfl

theorem contractorRead (port : Port) (index : Nat) : Statement (.contractorRead port index) := rfl

theorem priceSet (port : Port) (comp : Nat) (product : Nat) (price : Nat) (effective : Option Nat)
    : Statement (.priceSet port comp product price effective) := rfl

theorem pricePendingClear (port : Port) (comp : Nat) : Statement (.pricePendingClear port comp) := rfl

theorem priceRead (port : Port) : Statement (.priceRead port) := rfl

theorem authoriseManual (port : Port) (hose : Nat) (number : Nat) (hours : Option Nat)
    : Statement (.authoriseManual port hose number hours) := rfl

theorem armHose (port : Port) (hose : Nat) (operator : Nat) (preset : Option Nat)
    : Statement (.armHose port hose operator preset) := rfl

theorem disarmHose (port : Port) (hose : Nat) : Statement (.disarmHose port hose) := rfl

theorem pauseHose (port : Port) (hose : Nat) : Statement (.pauseHose port hose) := rfl

theorem resumeHose (port : Port) (hose : Nat) : Statement (.resumeHose port hose) := rfl

theorem stopHose (port : Port) (hose : Nat) : Statement (.stopHose port hose) := rfl

theorem clearHalt (port : Port) (hose : Nat) : Statement (.clearHalt port hose) := rfl

theorem clearLock (port : Port) (hose : Nat) : Statement (.clearLock port hose) := rfl

theorem hoseSettingsPut (port : Port) (hose : Nat) (armed : Nat) (firstFlow : Nat) (noFlow : Nat) (grace : Nat)
    (pauseLimit : Nat) (slowDown : Nat) (hoseMax : Nat) (overrun : Nat)
    : Statement (.hoseSettingsPut port hose armed firstFlow noFlow grace pauseLimit slowDown hoseMax overrun) := rfl

theorem deliverySettingsPut (port : Port) (minDelivery : Nat) (retries : Nat)
    : Statement (.deliverySettingsPut port minDelivery retries) := rfl

theorem hoseSettingsRead (port : Port) : Statement (.hoseSettingsRead port) := rfl

theorem readHose (port : Port) (hose : Nat) : Statement (.readHose port hose) := rfl

theorem stockSettingsPut (port : Port) (comp : Nat) (level : Nat) (hysteresis : Nat) (tolerance : Nat)
    : Statement (.stockSettingsPut port comp level hysteresis tolerance) := rfl

theorem stockSettingsRead (port : Port) : Statement (.stockSettingsRead port) := rfl

theorem readStock (port : Port) : Statement (.readStock port) := rfl

theorem openReceipt (port : Port) (comp : Nat) (supplier : Nat) (docket : List Byte) (expected : Nat)
    : Statement (.openReceipt port comp supplier docket expected) := rfl

theorem startReceipt (port : Port) : Statement (.startReceipt port) := rfl

theorem closeReceipt (port : Port) : Statement (.closeReceipt port) := rfl

theorem clearInletHalt (port : Port) : Statement (.clearInletHalt port) := rfl

theorem clearInletLock (port : Port) : Statement (.clearInletLock port) := rfl

theorem reconcile (port : Port) (comp : Nat) (mode : Nat) : Statement (.reconcile port comp mode) := rfl

theorem readReceipt (port : Port) : Statement (.readReceipt port) := rfl

theorem readProbes (port : Port) : Statement (.readProbes port) := rfl

theorem readReconcile (port : Port) : Statement (.readReconcile port) := rfl

theorem strappingRead (port : Port) (comp : Nat) : Statement (.strappingRead port comp) := rfl

theorem exportRead (port : Port) (start : Option Nat) : Statement (.exportRead port start) := rfl

theorem exportRelease (port : Port) (number : Nat) : Statement (.exportRelease port number) := rfl

theorem viewRecord (port : Port) (number : Nat) : Statement (.viewRecord port number) := rfl

theorem readJournal (port : Port) : Statement (.readJournal port) := rfl

theorem enterCalibration (port : Port) : Statement (.enterCalibration port) := rfl

theorem exitCalibration (port : Port) : Statement (.exitCalibration port) := rfl

theorem calibrationWrite (port : Port) (param : Nat) (subject : Nat) (value : Int)
    : Statement (.calibrationWrite port param subject value) := rfl

theorem strappingWrite (port : Port) (comp : Nat) (points : List (Nat × Nat))
    : Statement (.strappingWrite port comp points) := rfl

theorem stockLoad (port : Port) (comp : Nat) (value : Nat) : Statement (.stockLoad port comp value) := rfl

theorem proveHose (port : Port) (hose : Nat) (target : Nat) : Statement (.proveHose port hose target) := rfl

theorem applyProving (port : Port) (meter : Nat) (can : Nat) : Statement (.applyProving port meter can) := rfl

theorem readCalibration (port : Port) : Statement (.readCalibration port) := rfl

theorem inputSettingsPut (port : Port) (input : Nat) (polarity : Nat) (debounce : Nat)
    : Statement (.inputSettingsPut port input polarity debounce) := rfl

theorem restart (port : Port) : Statement (.restart port) := rfl

theorem readInputs (port : Port) : Statement (.readInputs port) := rfl

theorem readTime (port : Port) : Statement (.readTime port) := rfl

theorem idleSettingsRead (port : Port) : Statement (.idleSettingsRead port) := rfl

theorem setTime (port : Port) (time : Nat) : Statement (.setTime port time) := rfl

theorem idleSettingsPut (port : Port) (interval : Nat) (sources : Nat)
    : Statement (.idleSettingsPut port interval sources) := rfl

theorem enterStandby (port : Port) : Statement (.enterStandby port) := rfl

theorem readEvents (port : Port) : Statement (.readEvents port) := rfl

theorem ackEvents (port : Port) (kinds : Nat) : Statement (.ackEvents port kinds) := rfl

theorem setEventMask (port : Port) (kinds : Nat) : Statement (.setEventMask port kinds) := rfl

theorem readStatus (port : Port) : Statement (.readStatus port) := rfl

theorem rejectedRequestFrame (port : Port) (bytes : List Byte) : Statement (.rejectedRequestFrame port bytes) := rfl

theorem busyPortFrame (port : Port) : Statement (.busyPortFrame port) := rfl

theorem responseRead (port : Port) (count : Nat) : Statement (.responseRead port count) := rfl

theorem serviceResponseSent : Statement .serviceResponseSent := rfl

theorem serviceFrameGap : Statement .serviceFrameGap := rfl

theorem pulseArrival (meter : MeterId) (channel : Channel) (otherActive : Bool)
    : Statement (.pulseArrival meter channel otherActive) := rfl

theorem sensorFrame (meter : MeterId) (bytes : List Byte) : Statement (.sensorFrame meter bytes) := rfl

theorem sensorTimeout (meter : MeterId) : Statement (.sensorTimeout meter) := rfl

theorem probeFrame (comp : Comp) (bytes : List Byte) : Statement (.probeFrame comp bytes) := rfl

theorem probeTimeout (comp : Comp) : Statement (.probeTimeout comp) := rfl

theorem sensorFrameGap (line : FieldLine) : Statement (.sensorFrameGap line) := rfl

theorem tagFrame (reader : Hose) (bytes : List Byte) : Statement (.tagFrame reader bytes) := rfl

theorem tagFrameTruncated (reader : Hose) : Statement (.tagFrameTruncated reader) := rfl

theorem candidateLapse (reader : Hose) : Statement (.candidateLapse reader) := rfl

theorem presentIdentityGap (reader : Hose) : Statement (.presentIdentityGap reader) := rfl

theorem graceTimerExpiry (reader : Hose) : Statement (.graceTimerExpiry reader) := rfl

theorem armedTimeout (hose : Hose) : Statement (.armedTimeout hose) := rfl

theorem firstFlowTimeout (hose : Hose) : Statement (.firstFlowTimeout hose) := rfl

theorem noFlowTimeout (hose : Hose) : Statement (.noFlowTimeout hose) := rfl

theorem pauseLimit (hose : Hose) : Statement (.pauseLimit hose) := rfl

theorem settleEnd (hose : Hose) : Statement (.settleEnd hose) := rfl

theorem attemptTimerExpiry (pump : Comp) : Statement (.attemptTimerExpiry pump) := rfl

theorem holdTimerExpiry : Statement .holdTimerExpiry := rfl

theorem receiptSettleEnd : Statement .receiptSettleEnd := rfl

theorem idleTimerExpiry : Statement .idleTimerExpiry := rfl

theorem clockTick : Statement .clockTick := rfl

theorem rollover : Statement .rollover := rfl

theorem watchExpiry (rule : Nat) : Statement (.watchExpiry rule) := rfl

theorem priceActivation (comp : Comp) : Statement (.priceActivation comp) := rfl

theorem deferredEntryWrite : Statement .deferredEntryWrite := rfl

theorem estopActive : Statement .estopActive := rfl

theorem powerfailActive : Statement .powerfailActive := rfl

theorem powerfailInactive : Statement .powerfailInactive := rfl

theorem earthBondInactive : Statement .earthBondInactive := rfl

theorem earthBondActive : Statement .earthBondActive := rfl

theorem overfillActive : Statement .overfillActive := rfl

theorem ignitionActive : Statement .ignitionActive := rfl

theorem supplyLowActive : Statement .supplyLowActive := rfl

theorem supplyLowInactive : Statement .supplyLowInactive := rfl

theorem tiltActive : Statement .tiltActive := rfl

theorem nozzleStowed (hose : Hose) : Statement (.nozzleStowed hose) := rfl

theorem nozzleLifted (hose : Hose) : Statement (.nozzleLifted hose) := rfl

theorem pumpRunActive (pump : Comp) : Statement (.pumpRunActive pump) := rfl

theorem pumpRunInactive (pump : Comp) : Statement (.pumpRunInactive pump) := rfl

theorem calSwitchInactive : Statement .calSwitchInactive := rfl

theorem hardwareReset (levels : BitVec 12) (batteryKept : Bool) (downtime : Nat)
    : Statement (.hardwareReset levels batteryKept downtime) := rfl

theorem calSwitchActive : Statement .calSwitchActive := rfl

theorem estopInactive : Statement .estopInactive := rfl

theorem overfillInactive : Statement .overfillInactive := rfl

theorem tiltInactive : Statement .tiltInactive := rfl

theorem ignitionInactive : Statement .ignitionInactive := rfl

end Sys2Proof.Laws.KindAndPort
end

