-- ==== Sys2Proof/Tests/Slice0.lean ====
section
/-! SUPPORT. Small tests: ill-formed commands that the check refuses, worked figures of the manual, and for each
statement of Certificates/Slice0/Obligations.lean that has hypotheses a state and operands that meet them. -/

namespace Sys2Proof.Tests

-- One theorem at a time: each waits for the kernel, and as many threads would wait as there are theorems.
set_option Elab.async false

open Sys2Proof Sys2Proof.Machine

/-! ## Ill-formed commands (R205) -/

theorem test_ill_formed_refused :
    ([.readMeter .uplink 256, .templatePut .uplink 256 8 8 [0] 0 0 2 none, .templatePut .uplink 0 256 8 [0] 0 0 2 none,
      .templatePut .uplink 0 8 256 [0] 0 0 2 none, .templatePut .uplink 0 8 8 [64] 0 0 2 none,
      .templatePut .uplink 0 8 8 [3, 3] 0 0 2 none, .templatePut .uplink 0 8 8 [0] 65536 0 2 none,
      .templatePut .uplink 0 8 8 [0] 0 256 2 none, .templatePut .uplink 0 8 8 [0] 0 0 256 none,
      .templatePut .uplink 0 8 8 [0] 0 0 2 (some 256), .templateClear .uplink 256, .tagSettingsPut .uplink 256,
      .templateRead .uplink 256, .readTagDiagnostics .uplink 256,
      .machinePut .uplink 281474976710656 0 0 1 none none none none 0 0,
      .machinePut .uplink 1 256 0 1 none none none none 0 0, .machinePut .uplink 1 0 256 1 none none none none 0 0,
      .machinePut .uplink 1 0 0 256 none none none none 0 0, .machinePut .uplink 1 0 0 1 (some 4294967296) none none none 0 0,
      .machinePut .uplink 1 0 0 1 none (some 4294967296) none none 0 0,
      .machinePut .uplink 1 0 0 1 none none (some 4294967296) none 0 0,
      .machinePut .uplink 1 0 0 1 none none none (some 4294967296) 0 0, .machinePut .uplink 1 0 0 1 none none none none 256 0,
      .machinePut .uplink 1 0 0 1 none none none none 0 256, .machineRemove .uplink 281474976710656,
      .openSitePut .uplink 256 0 none none, .openSitePut .uplink 0 256 none none,
      .openSitePut .uplink 0 0 (some 4294967296) none, .openSitePut .uplink 0 0 none (some 4294967296),
      .periodSettingsPut .uplink 65536] : List Instr).all (fun i => !i.wf) = true := by decide

theorem test_ill_formed_refused_tables :
    ([.groupRulePut .uplink 256 0 1 1 0 1 none none 0, .groupRulePut .uplink 0 256 1 1 0 1 none none 0,
      .groupRulePut .uplink 0 0 281474976710656 1 0 1 none none 0, .groupRulePut .uplink 0 0 1 281474976710656 0 1 none none 0,
      .groupRulePut .uplink 0 0 1 1 256 1 none none 0, .groupRulePut .uplink 0 0 1 1 0 256 none none 0,
      .groupRulePut .uplink 0 0 1 1 0 1 (some 4294967296) none 0, .groupRulePut .uplink 0 0 1 1 0 1 none (some 4294967296) 0,
      .groupRulePut .uplink 0 0 1 1 0 1 none none 65536, .contractorPut .uplink 256 0 0 0 none,
      .contractorPut .uplink 0 256 0 0 none, .contractorPut .uplink 0 0 32768 0 none, .contractorPut .uplink 0 0 (-32769) 0 none,
      .contractorPut .uplink 0 0 0 256 none, .contractorPut .uplink 0 0 0 0 (some 4294967296),
      .contractorSettle .uplink 256 0, .contractorSettle .uplink 0 4294967296, .machineRead .uplink 281474976710656,
      .machineList .uplink 281474976710656, .groupRuleRead .uplink 256, .contractorRead .uplink 256,
      .priceSet .uplink 256 1 0 none, .priceSet .uplink 0 256 0 none, .priceSet .uplink 0 1 16777216 none,
      .priceSet .uplink 0 1 0 (some 4294967296), .pricePendingClear .uplink 256, .authoriseManual .console 256 1 none,
      .authoriseManual .console 0 281474976710656 none, .authoriseManual .console 0 1 (some 4294967296),
      .armHose .console 256 0 none, .armHose .console 0 65536 none, .armHose .console 0 0 (some 4294967296),
      .disarmHose .console 256, .pauseHose .console 256, .resumeHose .console 256, .stopHose .console 256,
      .clearHalt .console 256, .clearLock .service 256] : List Instr).all (fun i => !i.wf) = true := by decide

theorem test_ill_formed_refused_settings :
    ([.hoseSettingsPut .uplink 256 0 0 0 0 0 0 0 0, .hoseSettingsPut .uplink 0 65536 0 0 0 0 0 0 0,
      .hoseSettingsPut .uplink 0 0 65536 0 0 0 0 0 0, .hoseSettingsPut .uplink 0 0 0 65536 0 0 0 0 0,
      .hoseSettingsPut .uplink 0 0 0 0 65536 0 0 0 0, .hoseSettingsPut .uplink 0 0 0 0 0 65536 0 0 0,
      .hoseSettingsPut .uplink 0 0 0 0 0 0 4294967296 0 0, .hoseSettingsPut .uplink 0 0 0 0 0 0 0 4294967296 0,
      .hoseSettingsPut .uplink 0 0 0 0 0 0 0 0 4294967296, .deliverySettingsPut .uplink 4294967296 0,
      .deliverySettingsPut .uplink 0 256, .readHose .uplink 256, .stockSettingsPut .uplink 256 0 0 0,
      .stockSettingsPut .uplink 0 4294967296 0 0, .stockSettingsPut .uplink 0 0 4294967296 0,
      .stockSettingsPut .uplink 0 0 0 4294967296, .openReceipt .console 256 0 [1] 1, .openReceipt .console 0 65536 [1] 1,
      .openReceipt .console 0 0 [1, 2, 3, 4, 5, 6, 7, 8, 9, 10, 11, 12, 13] 1, .openReceipt .console 0 0 [1, 0] 1,
      .openReceipt .console 0 0 [1] 4294967296, .reconcile .uplink 256 0, .reconcile .uplink 0 256,
      .strappingRead .uplink 256, .exportRead .uplink (some 4294967296), .exportRelease .uplink 4294967296,
      .viewRecord .uplink 4294967296, .calibrationWrite .service 256 0 0, .calibrationWrite .service 0 256 0,
      .calibrationWrite .service 0 0 9223372036854775808, .strappingWrite .service 256 [],
      .strappingWrite .service 0 (List.replicate 256 (0, 0)), .strappingWrite .service 0 [(65536, 0)],
      .strappingWrite .service 0 [(0, 4294967296)], .stockLoad .service 256 0, .stockLoad .service 0 4294967296,
      .proveHose .service 256 0, .proveHose .service 0 4294967296, .applyProving .service 256 0,
      .applyProving .service 0 4294967296, .inputSettingsPut .service 256 0 0, .inputSettingsPut .service 0 256 0,
      .inputSettingsPut .service 0 0 65536, .setTime .uplink 4294967296, .idleSettingsPut .uplink 65536 0,
      .idleSettingsPut .uplink 0 256, .ackEvents .uplink 4294967296, .setEventMask .uplink 4294967296,
      .responseRead .service 0, .watchExpiry 8, .hardwareReset 0 true 4294967296] : List Instr).all
        (fun i => !i.wf) = true := by decide +kernel

/-! ## Worked figures of the manual -/

/-- Chapter 2, under R26: the CRC-16 of the characters "123456789". -/
theorem test_crc_of_digits :
    crc16 [0x31#8, 0x32#8, 0x33#8, 0x34#8, 0x35#8, 0x36#8, 0x37#8, 0x38#8, 0x39#8] = 0x29B1#16 := by decide +kernel

/-- Section 1.5.1: P = 45,213 at MF 1,002,500 gives 453,260 mL; the mean of 30,230 over 91 samples is 332; the standard
volume is 446,413 mL. -/
theorem test_close_arithmetic :
    grossOf 100 1002500 45213 = 453260 ∧ roundInt 30230 91 = 332 ∧ ctlOf 830 332 = 984894 ∧
      standardOf 453260 (ctlOf 830 332) = 446413 := by decide

/-- Table 1-6. -/
theorem test_ctl_examples :
    ctlOf 835 151 = 999916 ∧ ctlOf 835 149 = 1000084 ∧ ctlOf 830 (-123) = 1022659 ∧ ctlOf 2000 800 = 900000 ∧
      ctlOf 2000 (-400) = 1100000 ∧ ctlOf 0 800 = 1000000 := by decide

/-- Table 4-2. -/
theorem test_adjusted_prices :
    adjustedPrice 1845 (-150) = 1817 ∧ adjustedPrice 1845 25 = 1850 ∧ adjustedPrice 1002 (-2000) = 802 ∧
      adjustedPrice 1 (-2000) = 1 ∧ adjustedPrice 99000 2000 = 99999 ∧ adjustedPrice 0 500 = 0 := by decide

/-- The strapping table of Table 8-5. -/
def table85 : List StrapPoint := [⟨0, 0⟩, ⟨2000, 900000⟩, ⟨8000, 4800000⟩, ⟨14000, 9300000⟩, ⟨18500, 12000000⟩]

/-- Section 8.7: three levels on the table of Table 8-5. -/
theorem test_strapping_volumes :
    strapVolume table85 8000 = (4800000, false) ∧ strapVolume table85 5200 = (2980000, false) ∧
      strapVolume table85 19000 = (12000000, true) := by decide

/-! ## Small states -/

def base : State := State.reset

/-- The state that a command leaves. -/
def after (c : Instr) (s : State) : State :=
  match exec c s with
  | .next t => t
  | .fault f => nomatch f
  | .refused _ => s

def granted : Granted :=
  { machine := 5, mode := .tag, cls := .listed, template := some 0, hours := none, contractor := 0, price := 100
    basis := .standard, tagRequired := true }

def dispense : Dispense :=
  { comp := .c1, granted := some granted, preset := 10000, limiter := .requested, committedVolume := 10000
    committedAmount := 100, seq := 1, proving := false }

def openRecord : Record :=
  { seq := 1, openTime := 0, closeTime := none
    body := .dispense
      { hose := .h1, comp := .c1
        ident := some
          { machine := 5, mode := .tag, cls := .listed, template := some 0, operator := 7, contractor := 0, price := 100
            basis := .standard }
        hours := none, preset := 10000, limiter := .requested, flags := {} } }

def faultRecord (n : Nat) : Record :=
  { seq := n, openTime := 0, closeTime := some 0
    body := .fault { source := .part, kind := .leak, locked := false, volume := none, repeats := none } }

def machine (n : Nat) : MachineEntry :=
  { number := n, status := .active, origin := .listed, contractor := 0, comps := ⟨true, true⟩, capacity := ⟨none, none⟩
    allowance := ⟨none, none⟩, manual := true, tagRequired := true }

def captured : Captured := { kFactor := 100, meterFactor := 1000000, window := 4 }

/-- A meter at 100 counted pulses. -/
def ownedMeter (owned : Bool) : MeterState :=
  { owned := owned, captured := some captured, counts := { aFwd := 100, bFwd := 100 } }

/-- A site that can authorise: a contractor, a price on each compartment, stock, and machine 5. -/
def site : State :=
  { base with
    bil :=
      { contractors := base.bil.contractors.set 0 { state := .opened }
        prices := ⟨{ current := some 100 }, { current := some 100 }⟩ }
    stk := { comps := ⟨{ book := { base := 9000000 } }, { book := { base := 9000000 } }⟩ }
    mtb := { base.mtb with machines := [machine 5] } }

/-- H1 in a state, with its timer, and nothing else in use. -/
def hoseState (st : HoseState) (timer : Option Nat) (s : State) : State :=
  modHose .h1 (fun c => { c with state := st, timer := timer, operator := some 7 }) s

/-- H1 in a dispense to machine 5, at 100 counted pulses. -/
def dispensing (st : HoseState) (timer : Option Nat) (d : Dispense) : State :=
  { site with
    mtr := { site.mtr with meters := site.mtr.meters.set .m1 (ownedMeter true) }
    hsc := { site.hsc with
      hoses := site.hsc.hoses.set .h1 { state := st, timer := timer, operator := some 7, dispense := some d }
      shadows := site.hsc.shadows.set .h1 (shadowOf d false)
      pumps := site.hsc.pumps.set .c1 { demand := ⟨inDemand st, false⟩, state := .running } }
    stk := { comps := site.stk.comps.set .c1 { book := { base := 9000000 }, op := .drawn 1, committed := 10000 } }
    bil := { site.bil with contractors := site.bil.contractors.set 0 { state := .opened, committed := 100 } }
    mtb := { site.mtb with machines := [{ machine 5 with marker := ⟨some .h1, none⟩ }] }
    jnl := { site.jnl with ring := [openRecord], nextSeq := 2 } }

def docket : Docket := { comp := .c1, supplier := 3, number := [0x41#8], expected := 1000, seq := 1 }

def receiptRecord : Record :=
  { seq := 1, openTime := 0, closeTime := none
    body := .receipt { comp := .c1, supplier := 3, docket := [0x41#8], expected := 1000 } }

def startedAt : Started := { source := .book, startLevel := none, startGross := 0, limit := 50000 }

/-- A receipt on C1 in a state, started unless it is DOCKETED, at 100 counted pulses. -/
def receiving (st : ReceiptState) (timer : Option Nat) (x : Option Started) : State :=
  { base with
    rcp := { base.rcp with
      receipt := { state := st, docket := some docket, started := x, timer := timer }
      shadow := { opened := true, seq := 1, started := x.isSome } }
    mtr := { base.mtr with meters := base.mtr.meters.set .mi (ownedMeter x.isSome) }
    stk := { comps := base.stk.comps.set .c1 { op := .receiving } }
    jnl := { base.jnl with ring := [receiptRecord], nextSeq := 2 } }

def reconcileCtx : ReconcileCtx := { mode := .set, seq := 1, readings := 9, levelSum := 9000, tempSum := 1800 }

/-- A reconcile on C1 with a number of readings, from a VALID probe. -/
def reconciling (n : Nat) : State :=
  { base with
    tpi := { base.tpi with
      reconciles := ⟨some { reconcileCtx with readings := n }, none⟩
      probes := ⟨{ latest := some { level := 1000, temp := 200, time := 0 }, valid := true }, {}⟩ }
    stk := { comps := base.stk.comps.set .c1 { op := .reconciling } }
    jnl := { base.jnl with
      ring := [{ seq := 1, openTime := 0, closeTime := none, body := .reconcile { comp := .c1, mode := .set } }]
      nextSeq := 2 } }

/-- Section 8.11: the figures of the dip, CTL_probe among them, and the last result kept with them (R156). -/
theorem test_dip_worked_sequence :
    (let s := modComp .c1 (fun k => { k with
       book := { base := 2000000, receipts := 7541772, dispensed := 960000, losses := 21772 }, strapping := table85 }) base
     let r : ReconcileResult :=
       { comp := .c1, mode := .set, outcome := .complete, ctlProbe := 994688, above := false
         figures :=
           { meanLevel := 13111, probeTemp := 214, dipGross := 8633250, dipStandard := 8587390, bookBefore := 8560000
             variance := 27390 } }
     (completeReconcile .c1 { mode := .set, seq := 1, readings := 10, levelSum := 131105, tempSum := 2143 } s).tpi.lastReconcile =
       some r) := by decide +kernel

/-- An input in a state. -/
def withInput (i : Input) (active : Bool) (s : State) : State := modInput i (fun x => { x with active := active }) s

/-- Calibration mode on, with its switch closed. -/
def calibrating : State := withInput .calSwitch true { base with cal := { base.cal with on := true } }

/-- A state with a response waiting on a port. -/
def waiting (p : Port) (refused : Nat) : State :=
  modPort p (fun x => { x with phase := .answered, answer := some (plain .ok), refused := refused }) base

/-- A template, and a frame of the machine 9 that it reads. -/
def template : Template :=
  { minLen := 8, maxLen := 8, offsets := [0], check := (crc16 [0xAB#8]).toNat, idOffset := 2, idLength := 2
    hoursOffset := none }

def payload (n : Byte) : List Byte := [0xAB#8, 0, 0, n, 0, 0, 0, 0]

def good : GoodFrame := { machine := 9, template := 0, hours := none }

/-- H1's reader enabled, in a state, with a confirm count. -/
def reading (n : Nat) (r : Reader) (s : State) : State :=
  { s with
    idu := { templates := s.idu.templates.set 0 (some template), confirmCount := n
             readers := s.idu.readers.set .h1 { r with enabled := true } } }

def present : Identity := { machine := 9, template := 0, hours := none, lastFrame := 0 }

/-- H1 in ENDING to machine 5, about to settle. -/
def ending : State := { dispensing .ending (some 2000) { dispense with outcome := some .complete, counted := 100, gross := 1000
                                                                       grossAtEnding := some 1000 } with
  pending := [.settleEnd .h1] }

/-- The power-fail warning, and the emergency stop latch. -/
def failing : State := withInput .powerfail true base
def latched : State := { base with itu := { base.itu with latch := true } }

def lockedHose : State :=
  let s := hoseState .locked none base
  { s with hsc := { s.hsc with faults := ⟨.locked .leak, .clear⟩ } }

def inletFault (f : FaultLevel) (s : State) : State := { s with rcp := { s.rcp with fault := f } }

/-- A ring with a CLOSED record 1, an OPEN record 2 and a CLOSED record 3. -/
def records : State :=
  { base with jnl := { base.jnl with ring := [faultRecord 1, { openRecord with seq := 2 }, faultRecord 3], nextSeq := 4 } }

/-- Every slot of the ring taken. -/
def fullRing (s : State) : State :=
  { s with jnl := { s.jnl with ring := List.replicate 1024 (faultRecord 1), nextSeq := 1025 } }

/-! ## The hypotheses of the statements can be met -/

theorem witness_StepRunsFrontCommand : ({ base with pending := [.clockTick, .clockTick] } : State).pending = .clockTick :: [.clockTick] :=
  rfl

/-- The nozzle of H1 is about to be hung up: its line goes to the other level in a time in ms. -/
def hanging (wait debounce : Nat) : State :=
  let s := modInput .stowed1 (fun x => { x with debounce := debounce }) base
  { s with itu := { s.itu with lines := [{ wait := wait, input := .stowed1, level := true }] } }

theorem witness_IdleStepPassesMillisecond :
    base.pending = [] ∧ base.itu.idleDeadline = some 1800000 ∧ base.itu.mono < 1800000 ∧ base.itu.lines = [] ∧
      (let s : State := { base with itu := { base.itu with mono := 1800000 } }
       s.pending = [] ∧ s.itu.idleDeadline = some 1800000 ∧ 1800000 ≤ s.itu.mono) ∧
      (∀ wait ∈ [0, 1, 2], ∀ debounce ∈ [0, 250], let s := hanging wait debounce
        s.pending = [] ∧ s.itu.lines = [{ wait := wait, input := .stowed1, level := true }] ∧
          (s.itu.inputs.get .stowed1).level = false ∧ (s.itu.inputs.get .stowed1).debounce = debounce ∧
          (true != (s.itu.inputs.get .stowed1).activeLow) ≠ (s.itu.inputs.get .stowed1).active) := by decide +kernel

/-- The line of H1's nozzle goes high at 1 ms and stays: with 20 ms of debounce the stow is taken at 21 ms (R186). -/
theorem test_debounce_takes_stow :
    (idleStep (hanging 1 20)).itu.inputs.stowed1.heldAt = some 21 ∧ (idleStep (hanging 1 20)).pending = [] ∧
      (let s := hanging 1 20
       let held : State :=
         { modInput .stowed1 (fun x => { x with level := true, heldAt := some 21 }) s with
           itu := { (modInput .stowed1 (fun x => { x with level := true, heldAt := some 21 }) s).itu with mono := 20, lines := [] } }
       (idleStep held).pending = [.nozzleStowed .h1]) := by decide +kernel

/-- The return of the line ends the measurement, and with debounce 0 the change is the stow at once (R186). -/
theorem test_debounce_return_and_zero :
    (driveLine .stowed1 false (driveLine .stowed1 true base)).itu = base.itu ∧
      inputActive (idleStep (hanging 1 0)) .stowed1 = true := by decide +kernel

/-- The idle timer's deadline moves at the hold timer's expiry of the same millisecond, and no event is raised (R192). -/
theorem test_idle_deadline_moves :
    (let s := idleStep
      { base with
        itu := { base.itu with idleDeadline := some 1 }
        rcp := { base.rcp with receipt := { state := .held, timer := some 1 } } }
     let t := after .holdTimerExpiry { s with pending := [] }
     s.pending = [.holdTimerExpiry] ∧ t.itu.idleDeadline = some 1800001 ∧ (idleStep t).pending = []) := by decide +kernel

/-- A state in which every invariant holds, with a dispense, a step of which closes it. -/
theorem witness_invariants :
    tableOk ending = true ∧ ringOk ending.jnl = true ∧ portsOk ending = true ∧ ownersOk ending = true ∧
      claimsOk ending = true ∧ recordsOk ending = true ∧ totalsOk ending = true ∧ inletOk ending = true := by
  decide +kernel

theorem witness_invariants_step : ∃ t, step ending = .next t := ⟨_, rfl⟩

theorem witness_CommitmentsStaySummed : ∀ i, contractorOk ending i := by
  intro i
  match i with
  | 0 => rfl
  | i + 1 =>
    have h : (contractorOf ending (i + 1)).committed = 0 := by
      show ((List.replicate 31 ({} : Contractor))[i]?.getD {}).committed = 0
      rw [List.getElem?_replicate]
      split <;> rfl
    have h1 : committedBy ending .h1 (i + 1) = 0 := by
      show (if some 0 = some (i + 1) then 100 else 0) = 0
      simp
    exact h.trans (by rw [h1]; rfl)

theorem witness_ClaimsStayExclusive :
    (let s := receiving .receiving none (some startedAt)
     ownersOk s = true ∧ claimsOk s = true ∧ (compartment s .c1).op = .receiving ∧ hoseComp s .h1 = .c1) ∧
    (let s := reconciling 1
     ownersOk s = true ∧ claimsOk s = true ∧ (compartment s .c1).op = .reconciling ∧ hoseComp s .h1 = .c1) := by
  decide +kernel

theorem witness_LatchTimeAndEventsStay :
    isReset .estopInactive = false ∧ latched.itu.latch = true ∧ (∃ t, exec .estopInactive latched = .next t) ∧
      base.itu.clockValid = true ∧ mayClearEvents .console (.ackEvents .uplink 16777215) = false ∧
      ∃ t, exec (.ackEvents .uplink 16777215) base = .next t :=
  ⟨rfl, rfl, ⟨_, rfl⟩, rfl, rfl, ⟨_, rfl⟩⟩

theorem witness_LockedLevelsStayLocked :
    carriesService (.clearLock .service 1) = false ∧ (.clearLock .service 1 : Instr) ≠ .clearLock .service (hoseCode .h1) ∧
      (hoseCtx lockedHose .h1).state = .locked ∧ (lockedHose.hsc.faults.get .h1).code = 2 ∧
      inletOk (inletFault (.locked .leak) base) = true ∧ (.clearInletLock .uplink : Instr) ≠ .clearInletLock .service ∧
      (inletFault (.locked .leak) base).rcp.fault.code = 2 := by decide

theorem witness_ParametersSealedOutsideCalibration :
    base.cal.on = false ∧ ∃ t, exec (.calibrationWrite .service 1 0 500) base = .next t := ⟨rfl, ⟨_, rfl⟩⟩

theorem witness_RecordsLeaveOnlyByRelease :
    (∃ t, exec (.exportRelease .uplink 2) records = .next t) ∧ mayRelease (.exportRead .uplink none) = false ∧
      { openRecord with seq := 2 } ∈ records.jnl.ring ∧ faultRecord 3 ∈ records.jnl.ring :=
  ⟨⟨_, rfl⟩, rfl, by decide, by decide⟩

theorem witness_PayloadDecodesToCommand :
    (Instr.priceSet .uplink 1 15 99999 (some 7)).wf = true ∧
      ∃ x, asRequest (.priceSet .uplink 1 15 99999 (some 7)) = some (.uplink, .priceSet, x) := ⟨by decide, ⟨_, rfl⟩⟩

theorem witness_FramesActAsTheirRequests :
    (Instr.clearLock .service 0).wf = true ∧ (∃ x, asRequest (.clearLock .service 0) = some (.service, .clearLock, x)) ∧
      (base.prt.ports.get .service).rx = [] := ⟨by decide, ⟨_, rfl⟩, rfl⟩

theorem witness_ImagesAndFramesHaveTheirLengths :
    (responseFrame (okWith [.nat 2 7])).length < 65536 := by decide

theorem witness_RequestsTurnedAway :
    (∃ x, asRequest (.pauseHose .uplink 0) = some (.uplink, .pauseHose, x)) ∧ portReady (waiting .uplink 0) .uplink = false ∧
      portReady failing .uplink = true ∧ powerFail failing = true ∧ takes base .uplink = true ∧
      permitted .pauseHose .uplink = false := ⟨⟨_, rfl⟩, rfl, rfl, rfl, rfl, rfl⟩

/-- A frame of an unknown request code. -/
def unknownFrame : List Byte := [0, 5, 0xFF#8] ++ crcBytes [0, 5, 0xFF#8]

theorem witness_FramesTurnedAway :
    portReady (waiting .uplink 0) .uplink = false ∧ portReady base .uplink = true ∧ frameOk [0#8] = false ∧
      frameOk unknownFrame = true ∧ portReady failing .uplink = true ∧ powerFail failing = true ∧ takes base .uplink = true ∧
      frameKind unknownFrame = none := by decide +kernel

theorem witness_FramesTurnedAway_form :
    frameOk (requestFrame .readMeter [0, 0]) = true ∧ frameKind (requestFrame .readMeter [0, 0]) = some .readMeter ∧
      permitted .readMeter .uplink = true ∧
      payloadCommand .uplink .readMeter (framePayload (requestFrame .readMeter [0, 0])) = none := by decide +kernel

theorem witness_FramesTurnedAway_service :
    (base.prt.ports.get .service).rx = [] ∧
      (let s := modPort .service (fun x => { x with rx := [0#8] }) base
       (s.prt.ports.get .service).rx ≠ [] ∧ frameOk (s.prt.ports.get .service).rx = false ∧ portReady s .service = true) := by
  decide +kernel

theorem witness_ResponsesLeaveWhenRead :
    firstResponse (base.prt.ports.get .uplink) = none ∧
      (∀ n ∈ [0, 255], let s := waiting .uplink n
        firstResponse (s.prt.ports.get .uplink) = some (plain .ok) ∧ portOk (s.prt.ports.get .uplink) = true ∧
          0 < (responseFrame (plain .ok)).length ∧ (responseFrame (plain .ok)).length ≤ 5) ∧
      firstResponse ((waiting .service 1).prt.ports.get .service) = some (plain .ok) := by decide +kernel

theorem witness_takes : ∀ p ∈ [Port.console, .uplink, .service], takes base p = true := by decide

theorem witness_TemplateRequests :
    let t := template
    8 ≤ t.minLen ∧ t.minLen ≤ t.maxLen ∧ t.maxLen ≤ 64 ∧ t.offsets ≠ [] ∧ t.offsets.length ≤ 16 ∧ t.offsets.Nodup ∧
      (∀ o ∈ t.offsets, o ≤ 63) ∧ t.check ≤ 65535 ∧ 2 ≤ t.idLength ∧ t.idLength ≤ 6 ∧ t.idOffset + t.idLength ≤ t.minLen ∧
      (∀ o ∈ t.hoursOffset, o + 3 ≤ t.minLen) := by decide +kernel

theorem witness_TemplateRequests_read :
    (reading 3 {} base).idu.templates[0]? = some (some template) ∧ base.idu.templates[8]? = none := by decide +kernel

/-- The frame of machine 9, and what the reader makes of it. -/
def crcOf9 : List Byte := crcBytes (8 :: payload 9)

/-- Readers at which the first frame of machine 9 confirms, or builds a candidate: unbound and bound, with and without a
present identity, at a hose that is in flow. -/
theorem witness_TagSettingsWriteAndRead :
    ∀ n ∈ [1, 2], ∀ bound ∈ [none, some 5, some 9], ∀ id ∈ [none, some { present with machine := 5 }],
      let s := reading n { reception := if id.isSome then .present else .absent, present := id, bound := bound }
        (dispensing .flowing (some 30000) dispense)
      let r := s.idu.readers.get .h1
      r.enabled = true ∧ r.phase = .hunt ∧ (payload 9).length = (8#8).toNat ∧ crcOf9.length = 2 ∧
        judgeFrame s.idu.templates (8#8).toNat (payload 9) crcOf9 = .ok good ∧
        (∀ x ∈ r.present, x.machine ≠ good.machine) ∧ readerWanted s .h1 = true ∧ (hoseCtx s .h1).state ≠ .armed ∧
        s.idu.confirmCount = n ∧ (growCandidate good s.itu.mono r.candidate).count = 1 := by decide +kernel

theorem witness_TagSettingsWriteAndRead_step :
    ∃ t, exec (.tagFrame .h1 ([0xA5#8, 8] ++ payload 9 ++ crcOf9)) (reading 1 {} base) = .next t := ⟨_, rfl⟩

theorem witness_MachinePutWritesEntry :
    takes site .uplink = true ∧ lookup site.mtb.machines 5 = some (machine 5) ∧ lookup site.mtb.machines 281474976710655 = none ∧
      site.mtb.machines.length < 512 ∧
      (let ms := (List.range 512).map fun n => machine (n + 1)
       lookup ms 513 = none ∧ 512 ≤ ms.length) := by decide +kernel

/-- Machine 5 with a marker, as in a dispense. -/
def marked : State := dispensing .ready (some 60000) dispense

theorem witness_MachineRemoveAndReads :
    takes marked .uplink = true ∧ lookup marked.mtb.machines 5 = some { machine 5 with marker := ⟨some .h1, none⟩ } ∧
      lookup site.mtb.machines 5 = some (machine 5) ∧ (machine 5).marker = ⟨none, none⟩ ∧
      lookup site.mtb.machines 6 = none ∧
      (let e := { machine 5 with status := .removing, marker := ⟨some .h1, none⟩ }
       lookup [e] 5 = some e) := by decide +kernel

theorem witness_SiteAndRuleSettings :
    takes site .uplink = true ∧ site.mtb.rules[7]? = some ({} : GroupRule) ∧ site.mtb.rules[8]? = none := by decide

theorem witness_ContractorSettleAndRead :
    site.bil.contractors[31]? = some ({} : Contractor) ∧ takes site .service = true := by decide

/-- A state with a pending price of C1 that takes effect at 10. -/
def priced (clock : Nat) : State :=
  { site with
    bil := { site.bil with prices := ⟨{ current := some 100, pending := some { price := 7, effective := 10, origin := .uplink } }, {}⟩ }
    itu := { site.itu with clock := clock } }

theorem witness_PriceSetAndRead :
    takes site .uplink = true ∧ 2 ≠ (priceRecord site .c1).product ∧ 1 = (priceRecord site .c1).product ∧
      ({ site.itu with clockValid := false } : Itu).clockValid = false ∧ site.itu.clockValid = true ∧ site.itu.clock < 1 ∧
      0 ≤ site.itu.clock ∧ freeSlots site.jnl ≠ 0 ∧ freeSlots (fullRing site).jnl = 0 := by decide +kernel

theorem witness_PricePendingClearWithdraws :
    takes (priced 0) .uplink = true ∧ (priceRecord (priced 0) .c1).pending ≠ none ∧
      (priceRecord (priced 0) .c2).pending = none := by decide +kernel

theorem witness_ArmingAndDisarming :
    commonRefusal site = none ∧ (hoseCtx site .h1).state = .idle ∧ commonRefusal latched = some .estop ∧
      (let s := hoseState .armed (some 120000) site
       takes s .console = true ∧ (hoseCtx s .h1).state = .armed ∧ (hoseCtx s .h1).timer = some 120000) ∧
      takes marked .console = true ∧ hasDispense (hoseCtx marked .h1).state = true := by decide +kernel

/-- H1 PAUSED with causes. -/
def paused (k : Causes) : State := dispensing .paused (some 60000) { dispense with causes := k }

theorem witness_PauseAndResume :
    (let s := dispensing .flowing (some 30000) dispense
     takes s .console = true ∧ (hoseCtx s .h1).state = .flowing ∧ (hoseCtx s .h1).dispense = some dispense) ∧
    (hoseCtx (dispensing .slowing (some 30000) dispense) .h1).state = .slowing ∧
    (let d := { dispense with causes := { operator := true, tag := true } }
     (hoseCtx (paused { operator := true, tag := true }) .h1).dispense = some d ∧ d.causes.operator = true ∧ d.causes.tag = true) ∧
    (hoseCtx (paused { operator := true }) .h1).dispense = some { dispense with causes := { operator := true } } ∧
    (hoseCtx (paused { tag := true }) .h1).state = .paused ∧ (hoseCtx site .h1).state ≠ .paused ∧
    ∀ d ∈ (hoseCtx (paused { tag := true }) .h1).dispense, d.causes.operator = false := by decide +kernel

theorem witness_StopHoseEndsDispense :
    (∀ st ∈ [HoseState.priming, .ready, .flowing, .slowing, .paused],
      let s := dispensing st (some 30000) dispense
      takes s .uplink = true ∧ inDemand (hoseCtx s .h1).state = true ∧ (hoseCtx s .h1).dispense = some dispense) ∧
    (hoseCtx ending .h1).state = .ending ∧ takes ending .uplink = true ∧ inUse (hoseCtx lockedHose .h1).state = false := by
  decide +kernel

/-- H1 HALTED by a kind. -/
def haltedHose (k : FaultKind) : State :=
  let s := hoseState .halted none base
  { s with hsc := { s.hsc with faults := ⟨.halted k, .clear⟩ } }

theorem witness_ClearsReturnHoseToIdle :
    (∀ k ∈ [FaultKind.pumpStart, .channel, .overrun, .leak],
      takes (haltedHose k) .console = true ∧ (hoseCtx (haltedHose k) .h1).state = .halted ∧
        (haltedHose k).hsc.faults.get .h1 = .halted k) ∧
    (hoseCtx site .h1).state ≠ .halted ∧ (∀ p ∈ [Port.console, .uplink, .service], takes lockedHose p = true) ∧
    (hoseCtx lockedHose .h1).state = .locked := by decide +kernel

/-- The reason the checks give against a manual authorisation, if any. -/
def objection (h : Hose) (n : Nat) (s : State) : Option Reason :=
  match (runChecks h { machine := n, mode := .manual, template := none, hours := none } s).2 with
  | .ok _ => none
  | .error r => some r

def armed : State := hoseState .armed (some 120000) site

theorem witness_PresetIsTheFirstLeastFigure :
    ∃ g, presetCheck .h1 { machine := 5, mode := .manual, template := none, hours := none } (machine 5) .listed site = .ok g :=
  ⟨_, rfl⟩

theorem witness_ManualAuthorisation :
    takes armed .console = true ∧ (hoseCtx armed .h1).state = .armed ∧ objection .h1 5 (wake armed) = none ∧
      objection .h1 6 (wake armed) = some .unknownMachine ∧
      objection .h1 5 (wake (fullRing armed)) = some .journalFull := by decide +kernel

theorem witness_ManualAuthorisation_grant :
    ∃ w g, runChecks .h1 { machine := 5, mode := .manual, template := none, hours := none } (wake armed) = (w, .ok g) :=
  ⟨_, _, rfl⟩

theorem witness_FlowTimersEnterEnding :
    ∀ st ∈ [HoseState.ready, .flowing, .slowing, .paused],
      let s := dispensing st (some 30000) dispense
      (hoseCtx s .h1).state = st ∧ (hoseCtx s .h1).timer = some 30000 ∧ (hoseCtx s .h1).dispense = some dispense := by
  decide +kernel

/-- A dispense in ENDING whose machine is of a status, of 1,000 mL, with a watch OVERDUE and a reorder level above the
book; and the same with its meter at no counts. -/
def closing (st : MachineStatus) (gross : Nat) : State :=
  { ending with
    mtr := { ending.mtr with
      meters := ending.mtr.meters.set .m1 { ownedMeter true with counts := { aFwd := gross / 10, bFwd := gross / 10 } } }
    mtb := { ending.mtb with
      machines := [{ machine 5 with status := st, marker := ⟨some .h1, none⟩ }]
      rules := ending.mtb.rules.set 0 { active := true, low := 1, high := 9, interval := 10, watch := .overdue } }
    stk :=
      { ending.stk with
        comps := ending.stk.comps.set .c1
          { book := { base := 500 }, op := .drawn 1, committed := 10000, settings := { level := 9000000 } } } }

theorem witness_SettleEndClosesDispense :
    ∀ st ∈ [MachineStatus.active, .removing], ∀ gross ∈ [0, 1000],
      let s := closing st gross
      let d := (hoseCtx s .h1).dispense
      (hoseCtx s .h1).state = .ending ∧ (hoseCtx s .h1).timer = some 2000 ∧ d.bind (·.granted) = some granted ∧
        d.bind (·.outcome) = some .complete ∧ d.bind (·.grossAtEnding) = some 1000 ∧
        lookup s.mtb.machines granted.machine = some { machine 5 with status := st, marker := ⟨some .h1, none⟩ } ∧
        s.bil.contractors[granted.contractor]? = some { state := .opened, committed := 100 } ∧
        runningGross s.mtr.meters.m1 = gross := by decide +kernel

/-- Below a reorder level raised since, a close of 1,000 mL gives the reorder notice (R136) and one of no volume none (R131). -/
theorem test_zero_close_gives_no_notice :
    ∀ gross ∈ [0, 1000],
      let t := after (.settleEnd .h1) (closing .active gross)
      (compartment t .c1).notified = (gross != 0) ∧
        hasEvent (t.prt.ports.get .uplink).pending .restockDue = (gross != 0) ∧
        (compartment t .c1).committed = 0 ∧ (compartment t .c1).op = .free := by decide +kernel

/-- A proving run in ENDING, which has no grant, and makes a result. -/
theorem witness_SettleEndClosesDispense_proving :
    let d := { dispense with granted := none, proving := true, outcome := some .proving, endCause := some .complete
                             grossAtEnding := some 1000 }
    (hoseCtx (dispensing .ending (some 2000) d) .h1).dispense = some d ∧ d.granted = none ∧
      (ownedMeter true).captured = some captured ∧ 0 < runningGross (ownedMeter true) := by decide +kernel

/-- H1 in a state with the pump of C1 in a state, and the run input not confirmed, or confirmed. -/
def pumped (st : HoseState) (p : PumpState) (confirmed : Bool) : State :=
  let s := withInput .pumpRun1 confirmed (dispensing st (some 30000) dispense)
  { s with hsc := { s.hsc with pumps := s.hsc.pumps.set .c1 { demand := ⟨true, false⟩, state := p } } }

theorem witness_PumpConfirmationAndAttempts :
    (∀ r ∈ [0, 2], let s := pumped .priming (.starting r 5000) false
      inputActive s (pumpInput .c1) = false ∧ (s.hsc.pumps.get .c1).state = .starting r 5000 ∧
        (s.hsc.pumps.get .c1).demand.get .h1 = true ∧ (hoseCtx s .h1).state = .priming ∧
        (hoseCtx s .h1).dispense = some dispense) ∧
    (∀ k ∈ [({ pump := true } : Causes), { pump := true, tag := true }, { tag := true }], ∀ p ∈ [PumpState.starting 0 5000, .running],
      let s := pumped .paused p (p == .running)
      let s := modDispense .h1 (fun d => { d with causes := k }) s
      inputActive s (pumpInput .c1) = (p == .running) ∧ (s.hsc.pumps.get .c1).state = p ∧
        (s.hsc.pumps.get .c1).demand.get .h1 = true ∧ (hoseCtx s .h1).state = .paused ∧
        (hoseCtx s .h1).dispense = some { dispense with causes := k }) ∧
    (∀ st ∈ [HoseState.ready, .flowing, .slowing], let s := pumped st .running true
      inputActive s (pumpInput .c1) = true ∧ (s.hsc.pumps.get .c1).state = .running ∧
        (s.hsc.pumps.get .c1).demand.get .h1 = true ∧ (hoseCtx s .h1).state = st ∧
        (hoseCtx s .h1).dispense = some dispense) ∧
    inputActive base (pumpInput .c1) = false ∧ (base.hsc.pumps.get .c1).state = .stopped ∧
    inputActive (withInput .pumpRun1 true base) (pumpInput .c1) = true := by decide +kernel

theorem witness_NozzleStowedAndLifted :
    inputActive base (stowedInput .h1) = false ∧ inputActive (withInput .stowed1 true base) (stowedInput .h1) = true ∧
      (∀ st ∈ [HoseState.priming, .ready, .flowing, .slowing, .paused, .ending],
        let s := dispensing st (some 30000) dispense
        inputActive s (stowedInput .h1) = false ∧ (hoseCtx s .h1).dispense = some dispense) ∧
      (hoseCtx armed .h1).state = .armed := by decide +kernel

theorem witness_OutputsFollowStates :
    latched.itu.latch = true ∧ powerFail failing = true ∧ mainValve marked .h1 = true ∧ slowValve marked .h1 = true ∧
      marked.itu.latch = false ∧ powerFail marked = false := by decide +kernel

/-- A meter with counts. -/
def counting (m : MeterId) (a b : Nat) (s : State) : State :=
  modMeter m (fun x => { x with counts := { aFwd := a, bFwd := b } }) s

/-- M1 unowned with leak counts. -/
def leaking (n : Nat) : State := modMeter .m1 (fun x => { x with leaks := { aFwd := n, bFwd := n } }) base

theorem witness_PulseArrivalsAreCounted :
    powerFail failing = true ∧ powerFail base = false ∧
      (let x := (leaking 9).mtr.meters.get .m1
       x.owned = false ∧ leakCounter (countPulse .a false x.leaks) ≤ x.params.leakThreshold) ∧
      (let x := (leaking 10).mtr.meters.get .m1
       powerFail (leaking 10) = false ∧ x.owned = false ∧
         x.params.leakThreshold < leakCounter (countPulse .a false x.leaks) ∧ ownersOk (leaking 10) = true) ∧
      (let x := marked.mtr.meters.get .m1
       powerFail marked = false ∧ x.owned = true ∧
         countedPulses (countPulse .a false x.counts) = countedPulses x.counts ∧
         ∀ k ∈ x.captured, netDifference (countPulse .a false x.counts) ≤ k.window) ∧
      (let x := (counting .m1 104 100 marked).mtr.meters.get .m1
       x.owned = true ∧ ∃ k ∈ x.captured, k.window < netDifference (countPulse .a false x.counts)) := by decide +kernel

/-- An arrival that ends the agreement of a meter and counts no pulse. -/
def disagreeing (m : MeterId) (s : State) : State := counting m 104 100 s

theorem witness_PulseArrivalsAreCounted_leak :
    (∀ st ∈ [HoseState.idle, .armed, .halted, .locked],
      let s := hoseState st none (leaking 10)
      ownersOk s = true ∧ powerFail s = false) ∧
    ∀ f ∈ [FaultLevel.clear, .halted .sensor, .locked .leak],
      let s := modMeter .mi (fun x => { x with leaks := { aFwd := 10, bFwd := 10 } }) (inletFault f base)
      ownersOk s = true ∧ s.mtr.meters.mi.owned = false ∧
        s.mtr.meters.mi.params.leakThreshold < leakCounter (countPulse .a false s.mtr.meters.mi.leaks) := by decide +kernel

theorem witness_PulseArrivalsAreCounted_channel :
    (∀ st ∈ [HoseState.priming, .ready, .flowing, .slowing, .paused, .ending], ∀ o ∈ [DispenseOutcome.complete, .fault],
      let d := { dispense with outcome := some o }
      let s := disagreeing .m1 (dispensing st (some 30000) d)
      let x := s.mtr.meters.m1
      powerFail s = false ∧ x.owned = true ∧ x.disagreed = false ∧ x.captured = some captured ∧
        captured.window < netDifference (countPulse .a false x.counts) ∧
        countedPulses (countPulse .a false x.counts) = countedPulses x.counts ∧ (hoseCtx s .h1).dispense = some d ∧
        hasDispense (hoseCtx s .h1).state = true) ∧
    ∀ st ∈ [ReceiptState.receiving, .held, .settling],
      let s := disagreeing .mi (receiving st (some 20000) (some startedAt))
      let x := s.mtr.meters.mi
      powerFail s = false ∧ x.owned = true ∧ x.disagreed = false ∧ x.captured = some captured ∧
        captured.window < netDifference (countPulse .a false x.counts) ∧
        countedPulses (countPulse .a false x.counts) = countedPulses x.counts ∧ s.rcp.receipt.docket = some docket ∧
        s.rcp.receipt.started.isSome = true ∧ (receiptRuns s.rcp.receipt.state = true ∨ s.rcp.receipt.state = .settling) := by
  decide +kernel

/-- H1 with a preset and 1,010 mL at the next report; its overrun tolerance is 500 mL. -/
def nearing (st : HoseState) (preset : Nat) : State :=
  let s := counting .m1 101 100 (dispensing st (some 30000) { dispense with preset := preset })
  { s with hsc := { s.hsc with params := s.hsc.params.set .h1 { overrun := 500 } } }

theorem witness_CountReportsDriveDispense :
    ∀ st ∈ [HoseState.priming, .ready, .flowing, .slowing, .paused, .ending], ∀ preset ∈ [10000, 1011, 1010, 510, 509],
      let s := nearing st preset
      let x := s.mtr.meters.get .m1
      let counts := countPulse .b true x.counts
      powerFail s = false ∧ x.owned = true ∧ (hoseCtx s .h1).state = st ∧
        (hoseCtx s .h1).dispense = some { dispense with preset := preset } ∧ countedPulses counts ≠ countedPulses x.counts ∧
        runningGross { x with counts := counts } = 1010 ∧ ∀ k ∈ x.captured, netDifference counts ≤ k.window := by
  decide +kernel

theorem witness_CountReportsDriveDispense_receipt :
    ∀ limit ∈ [50000, 1011, 1010],
      let s := counting .mi 101 100 (receiving .receiving none (some { startedAt with limit := limit }))
      let m := s.mtr.meters.mi
      let counts := countPulse .b true m.counts
      powerFail s = false ∧ m.owned = true ∧ receiptRuns s.rcp.receipt.state = true ∧
        s.rcp.receipt.started = some { startedAt with limit := limit } ∧ countedPulses counts ≠ countedPulses m.counts ∧
        runningGross { m with counts := counts } = 1010 ∧ ∀ k ∈ m.captured, netDifference counts ≤ k.window := by
  decide +kernel

/-- A VALID sensor, a VALID probe, bytes begun on both lines. -/
def sensing : State :=
  { base with tpi := { base.tpi with sensors := ⟨{ latest := some { value := 200, time := 0 }, valid := true }, {}, { rx := [0x5A#8] }⟩
                                     probes := ⟨{ latest := some { level := 9, temp := 0, time := 0 }, valid := true }, { rx := [0x5B#8] }⟩ } }

def probeReceipt : State :=
  { receiving .receiving none (some { startedAt with source := .probe }) with tpi := sensing.tpi }

theorem witness_SensorAndProbeFrames :
    base.itu.standby = false ∧ (base.tpi.sensors.get .m1).rx = [] ∧ (base.tpi.probes.get .c1).rx = [] ∧
      base.tpi.reconciles.get .c1 = none ∧ beValue [0x9C#8, 0x40#8] ≤ 40000 ∧ 40000 < beValue [0x9C#8, 0x41#8] ∧
      base.rcp.receipt.started = none ∧ (probeReceipt.tpi.probes.get .c1).rx = [] ∧ (sensing.tpi.sensors.get .m1).valid = true ∧
      (sensing.tpi.sensors.get .m1).latest = some { value := 200, time := 0 } ∧ (sensing.tpi.probes.get .c1).valid = true ∧
      (sensing.tpi.probes.get .c1).latest = some { level := 9, temp := 0, time := 0 } ∧
      (∀ x ∈ sensing.rcp.receipt.started, x.source ≠ .probe) ∧ (sensing.tpi.sensors.get .mi).rx ≠ [] ∧
      (sensing.tpi.probes.get .c2).rx ≠ [] ∧ ({ base.itu with standby := true } : Itu).standby = true ∧
      (probeReceipt.tpi.probes.get .c1).valid = true ∧ probeReceipt.tpi.reconciles.get .c1 = none ∧
      receiptRuns probeReceipt.rcp.receipt.state = true ∧
      probeReceipt.rcp.receipt.started = some { startedAt with source := .probe } ∧
      probeReceipt.rcp.receipt.docket = some docket ∧ docket.comp = .c1 := by decide +kernel

theorem witness_TagFramesAreJudged :
    (base.idu.readers.get .h1).enabled = false ∧
      (let s := reading 2 {} armed
       let r := s.idu.readers.get .h1
       r.enabled = true ∧ r.phase = .hunt ∧ (payload 9).length = (8#8).toNat ∧ crcOf9.length = 2 ∧
         [0#8, 0] ≠ crcBytes (8 :: payload 9) ∧ judgeFrame s.idu.templates 8 (payload 9) [0, 0] = .error .crc ∧
         judgeFrame s.idu.templates 8 (payload 9) crcOf9 = .ok good ∧ r.present = none ∧
         (growCandidate good 0 r.candidate).count < s.idu.confirmCount) ∧
      (let r := (reading 1 { reception := .present, present := some present } armed).idu.readers.get .h1
       r.present = some present ∧ present.machine = good.machine ∧ r.reception = .present) ∧
      (∀ lost ∈ [true, false], ∀ st ∈ [HoseState.flowing, .paused],
        let s := reading 1 { reception := .grace, present := some present, lost := lost } (dispensing st (some 30000) dispense)
        let r := s.idu.readers.get .h1
        r.present = some present ∧ r.reception = .grace ∧ r.lost = lost ∧ (hoseCtx s .h1).state = st ∧
          (hoseCtx s .h1).dispense = some dispense ∧ readerWanted s .h1 = true) ∧
      (∀ bound ∈ [5, 9], ∀ lost ∈ [true, false], ∀ st ∈ [HoseState.ready, .paused, .ending],
        let s := reading 1 { bound := some bound, lost := lost } (dispensing st (some 30000) dispense)
        let r := s.idu.readers.get .h1
        r.present = none ∧ r.bound = some bound ∧ r.lost = lost ∧ readerWanted s .h1 = true ∧
          (growCandidate good 0 r.candidate).ident.machine = 9 ∧
          s.idu.confirmCount ≤ (growCandidate good 0 r.candidate).count) ∧
      (let s := reading 1 {} armed
       let r := s.idu.readers.get .h1
       r.present = none ∧ r.bound = none ∧ (hoseCtx s .h1).state = .armed ∧
         s.idu.confirmCount ≤ (growCandidate good 0 r.candidate).count) := by decide +kernel

theorem witness_TagGapsAndGrace :
    (let r := (reading 1 { phase := .length, rxBytes := [0xA5#8] } base).idu.readers.get .h1
     r.enabled = true ∧ r.phase ≠ .hunt) ∧
    (let k : Candidate := { ident := present, count := 1 }
     ((reading 3 { candidate := some k } base).idu.readers.get .h1).candidate = some k) ∧
    (let r := (reading 3 { reception := .present, present := some present } base).idu.readers.get .h1
     r.reception = .present ∧ r.present = some present) ∧
    (∀ st ∈ [HoseState.priming, .ready, .flowing, .slowing, .paused],
      let s := reading 3 { reception := .grace, present := some present, graceDeadline := some 3000 }
        (dispensing st (some 30000) dispense)
      (s.idu.readers.get .h1).graceDeadline = some 3000 ∧ tagApplies s .h1 = true ∧
        (hoseCtx s .h1).dispense = some dispense ∧ (hoseCtx s .h1).state = st) ∧
    tagApplies base .h1 = false ∧ (hoseCtx ending .h1).state = .ending := by decide +kernel

def docketed : State := withInput .earthBond true (receiving .docketed none none)

theorem witness_ReceiptRequests :
    takes base .uplink = true ∧ (∀ b ∈ [0x20#8, 0x7E#8], 0x20 ≤ b.toNat ∧ b.toNat ≤ 0x7E) ∧
      base.rcp.receipt.state = .idle ∧ base.rcp.fault = .clear ∧ (compartment base .c1).op = .free ∧ ¬freeSlots base.jnl ≤ 4 ∧
      takes docketed .console = true ∧ docketed.rcp.receipt.state = .docketed ∧
      docketed.rcp.receipt.docket = some docket ∧ docketed.rcp.receipt.started = none ∧
      inputActive docketed .earthBond = true ∧ receiptLimit (compartment docketed .c1) (startPoint .c1 docketed).2.2 ≠ 0 ∧
      (docketed.tpi.probes.get .c1).valid = false ∧
      (∀ st ∈ [ReceiptState.receiving, .held, .settling],
        let s := receiving st (some 300000) (some startedAt)
        takes s .console = true ∧ s.rcp.receipt.state = st) ∧
      receiptRuns .held = true ∧ inputActive base .tilt = false ∧ (sensing.tpi.probes.get .c1).valid = true := by
  decide +kernel

theorem witness_ReceiptEventsAndClears :
    (let s := receiving .receiving none (some startedAt)
     inputActive (withInput .earthBond true s) .earthBond = true ∧ inputActive s .earthBond = false ∧
       inputActive s .overfill = false) ∧
    (let s := receiving .held (some 300000) (some startedAt)
     s.rcp.receipt.state = .held ∧ s.rcp.receipt.timer = some 300000) ∧
    (let s := receiving .settling (some 20000) (some startedAt)
     s.rcp.receipt.state = .settling ∧ s.rcp.receipt.timer = some 20000 ∧ s.rcp.receipt.docket = some docket ∧
       s.rcp.receipt.started.isSome = true) ∧
    (∀ k ∈ [FaultKind.sensor, .channel, .leak],
      let s := inletFault (.halted k) base
      takes s .uplink = true ∧ s.rcp.fault = .halted k ∧ s.rcp.receipt.state = .idle ∧ s.rcp.fault.code ≠ 2) ∧
    (let s := inletFault (.halted .sensor) (receiving .settling (some 20000) (some startedAt))
     takes s .console = true ∧ s.rcp.fault = .halted .sensor ∧ s.rcp.receipt.state = .settling) ∧
    (inletFault (.locked .leak) base).rcp.fault = .locked .leak ∧ (inletFault (.locked .leak) base).rcp.fault.code ≠ 1 ∧
    takes base .service = true := by decide +kernel

theorem witness_ReconcileAndDipReads :
    (takes sensing .uplink = true ∧ (compartment sensing .c1).op = .free ∧ (sensing.tpi.probes.get .c1).valid = true ∧
      inputActive sensing .tilt = false ∧ freeSlots sensing.jnl ≠ 0) ∧
    (∀ n ∈ [0, 8, 9],
      let s := reconciling n
      let k := { reconcileCtx with readings := n }
      s.itu.standby = false ∧ (s.tpi.probes.get .c1).rx = [] ∧ s.tpi.reconciles.get .c1 = some k ∧
        inputActive s .tilt = false ∧ (s.tpi.probes.get .c1).valid = true ∧
        (s.tpi.probes.get .c1).latest = some { level := 1000, temp := 200, time := 0 }) ∧
    (reconciling 1).tpi.reconciles.c2 = none := by decide +kernel

theorem witness_JournalRequests :
    takes records .uplink = true ∧ positionOf records.jnl 4 = .ahead ∧ positionOf records.jnl 4294967295 = .behind ∧
      positionOf records.jnl 1 = .inRing 0 ∧ positionOf records.jnl 3 = .inRing 2 ∧
      records.jnl.ring[2]? = some (faultRecord 3) ∧ (∀ r ∈ records.jnl.ring.take 1, r.isOpen = false) ∧
      (∃ r ∈ records.jnl.ring.take 3, r.isOpen = true) ∧ saturated records.jnl = false ∧
      dueFor records .c1 = none ∧ dueFor records .c2 = none ∧
      (let e : Deferred := { kind := .leak, locked := false, volume := none, repeats := 0, firstTime := 0 }
       let j : Jnl := { base.jnl with deferred := ⟨none, some e, none, some e⟩ }
       j.deferred.get .h2 = some e ∧ freeSlots j ≠ 0 ∧
         ∀ other ∈ [Source.h1, .h2, .inlet, .part], other.ctorIdx < Source.h2.ctorIdx → j.deferred.get other = none) := by
  decide +kernel

theorem witness_CalibrationModeBeginsAndEnds :
    takes calibrating .service = true ∧ calibrating.cal.on = true ∧ inputActive calibrating .calSwitch = true ∧
      powerFail calibrating = false ∧ base.cal.on = false ∧ inputActive base .calSwitch = false ∧
      (let s := withInput .calSwitch true base
       takes s .service = true ∧ s.cal.on = false ∧ inputActive s .calSwitch = true ∧ inUse (hoseCtx s .h1).state = false ∧
         s.rcp.receipt.state = .idle) := by decide +kernel

def proof : ProvingResult := { seq := 1, gross := 100000, kFactor := 100, meterFactor := 1000000, endCause := .complete }

theorem witness_CalibrationWritesAndProving :
    takes base .service = true ∧ base.cal.on = false ∧ takes calibrating .service = true ∧ calibrating.cal.on = true ∧
      freeSlots calibrating.jnl ≠ 0 ∧ freeSlots (fullRing calibrating).jnl = 0 ∧ (compartment calibrating .c1).op = .free ∧
      (∀ h ∈ [Hose.h1, .h2], hasDispense (hoseCtx calibrating h).state = false ∧ (hoseCtx calibrating h).state = .idle) ∧
      (2 : Int).toNat ≠ (priceRecord calibrating .c1).product ∧
      (let points := [(0, 0), (40000, 99999999)]
       2 ≤ points.length ∧ points.length ≤ 32 ∧ (∀ x ∈ points, x.1 ≤ 40000 ∧ x.2 ≤ 99999999) ∧
         List.Pairwise (fun x y => x.1 < y.1 ∧ x.2 < y.2) points) ∧
      (compartment { calibrating with stk := marked.stk } .c1).op ≠ .free ∧
      ({ calibrating.cal with results := ⟨some proof, none⟩ } : Cal).results.get .h1 = some proof ∧
      ¬(roundNat (proof.meterFactor * 110000) proof.gross < 900000 ∨ 1100000 < roundNat (proof.meterFactor * 110000) proof.gross) := by
  decide +kernel

theorem witness_SiteAndEventRequests :
    takes base .service = true ∧ Input.earthBond ≠ .estop ∧ Input.earthBond ≠ .powerfail ∧ takes base .uplink = true ∧
      takes base .console = true ∧ partInUse marked = true ∧ takes marked .console = true ∧ partInUse base = false ∧
      (let x := base.itu.inputs.get .earthBond
       false = x.activeLow ∧ true ≠ x.activeLow ∧ (x.level != true) ≠ x.active) ∧
      (let x := (driveLine .earthBond true base).itu.inputs.get .earthBond
       true ≠ x.activeLow ∧ (x.level != true) = x.active ∧ x.heldAt = some 250) := by
  decide +kernel

theorem witness_ClockAndIdleTimer :
    (let x : Itu := { base.itu with clock := 86400 + 360 * 60 }
     x.clockValid = true ∧ base.mtb.periodDay < (x.clock - base.mtb.dayStart * 60) / 86400) ∧
    ¬base.mtb.periodDay < (base.itu.clock - base.mtb.dayStart * 60) / 86400 ∧
    (let r : GroupRule := { active := true, watch := .armed 10 }
     (base.mtb.rules.set 7 r)[7]? = some r ∧ r.watch = .armed 10) ∧
    (let x : PendingPrice := { price := 7, effective := 10, origin := .uplink }
     (priceRecord (priced 10) .c1).pending = some x ∧ (priced 10).itu.clockValid = true ∧ x.effective ≤ (priced 10).itu.clock ∧
       powerFail (priced 10) = false ∧ freeSlots (priced 10).jnl ≠ 0 ∧ saturated (priced 10).jnl = false) ∧
    base.itu.idleDeadline = some 1800000 := by decide +kernel

theorem witness_InputEventsAct :
    (∀ st ∈ [HoseState.priming, .ready, .flowing, .slowing, .paused],
      let s := dispensing st (some 30000) dispense
      inputActive s .estop = false ∧ inputActive s .powerfail = false ∧ s.itu.latch = false ∧ ownersOk s = true ∧
        claimsOk s = true ∧ inDemand (hoseCtx s .h1).state = true ∧ (hoseCtx s .h1).dispense = some dispense) ∧
    latched.itu.latch = true ∧ inputActive latched .estop = false ∧ (hoseCtx armed .h1).state = .armed ∧
    receiptRuns (receiving .held (some 300000) (some startedAt)).rcp.receipt.state = true ∧
    inputActive failing .powerfail = true ∧ inputActive failing .calSwitch = false ∧ failing.itu.standby = false ∧
    inputActive base .ignition = false ∧ inputActive base .supplyLow = false ∧ base.itu.idleSources.getLsbD 5 = true ∧
    ∀ i ∈ [Input.estop, .overfill, .ignition, .supplyLow, .tilt], inputActive (withInput i true base) i = true := by
  decide +kernel

theorem witness_ResetAndRestartStartThePart :
    ringOk marked.jnl = true ∧ recordsOk marked = true ∧ takes marked .service = true ∧ partInUse marked = true ∧
      takes base .service = true ∧ partInUse base = false ∧ ringOk base.jnl = true ∧ recordsOk base = true := by
  decide +kernel

/-! ## No row of the table has bits -/

theorem test_no_bits : decodeTableWord 8 0 = none ∧ State.reset.withFetchWord 16 0xFFFF = State.reset := ⟨rfl, rfl⟩

end Sys2Proof.Tests
end

section
/-! PROOFS. The tag settings and the tag diagnostics (R39, R41): how a request that its port takes ends, how the bytes
of a tag frame come together (R25), and what a confirmation leaves of its reader (R33, R37). -/

namespace Sys2Proof.Machine

/-! ## Requests that are taken -/

/-- A request that its port takes and permits is executed in the part that it has woken (R194, R198). -/
theorem exec_eq_answered {i : Instr} {k : ReqKind} {p : Port} {owner : State → State × Response}
    (hi : requestOf i = some (k, p, owner)) (hk : permitted k p = true) {s : State} (ht : takes s p = true) :
    exec i s = answered p (owner (wake s)).2 (owner (wake s)).1 := by
  obtain ⟨hr, hp⟩ : portReady s p = true ∧ powerFail s = false := by simpa [takes] using ht
  rw [exec_request hi]
  simp [takeRequest, answered, hr, hp, hk]

/-- A request that its port takes but does not permit is turned away (R198). -/
theorem exec_eq_notPermitted {i : Instr} {k : ReqKind} {p : Port} {owner : State → State × Response}
    (hi : requestOf i = some (k, p, owner)) (hk : permitted k p = false) {s : State} (ht : takes s p = true) :
    exec i s = .next (answer p (plain .notPermitted) (wake s)) := by
  obtain ⟨hr, hp⟩ : portReady s p = true ∧ powerFail s = false := by simpa [takes] using ht
  rw [exec_request hi]
  simp [takeRequest, hr, hp, hk]

theorem onlyUplink_eq_false {p : Port} (h : p ≠ .uplink) : onlyUplink p = false := by
  cases p
  case uplink => exact absurd rfl h
  all_goals rfl

/-! ## Settings and codes -/

/-- Clamping changes a value exactly when the value lies outside the range. -/
theorem clampNat_eq_self_iff {lo hi : Nat} (h : lo ≤ hi) (v : Nat) : clampNat lo hi v = v ↔ lo ≤ v ∧ v ≤ hi := by
  unfold clampNat
  omega

/-- The answer to a PUT of one setting is OK exactly for a value within its range (Table 12-2). -/
theorem settingsAnswer_clampNat {lo hi : Nat} (h : lo ≤ hi) (v : Nat) (fields : List Field) :
    settingsAnswer (clampNat lo hi v != v) fields =
      if lo ≤ v ∧ v ≤ hi then plain .ok else { status := .okClamped, payload := fields } := by
  simp only [settingsAnswer, bne_iff_ne, ne_eq, clampNat_eq_self_iff h, ite_not]

@[simp] theorem hoseOf_hoseCode (h : Hose) : hoseOf (hoseCode h) = some h := by cases h <;> rfl

theorem hoseOf_eq_none {n : Nat} (hn : 1 < n) : hoseOf n = none := by
  match n, hn with
  | _ + 2, _ => rfl

/-! ## Changes of one reader -/

@[simp] theorem PerHose.set_set {α : Type} (x : PerHose α) (h : Hose) (v w : α) : (x.set h v).set h w = x.set h w := by
  cases h <;> rfl

@[simp] theorem modReader_modReader (h : Hose) (f g : Reader → Reader) (s : State) :
    modReader h f (modReader h g s) = modReader h (fun r => f (g r)) s := by
  simp [modReader, modIdu]

/-- A change of a reader shows only in what it makes of that reader. -/
theorem modReader_congr {h : Hose} {f g : Reader → Reader} {s : State}
    (hfg : f (s.idu.readers.get h) = g (s.idu.readers.get h)) : modReader h f s = modReader h g s := by
  simp [modReader, modIdu, hfg]

/-! ## The reception of a frame (R25) -/

/-- Reader `h` of `s` within a frame: what its receiver holds after a byte. -/
def inReception (h : Hose) (phase : RxPhase) (length : Nat) (bytes : List Byte) (s : State) : State :=
  modReader h (fun r => { r with phase := phase, rxLength := length, rxBytes := bytes, rxTime := s.itu.mono }) s

/-- Reader `h` of `s` with the time of the byte that arrives now. -/
def lastByteTaken (h : Hose) (s : State) : State := modReader h (fun r => { r with rxTime := s.itu.mono }) s

/-- What a receiver held within a frame is gone when the frame is judged: of it the time of the last byte alone
stays. -/
theorem completeFrame_inReception (h : Hose) (s : State) (phase : RxPhase) (n length : Nat) (bytes payload crc : List Byte) :
    completeFrame h length payload crc (inReception h phase n bytes s) =
      completeFrame h length payload crc (lastByteTaken h s) := by
  simp [completeFrame, inReception, lastByteTaken]

theorem exec_tagFrame_eq_foldl (h : Hose) (bytes : List Byte) (s : State) :
    exec (.tagFrame h bytes) s = .next (bytes.foldl (fun s b => tagByte h b s) s) := rfl

section Reception

variable {h : Hose} {s : State} (hen : (s.idu.readers.get h).enabled = true)
include hen

/-- The start byte ends the hunt. -/
theorem tagByte_start (hph : (s.idu.readers.get h).phase = .hunt) :
    tagByte h 0xA5#8 s =
      inReception h .length (s.idu.readers.get h).rxLength (s.idu.readers.get h).rxBytes s := by
  calc tagByte h 0xA5#8 s
      = modReader h (fun r => { r with phase := .length, rxTime := s.itu.mono }) s := by simp [tagByte, hen, hph]
    _ = inReception h .length (s.idu.readers.get h).rxLength (s.idu.readers.get h).rxBytes s := modReader_congr rfl

/-- A length within 8..64 begins the body. -/
theorem tagByte_length {b : Byte} (hlo : 8 ≤ b.toNat) (hhi : b.toNat ≤ 64) (n : Nat) (bytes : List Byte) :
    tagByte h b (inReception h .length n bytes s) = inReception h .body b.toNat [] s := by
  simp [tagByte, inReception, hen, hlo, hhi]

/-- A byte of the body; the last one begins the check. -/
theorem tagByte_body (b : Byte) (n : Nat) (bytes : List Byte) :
    tagByte h b (inReception h .body n bytes s) =
      inReception h (if n ≤ bytes.length + 1 then .check else .body) n (bytes ++ [b]) s := by
  simp [tagByte, inReception, hen]

/-- The first byte of the check is stored. -/
theorem tagByte_check (b : Byte) (payload : List Byte) :
    tagByte h b (inReception h .check payload.length payload s) =
      inReception h .check payload.length (payload ++ [b]) s := by
  simp [tagByte, inReception, hen]

/-- The second byte of the check completes the frame. -/
theorem tagByte_complete (b c : Byte) (payload : List Byte) :
    tagByte h c (inReception h .check payload.length (payload ++ [b]) s) =
      completeFrame h payload.length payload [b, c]
        (inReception h .check payload.length (payload ++ [b]) s) := by
  simp [tagByte, inReception, hen]

/-- The bytes of a body, as many as are missing, bring the receiver to the check. -/
theorem foldl_tagByte_body (n : Nat) (rest bytes : List Byte) (hne : rest ≠ []) (hn : bytes.length + rest.length = n) :
    rest.foldl (fun s b => tagByte h b s) (inReception h .body n bytes s) =
      inReception h .check n (bytes ++ rest) s := by
  induction rest generalizing bytes with
  | nil => exact absurd rfl hne
  | cons b rest ih =>
    rw [List.foldl_cons, tagByte_body hen]
    rw [List.length_cons] at hn
    cases rest with
    | nil => simp [show n ≤ bytes.length + 1 by simp at hn; omega]
    | cons b' rest =>
      rw [List.length_cons] at hn
      rw [if_neg (by omega), ih (bytes ++ [b]) (by simp) (by simp; omega)]
      simp

/-- The bytes of one whole frame at a reader that hunts are judged as one frame. -/
theorem exec_tagFrame (hph : (s.idu.readers.get h).phase = .hunt) {len : Byte} {payload crc : List Byte}
    (hpay : payload.length = len.toNat) (hcrc : crc.length = 2) (hlo : 8 ≤ len.toNat) (hhi : len.toNat ≤ 64) :
    exec (.tagFrame h ([0xA5#8, len] ++ payload ++ crc)) s =
      .next (completeFrame h len.toNat payload crc (lastByteTaken h s)) := by
  obtain ⟨b, c, rfl⟩ := List.length_eq_two.mp hcrc
  have hne : payload ≠ [] := by rintro rfl; simp at hpay; omega
  simp only [exec_tagFrame_eq_foldl, List.cons_append, List.nil_append, List.foldl_cons, List.foldl_append, List.foldl_nil]
  rw [tagByte_start hen hph, tagByte_length hen hlo hhi, foldl_tagByte_body hen _ _ _ hne (by simpa using hpay),
    List.nil_append, ← hpay, tagByte_check hen, tagByte_complete hen, completeFrame_inReception]

end Reception

/-! ## The judgement of a frame (R32, R33) -/

/-- A good frame that is not of the present identity goes to the candidate (R32). -/
theorem goodFrame_eq_buildCandidate (n : Nat) (g : GoodFrame) (now : Nat) (r : Reader)
    (hne : ∀ id ∈ r.present, id.machine ≠ g.machine) :
    goodFrame n g now r = buildCandidate n g now { r with goodFrames := satAdd 65535 r.goodFrames 1 } := by
  unfold goodFrame
  cases hp : r.present with
  | none => simp
  | some id => simp [hne id (by simp [hp])]

/-- A reader without a comparison identity is neither bound nor has it a present identity (R31). -/
theorem comparison_eq_none_iff (r : Reader) : comparison r = none ↔ r.bound = none ∧ r.present = none := by
  unfold comparison
  cases r.bound <;> simp

/-! ## What a report leaves of the readers (R24, R37) -/

/-- A reader that should be enabled stays as it is (R24). -/
theorem refreshReader_eq_self {h : Hose} {s : State} (he : (s.idu.readers.get h).enabled = readerWanted s h) :
    refreshReader h s = s := by
  simp [refreshReader, he]

/-- What makes a reader wanted (R24, R42). -/
theorem readerWanted_iff (s : State) (h : Hose) :
    readerWanted s h = true ↔
      inputActive s (stowedInput h) = false ∧ inUse (hoseCtx s h).state = true ∧ inProving (hoseCtx s h) = false ∧
        s.itu.standby = false := by
  simp [readerWanted, and_assoc]

/-- Whether a reader is wanted rests on the inputs, standby, and the state and kind of its hose's dispense. -/
theorem readerWanted_congr {s t : State} {h : Hose} (hitu : t.itu = s.itu)
    (hst : (hoseCtx t h).state = (hoseCtx s h).state) (hpr : inProving (hoseCtx t h) = inProving (hoseCtx s h)) :
    readerWanted t h = readerWanted s h := by
  simp [readerWanted, inputActive, hitu, hst, hpr]

@[simp] theorem readerWanted_startTimer (h : Hose) (ms : Nat) (s : State) :
    readerWanted (startTimer h ms s) h = readerWanted s h :=
  readerWanted_congr (by simp) (by simp) (by simp [inProving])

@[simp] theorem readerWanted_leaveDemand (c : Comp) (h : Hose) (s : State) :
    readerWanted (leaveDemand c h s) h = readerWanted s h :=
  readerWanted_congr (by simp) (by simp) (by simp)

@[simp] theorem readerWanted_modReader (h k : Hose) (f : Reader → Reader) (s : State) :
    readerWanted (modReader h f s) k = readerWanted s k :=
  readerWanted_congr (by simp) (by simp) (by simp)

@[simp] theorem hoseCtx_reloadIdle (src : IdleSource) (k : Hose) (s : State) :
    hoseCtx (reloadIdle src s) k = hoseCtx s k :=
  hoseCtx_congr (by simp) k

@[simp] theorem readerWanted_reloadIdle (src : IdleSource) (h : Hose) (s : State) :
    readerWanted (reloadIdle src s) h = readerWanted s h := by
  simp [readerWanted, inputActive]

/-- A change in a dispense that leaves its kind leaves the reader wanted or not. -/
theorem readerWanted_modDispense (h : Hose) (f : Dispense → Dispense) (hf : ∀ d, (f d).proving = d.proving) (s : State) :
    readerWanted (modDispense h f s) h = readerWanted s h :=
  readerWanted_congr (by simp) (by simp) (by simp [inProving, Function.comp_def, hf])

theorem withOutcome_proving (o : DispenseOutcome) (d : Dispense) : (withOutcome o d).proving = d.proving := by
  unfold withOutcome
  split <;> rfl

section Wanted

variable {h : Hose} {s : State} (hen : (s.idu.readers.get h).enabled = true) (hw : readerWanted s h = true)
include hen hw

/-- An enabled reader that is wanted keeps its reception through a change among the states in use. -/
theorem readers_enterState {st : HoseState} (hst : inUse st = true) :
    (enterState h st s).idu.readers = s.idu.readers := by
  have hstays : readerWanted (modHose h (fun c => { c with state := st }) s) h = true := by
    obtain ⟨hnozzle, -, hproving, hawake⟩ := (readerWanted_iff s h).mp hw
    exact (readerWanted_iff _ h).mpr
      ⟨by simpa [inputActive] using hnozzle, by simpa using hst, by simpa [inProving] using hproving, by simpa using hawake⟩
  rw [enterState, refreshReader_eq_self (by rw [hstays]; simpa using hen)]
  simp

/-- The removal of a pause cause leaves it too (R104). -/
theorem readers_removeCause (f : Causes → Causes) : (removeCause f h s).idu.readers = s.idu.readers := by
  have hkind := readerWanted_modDispense h (fun d => { d with causes := f d.causes }) (fun _ => rfl) s
  simp only [removeCause]
  split
  · split
    · split
      · rw [readers_enterState (by simpa using hen) (by simpa [hkind] using hw) (by split <;> rfl)]
        simp
      · simp
    · simp
  · rfl

/-- The entry to ENDING leaves it too (R108). -/
theorem readers_endIf (o : DispenseOutcome) : (endIf o h s).idu.readers = s.idu.readers := by
  have hkind (t : State) := readerWanted_modDispense h (fun d => { withOutcome o d with grossAtEnding := some d.gross })
    (fun d => withOutcome_proving o d) t
  simp only [endIf, enterEnding]
  split
  · split
    · rw [readers_enterState (by simpa using hen) (by simpa [hkind] using hw) rfl]
      simp
    · rfl
  · rfl

/-- No report of a confirmation touches the readers, unless it is IDENTIFIED at an ARMED hose (R37, R102). -/
theorem readers_sendReport_confirm (id : Identity) (r : Reader)
    (ha : (hoseCtx s h).state ≠ .armed ∨ comparison r ≠ none) :
    (sendReport h (confirm id r).2 s).idu.readers = s.idu.readers := by
  simp only [confirm]
  split
  next hc =>
    have hna : (hoseCtx s h).state ≠ .armed := ha.resolve_right (not_not.mpr hc)
    simp [sendReport, hoseIdentified, hna]
  next =>
    split
    · split
      · exact readers_removeCause hen hw _
      · rfl
    · exact readers_endIf hen hw _

end Wanted

/-! ## The candidate and the confirmation at a reader (R32, R33, R39) -/

/-- The reader as a good frame leaves it to the candidate: hunting again, with the frame counted. -/
def afterGoodFrame (now : Nat) (r : Reader) : Reader :=
  { r with
    phase := .hunt, rxBytes := [], rxLength := 0, rxTime := now, goodFrames := satAdd 65535 r.goodFrames 1 }

section GoodFrame

variable {h : Hose} {length : Nat} {payload crc : List Byte} {g : GoodFrame} {s : State}
  (hj : judgeFrame s.idu.templates length payload crc = .ok g)
  (hne : ∀ id ∈ (s.idu.readers.get h).present, id.machine ≠ g.machine)
include hj hne

/-- A whole good frame that is not of the present identity is taken by the candidate with the stored count, and what it
reports goes to the hose. -/
theorem completeFrame_eq_buildCandidate :
    completeFrame h length payload crc (lastByteTaken h s) =
      let built := buildCandidate s.idu.confirmCount g s.itu.mono (afterGoodFrame s.itu.mono (s.idu.readers.get h))
      sendReport h built.2 (reloadIdle .tag (modReader h (fun _ => built.1) s)) := by
  have hgood := goodFrame_eq_buildCandidate s.idu.confirmCount g s.itu.mono
    { s.idu.readers.get h with phase := .hunt, rxBytes := [], rxLength := 0, rxTime := s.itu.mono } hne
  simp [completeFrame, lastByteTaken, hj, hgood, afterGoodFrame]

/-- Below the stored count the candidate grows and the present identity stays (R32). -/
theorem completeFrame_below_count
    (hk : (growCandidate g s.itu.mono (s.idu.readers.get h).candidate).count < s.idu.confirmCount) :
    let t := completeFrame h length payload crc (lastByteTaken h s)
    (t.idu.readers.get h).candidate = some (growCandidate g s.itu.mono (s.idu.readers.get h).candidate) ∧
      (t.idu.readers.get h).present = (s.idu.readers.get h).present := by
  rw [completeFrame_eq_buildCandidate hj hne]
  simp [buildCandidate, afterGoodFrame, not_le.mpr hk, sendReport]

/-- With the stored count reached the candidate is the present identity, and no report that follows changes that
(R33). -/
theorem completeFrame_count_reached (hen : (s.idu.readers.get h).enabled = true)
    (hk : s.idu.confirmCount ≤ (growCandidate g s.itu.mono (s.idu.readers.get h).candidate).count)
    (hw : readerWanted s h = true)
    (ha : (hoseCtx s h).state ≠ .armed ∨ (s.idu.readers.get h).present ≠ none ∨ (s.idu.readers.get h).bound ≠ none) :
    let t := completeFrame h length payload crc (lastByteTaken h s)
    (t.idu.readers.get h).candidate = none ∧
      (t.idu.readers.get h).present = some (growCandidate g s.itu.mono (s.idu.readers.get h).candidate).ident := by
  have hbuilt : buildCandidate s.idu.confirmCount g s.itu.mono (afterGoodFrame s.itu.mono (s.idu.readers.get h)) =
      confirm (growCandidate g s.itu.mono (s.idu.readers.get h).candidate).ident
        (afterGoodFrame s.itu.mono (s.idu.readers.get h)) := by
    simp [buildCandidate, afterGoodFrame, hk]
  have hcmp : (hoseCtx s h).state ≠ .armed ∨ comparison (afterGoodFrame s.itu.mono (s.idu.readers.get h)) ≠ none := by
    refine ha.imp_right fun hid hc => ?_
    obtain ⟨hbound, hpresent⟩ := (comparison_eq_none_iff _).mp hc
    exact hid.elim (· hpresent) (· hbound)
  rw [completeFrame_eq_buildCandidate hj hne, hbuilt]
  dsimp only
  rw [readers_sendReport_confirm]
  · simp [confirm]
  · simpa [confirm, afterGoodFrame] using hen
  · rw [readerWanted_reloadIdle, readerWanted_modReader]
    exact hw
  · simpa using hcmp

end GoodFrame

/-! ## The statements -/

/-- Settles O25, by the request rules for the settings, the frame of HARDWARE RESET, and the reception of a whole frame
with its candidate below and at the stored count. -/
theorem tagSettingsWriteAndRead : Obligations.TagSettingsWriteAndRead := by
  refine ⟨fun v s ht => ?put, fun v p s ht hp => ?refused, fun p s ht => ?read, rfl, ?reset, ?frame⟩
  case put =>
    rw [exec_eq_answered rfl rfl ht]
    simp only [reqTagSettingsPut, settingsAnswer_clampNat (show 1 ≤ 8 by decide), modIdu, wake_frame]
    rfl
  case refused => exact exec_eq_notPermitted (k := .tagSettingsPut) rfl (onlyUplink_eq_false hp) ht
  case read =>
    rw [exec_eq_answered rfl rfl ht]
    simp [reqTagSettingsRead, reads]
  case reset =>
    intro levels battery down s t ht
    obtain rfl : hardwareReset levels battery down s = t := Host.Outcome.next.inj ht
    simp
  case frame =>
    intro h len payload crc g s t r hen hph hpay hcrc hlo hhi hj hne ht
    rw [exec_tagFrame hen hph hpay hcrc hlo hhi] at ht
    obtain rfl := Host.Outcome.next.inj ht
    exact ⟨completeFrame_below_count hj hne, completeFrame_count_reached hj hne hen⟩

/-- Settles O26: the reader's code names it, and the request changes its counters alone. -/
theorem tagDiagnosticsReadAndClear : Obligations.TagDiagnosticsReadAndClear := by
  intro p s ht
  refine ⟨fun h => ?_, fun n hn => ?_⟩
  · rw [exec_eq_answered rfl rfl ht]
    simp [reqReadTagDiagnostics, modReader, modIdu, diagnosticsFields, yesNo, boolCode]
  · rw [exec_eq_answered rfl rfl ht]
    simp [reqReadTagDiagnostics, hoseOf_eq_none hn]

end Sys2Proof.Machine
end

section
/-! PROOFS. The requests of one contractor's entry: CONTRACTOR SETTLE and CONTRACTOR READ (R60, R61). -/

namespace Sys2Proof.Machine

/-! ## One contractor's entry -/

/-- Subtraction of naturals takes both cases of R60: nothing is left when the settled amount is the greater. -/
theorem settled_eq_sub (accrued a : Nat) : (if accrued < a then 0 else accrued - a) = accrued - a :=
  ite_eq_right_iff.mpr fun h => (Nat.sub_eq_zero_of_le h.le).symm

section Entry

variable {i : Nat} {k : Contractor} {s : State} (hk : s.bil.contractors[i]? = some k)
include hk

theorem contractorOf_of_getElem? : contractorOf s i = k := by simp [contractorOf, hk]

/-- A change of one contractor's entry writes that entry alone. -/
theorem modContractor_eq_set (f : Contractor → Contractor) :
    modContractor i f s = { s with bil := { s.bil with contractors := s.bil.contractors.set i (f k) } } := by
  simp [modContractor, modBil, List.modify_eq_set_getElem?, hk]

/-- The entry is read back as the change left it. -/
theorem contractorOf_modContractor_self (f : Contractor → Contractor) :
    contractorOf (modContractor i f s) i = f k := by
  obtain ⟨hlt, -⟩ := List.getElem?_eq_some_iff.mp hk
  simp [contractorOf_modContractor, hlt, contractorOf_of_getElem? hk]

/-- A settlement of `a` cents lowers the accrued amount and answers what is left (R60). -/
theorem reqContractorSettle_of_entry {a : Nat} (hi : i ≤ 31) (ha : a ≤ max32) :
    reqContractorSettle i a s =
      ({ s with bil := { s.bil with
          contractors := s.bil.contractors.set i { k with accrued := k.accrued - a } } },
       okWith [.nat 4 (k.accrued - a)]) := by
  have hform : ¬ (31 < i ∨ max32 < a) := by omega
  simp only [reqContractorSettle, if_neg hform]
  rw [contractorOf_modContractor_self hk, modContractor_eq_set hk]

theorem reqContractorRead_of_entry (hi : i ≤ 31) :
    reqContractorRead i s = (s, okWith (contractorFields k)) := by
  simp [reqContractorRead, reads, contractorOf_of_getElem? hk, not_lt.mpr hi]

end Entry

/-! ## An index past the last entry -/

theorem reqContractorSettle_badIndex {i : Nat} (hi : 31 < i) (a : Nat) (s : State) :
    reqContractorSettle i a s = (s, plain .badValue) :=
  if_pos (.inl hi)

theorem reqContractorRead_badIndex {i : Nat} (hi : 31 < i) (s : State) :
    reqContractorRead i s = (s, plain .badValue) := by
  simp [reqContractorRead, reads, hi]

theorem onlyService_eq_false {p : Port} (h : p ≠ .service) : onlyService p = false := by
  cases p
  case service => exact absurd rfl h
  all_goals rfl

/-! ## The statement -/

/-- Settles O31: what each request makes of the entry of the woken part, which is the entry as it was. -/
theorem contractorSettleAndRead : Obligations.ContractorSettleAndRead := by
  refine ⟨⟨fun i a p s ht hp => ?refused, fun i a s ht ha => ⟨fun hi => ?settleBad, fun k hi hk => ?settle⟩⟩,
    fun p i s ht hp => ⟨fun hi => ?readBad, fun k hi hk => ?read⟩, fun i s ht => ?readRefused⟩
  case refused => exact exec_eq_notPermitted (k := .contractorSettle) rfl (onlyUplink_eq_false hp) ht
  case settleBad => rw [exec_eq_answered rfl rfl ht, reqContractorSettle_badIndex hi]
  case settle =>
    have hwoken : (wake s).bil.contractors[i]? = some k := by simpa using hk
    rw [exec_eq_answered rfl rfl ht, reqContractorSettle_of_entry hwoken hi ha, settled_eq_sub]
    simp
  case readBad =>
    have hpermitted : permitted .contractorRead p = true := by simp [permitted, onlyService_eq_false hp]
    rw [exec_eq_answered rfl hpermitted ht, reqContractorRead_badIndex hi]
  case read =>
    have hpermitted : permitted .contractorRead p = true := by simp [permitted, onlyService_eq_false hp]
    have hwoken : (wake s).bil.contractors[i]? = some k := by simpa using hk
    rw [exec_eq_answered rfl hpermitted ht, reqContractorRead_of_entry hwoken hi]
    rfl
  case readRefused => exact exec_eq_notPermitted (k := .contractorRead) rfl rfl ht

end Sys2Proof.Machine
end

section
/-! PROOFS. The withdrawal of a pending price: PRICE PENDING CLEAR (R66). -/

namespace Sys2Proof.Machine

/-! ## The compartment a request names -/

/-- A compartment's code names it again (R204). -/
@[simp] theorem compOf_compCode (c : Comp) : compOf (compCode c) = some c := by cases c <;> rfl

/-- Codes above that of C2 name no compartment. -/
theorem compOf_eq_none {n : Nat} (hn : 1 < n) : compOf n = none := by
  match n, hn with
  | _ + 2, _ => rfl

/-! ## The price record of a part that wakes -/

/-- Waking leaves the prices as they were (R194). -/
@[simp] theorem priceRecord_wake (s : State) (c : Comp) : priceRecord (wake s) c = priceRecord s c := by
  simp [priceRecord]

/-- A change of one price record writes that record alone. -/
theorem modPrice_eq_set (c : Comp) (f : PriceRecord → PriceRecord) (s : State) :
    modPrice c f s = { s with bil := { s.bil with prices := s.bil.prices.set c (f (priceRecord s c)) } } := rfl

/-! ## What the request answers, by compartment and pending price -/

theorem reqPricePendingClear_badComp {n : Nat} (hn : 1 < n) (s : State) :
    reqPricePendingClear n s = (s, plain .badValue) := by
  simp [reqPricePendingClear, compOf_eq_none hn]

theorem reqPricePendingClear_of_none {s : State} {c : Comp} (hp : (priceRecord s c).pending = none) :
    reqPricePendingClear (compCode c) s = (s, plain .notFound) := by
  simp [reqPricePendingClear, hp]

/-- A pending price is withdrawn whether its effective time is reached or not, and nothing else is touched (R66). -/
theorem reqPricePendingClear_of_pending {s : State} {c : Comp} (hp : (priceRecord s c).pending ≠ none) :
    reqPricePendingClear (compCode c) s =
      ({ s with bil := { s.bil with
          prices := s.bil.prices.set c { priceRecord s c with pending := none } } }, plain .ok) := by
  simp [reqPricePendingClear, hp, modPrice_eq_set]

/-! ## The statement -/

/-- Settles O33: what the request makes of the price record of the woken part, which is the record as it was. -/
theorem pricePendingClearWithdraws : Obligations.PricePendingClearWithdraws := by
  refine ⟨fun s ht => ⟨fun n hn => ?badComp, fun c => ⟨fun hp => ?absent, fun hp => ?pending⟩⟩,
    fun n p s ht hp => ?refused⟩
  case badComp => rw [exec_eq_answered rfl rfl ht, reqPricePendingClear_badComp hn]
  case absent =>
    have hwoken : (priceRecord (wake s) c).pending = none := by simpa using hp
    rw [exec_eq_answered rfl rfl ht, reqPricePendingClear_of_none hwoken]
  case pending =>
    have hwoken : (priceRecord (wake s) c).pending ≠ none := by simpa using hp
    rw [exec_eq_answered rfl rfl ht, reqPricePendingClear_of_pending hwoken]
    simp
  case refused => exact exec_eq_notPermitted (k := .pricePendingClear) rfl (onlyUplink_eq_false hp) ht

end Sys2Proof.Machine
end

section
/-! PROOFS. What a change of one hose's state leaves: the change as one write of the hose's context and the pumps that
an entry to a state follows (R24, R96), and the operations on a hose in that form (R98, R103, R104, R108, R110). -/

namespace Sys2Proof.Machine

/-! ## One hose's context and the pumps -/

theorem otherHose_ne (h : Hose) : otherHose h ≠ h := by cases h <;> decide

@[simp] theorem hoseCtx_wake (s : State) (h : Hose) : hoseCtx (wake s) h = hoseCtx s h := hoseCtx_congr (by simp) h

/-- `s` with another context of hose `h`, and other pumps. -/
def putHose (h : Hose) (c : HoseCtx) (pumps : PerComp Pump) (s : State) : State :=
  { s with hsc := { s.hsc with hoses := s.hsc.hoses.set h c, pumps := pumps } }

theorem modHose_eq_putHose (h : Hose) (f : HoseCtx → HoseCtx) (s : State) :
    modHose h f s = putHose h (f (hoseCtx s h)) s.hsc.pumps s := rfl

theorem modDispense_eq_putHose (h : Hose) (f : Dispense → Dispense) (s : State) :
    modDispense h f s =
      putHose h { hoseCtx s h with dispense := (hoseCtx s h).dispense.map f } s.hsc.pumps s := rfl

section

variable (h : Hose) (c : HoseCtx) (pumps : PerComp Pump) (s : State)

@[simp] theorem hoseCtx_putHose (k : Hose) : hoseCtx (putHose h c pumps s) k = if k = h then c else hoseCtx s k := by
  simp [hoseCtx, putHose]

/-- The context and the pumps are all that the write touches. -/
@[simp] theorem putHose_frame :
    (putHose h c pumps s).hsc.pumps = pumps ∧ (putHose h c pumps s).hsc.shadows = s.hsc.shadows ∧
      (putHose h c pumps s).hsc.params = s.hsc.params ∧ (putHose h c pumps s).idu = s.idu ∧
      (putHose h c pumps s).itu = s.itu ∧ (putHose h c pumps s).prt = s.prt :=
  ⟨rfl, rfl, rfl, rfl, rfl, rfl⟩

/-- The later of two writes stands. -/
@[simp] theorem putHose_putHose (c' : HoseCtx) (pumps' : PerComp Pump) :
    putHose h c' pumps' (putHose h c pumps s) = putHose h c' pumps' s := by
  simp [putHose]

/-- Starting the hose timer is such a write. -/
theorem startTimer_putHose (ms : Nat) :
    startTimer h ms (putHose h c pumps s) = putHose h { c with timer := some (s.itu.mono + ms) } pumps s := by
  simp [startTimer, modHose_eq_putHose]

end

/-- A pump stays when the other hose demands it, or when it has FAILED (R110). -/
theorem demand_set_false (h : Hose) (x : PerHose Bool) :
    ((x.set h false).h1 || (x.set h false).h2) = x.get (otherHose h) := by
  cases h <;> simp [PerHose.set, PerHose.get, otherHose]

/-- A hose that leaves the demand set of its compartment's pump changes that pump alone (R110). -/
theorem leaveDemand_putHose (k : Comp) (h : Hose) (c : HoseCtx) (pumps : PerComp Pump) (s : State) :
    leaveDemand k h (putHose h c pumps s) = putHose h c (pumps.set k (leftPump h (pumps.get k))) s := by
  simp [leaveDemand, demand_set_false, leftPump, modPump, modHsc, putHose]

/-! ## The entry to a state -/

/-- After its refresh a reader is enabled as R24 has it. -/
theorem refreshReader_enabled (h : Hose) (s : State) :
    ((refreshReader h s).idu.readers.get h).enabled = readerWanted s h := by
  unfold refreshReader
  split
  next he => simpa using he
  next => simp [resetReception]

theorem refreshReader_idu (h : Hose) (s : State) :
    (refreshReader h s).idu = { s.idu with readers := (refreshReader h s).idu.readers } := by
  unfold refreshReader modReader modIdu
  split <;> rfl

theorem refreshReader_other (h : Hose) (s : State) :
    (refreshReader h s).idu.readers.get (otherHose h) = s.idu.readers.get (otherHose h) := by
  unfold refreshReader
  split <;> simp [otherHose_ne]

theorem touchShadow_hsc (h : Hose) (s : State) :
    (touchShadow h s).hsc = { s.hsc with shadows := (touchShadow h s).hsc.shadows } := by
  unfold touchShadow saveShadow setShadow modHsc
  (repeat' split) <;> rfl

theorem touchShadow_other (h : Hose) (s : State) :
    (touchShadow h s).hsc.shadows.get (otherHose h) = s.hsc.shadows.get (otherHose h) := by
  unfold touchShadow saveShadow
  (repeat' split) <;> simp [otherHose_ne]

/-- What an event makes of the ports rests on the ports alone. -/
theorem raise_prt_congr (e : Event) {s t : State} (hp : t.prt = s.prt) : (raise e t).prt = (raise e s).prt := by
  simp [raise, raiseSet, hp]

/-- The entry to a state, after such a write, is one write again, and the rest of the entry follows it. -/
theorem enterState_putHose (h : Hose) (st : HoseState) (c : HoseCtx) (pumps : PerComp Pump) (s : State) :
    enterState h st (putHose h c pumps s) =
      raise (Event.ofHose h) (touchShadow h (refreshReader h (putHose h { c with state := st } pumps s))) := by
  simp [enterState, modHose_eq_putHose]

/-- A hose that enters a state, with its context and the pumps written before, is all that has moved. -/
theorem hoseMoves_enterState (h : Hose) (st : HoseState) (c : HoseCtx) (pumps : PerComp Pump) (s : State) :
    hoseMoves h s (enterState h st (putHose h c pumps s)) := by
  rw [enterState_putHose]
  refine ⟨?rest, raise_prt_congr _ (by simp), ?hsc, ?idu, ?ctx, ?shadow, ?reader, ?enabled⟩
  case rest => simp [putHose]
  case hsc => simp only [raise_frame]; rw [touchShadow_hsc]; simp [putHose]
  case idu => simp only [raise_frame, touchShadow_frame]; rw [refreshReader_idu]; simp
  case ctx => simp [otherHose_ne]
  case shadow => simp [touchShadow_other]
  case reader => simp [refreshReader_other]
  case enabled =>
    have hwanted (t : State) :
        readerWanted (raise (Event.ofHose h) (touchShadow h (refreshReader h t))) h = readerWanted t h :=
      readerWanted_congr (by simp) (by simp) (by simp)
    simp [hwanted, refreshReader_enabled]

/-! ## The operations on a hose -/

/-- The return to IDLE (R98). -/
theorem returnIdle_eq (h : Hose) (s : State) :
    returnIdle h s = enterState h .idle (putHose h (idleCtx (hoseCtx s h)) s.hsc.pumps s) := by
  simp [returnIdle, modHose_eq_putHose, enterState_putHose, idleCtx]

section

variable {h : Hose} {s : State} {d : Dispense} (hd : (hoseCtx s h).dispense = some d)
include hd

/-- A cause that is added to a hose in flow pauses it (R103). -/
theorem addCause_of_flows (f : Causes → Causes)
    (hst : (hoseCtx s h).state = .flowing ∨ (hoseCtx s h).state = .slowing) :
    addCause f h s = enterState h .paused (putHose h (pausedCtx s h (f d.causes) d (hoseCtx s h)) s.hsc.pumps s) := by
  simp only [addCause, modDispense_eq_putHose, hd, Option.map_some, putHose_frame, startTimer_putHose, satAdd,
    pausedCtx, enterState_putHose]
  rcases hst with hst | hst <;> simp [hst]

/-- A cause that is added to a PAUSED hose joins the set (R103). -/
theorem addCause_of_paused (f : Causes → Causes) (hst : (hoseCtx s h).state = .paused) :
    addCause f h s =
      putHose h { hoseCtx s h with dispense := some { d with causes := f d.causes } } s.hsc.pumps s := by
  simp [addCause, hst, modDispense_eq_putHose, hd]

/-- A cause that leaves others behind leaves the hose PAUSED (R104). -/
theorem removeCause_of_remaining (f : Causes → Causes) (hst : (hoseCtx s h).state = .paused)
    (hf : f d.causes ≠ {}) :
    removeCause f h s =
      putHose h { hoseCtx s h with dispense := some { d with causes := f d.causes } } s.hsc.pumps s := by
  simp [removeCause, hst, modDispense_eq_putHose, hd, hf]

/-- The last cause that leaves returns the hose to flow (R104). -/
theorem removeCause_of_last (f : Causes → Causes) (hst : (hoseCtx s h).state = .paused) (hf : f d.causes = {}) :
    removeCause f h s =
      enterState h (if nearPreset s h d then .slowing else .flowing)
        (putHose h (resumedCtx s h { d with causes := {} } (hoseCtx s h)) s.hsc.pumps s) := by
  simp [removeCause, hst, modDispense_eq_putHose, hd, hf, startTimer_putHose, enterState_putHose, nearPreset,
    resumedCtx]

/-- The entry to ENDING (R108). -/
theorem enterEnding_eq (o : DispenseOutcome) :
    enterEnding o h s =
      enterState h .ending
        (putHose h (endingCtx o s.itu.mono d (hoseCtx s h))
          (s.hsc.pumps.set d.comp (leftPump h (s.hsc.pumps.get d.comp))) s) := by
  simp [enterEnding, hd, modDispense_eq_putHose, leaveDemand_putHose, startTimer_putHose, enterState_putHose, endingCtx]

end

end Sys2Proof.Machine
end

section
/-! PROOFS. The pause and the resumption of a hose by the operator: PAUSE HOSE and RESUME HOSE (R105). -/

namespace Sys2Proof.Machine

/-! ## The hose a request names -/

theorem withHose_hoseCode (h : Hose) (f : Hose → State → State × Response) (s : State) :
    withHose (hoseCode h) f s = f h s := by
  simp [withHose]

theorem withHose_badHose {n : Nat} (hn : 1 < n) (f : Hose → State → State × Response) (s : State) :
    withHose n f s = (s, plain .badValue) := by
  simp [withHose, hoseOf_eq_none hn]

/-! ## What each request does, by the hose's state (R105) -/

section

variable {h : Hose} {s : State}

/-- PAUSE HOSE is taken in FLOWING, SLOWING and PAUSED. -/
theorem reqPauseHose_of_flows_or_paused
    (hst : (hoseCtx s h).state = .flowing ∨ (hoseCtx s h).state = .slowing ∨ (hoseCtx s h).state = .paused) :
    reqPauseHose (hoseCode h) s = (addCause (fun c => { c with operator := true }) h s, plain .ok) := by
  rw [reqPauseHose, withHose_hoseCode]
  rcases hst with hst | hst | hst <;> simp [hst]

theorem reqPauseHose_elsewhere (hf : (hoseCtx s h).state ≠ .flowing) (hs : (hoseCtx s h).state ≠ .slowing)
    (hp : (hoseCtx s h).state ≠ .paused) : reqPauseHose (hoseCode h) s = (s, plain .notActive) := by
  rw [reqPauseHose, withHose_hoseCode]
  split
  · contradiction
  · contradiction
  · contradiction
  · rfl

/-- RESUME HOSE is taken in PAUSED with OPERATOR in the set. -/
theorem reqResumeHose_of_operator {d : Dispense} (hst : (hoseCtx s h).state = .paused)
    (hd : (hoseCtx s h).dispense = some d) (ho : d.causes.operator = true) :
    reqResumeHose (hoseCode h) s = (removeCause (fun c => { c with operator := false }) h s, plain .ok) := by
  rw [reqResumeHose, withHose_hoseCode, if_pos (by simp [operatorPaused, hst, hd, ho])]

theorem reqResumeHose_elsewhere
    (hn : (hoseCtx s h).state ≠ .paused ∨ ∀ d ∈ (hoseCtx s h).dispense, d.causes.operator = false) :
    reqResumeHose (hoseCode h) s = (s, plain .notActive) := by
  have hnot : operatorPaused (hoseCtx s h) = false := by
    rcases hn with hst | ho
    · simp [operatorPaused, hst]
    · cases hd : (hoseCtx s h).dispense with
      | none => simp [operatorPaused, hd]
      | some d => simp [operatorPaused, hd, ho d hd]
  rw [reqResumeHose, withHose_hoseCode, hnot]
  rfl

end

theorem onlyConsole_eq_false {p : Port} (h : p ≠ .console) : onlyConsole p = false := by
  cases p
  case console => exact absurd rfl h
  all_goals rfl

/-! ## The statement -/

/-- Settles O35: each request adds or removes OPERATOR at the hose of the woken part, and with the cause set that this
leaves the hose pauses, stays PAUSED or flows again. -/
theorem pauseAndResume : Obligations.PauseAndResume := by
  refine ⟨fun h d s ht hd => ?named, fun h s ht => ?notActive, fun n s ht hn => ?badHose,
    fun n p s ht hp => ?refused⟩
  case named =>
    have hwoken : (hoseCtx (wake s) h).dispense = some d := by simpa using hd
    refine ⟨fun hst => ?pauses, fun hst => ?joins, fun hst ho hother => ?stays, fun hst hset => ?flowsAgain⟩
    case pauses =>
      rw [exec_eq_answered rfl rfl ht, reqPauseHose_of_flows_or_paused (by simpa [← or_assoc] using .inl hst),
        addCause_of_flows hwoken _ (by simpa using hst)]
      exact ⟨_, rfl, hoseMoves_enterState .., by simp, by simp [pausedCtx]⟩
    case joins =>
      rw [exec_eq_answered rfl rfl ht, reqPauseHose_of_flows_or_paused (by simp [hst]),
        addCause_of_paused hwoken _ (by simpa using hst)]
      simp [putHose]
    case stays =>
      have hleft : ({ d.causes with operator := false } : Causes) ≠ {} := by
        simpa [or_iff_not_imp_left] using hother
      rw [exec_eq_answered rfl rfl ht, reqResumeHose_of_operator (by simpa using hst) hwoken ho,
        removeCause_of_remaining hwoken _ (by simpa using hst) hleft]
      simp [putHose]
    case flowsAgain =>
      rw [exec_eq_answered rfl rfl ht, reqResumeHose_of_operator (by simpa using hst) hwoken (by simp [hset]),
        removeCause_of_last hwoken _ (by simpa using hst) (by simp [hset])]
      exact ⟨_, rfl, hoseMoves_enterState .., by simp, by simp [resumedCtx, nearPreset]⟩
  case notActive =>
    refine ⟨fun hf hs hp => ?_, fun hn => ?_⟩
    · rw [exec_eq_answered rfl rfl ht, reqPauseHose_elsewhere] <;> simpa
    · rw [exec_eq_answered rfl rfl ht, reqResumeHose_elsewhere (by simpa using hn)]
  case badHose =>
    constructor
    · rw [exec_eq_answered rfl rfl ht, reqPauseHose, withHose_badHose hn]
    · rw [exec_eq_answered rfl rfl ht, reqResumeHose, withHose_badHose hn]
  case refused =>
    exact ⟨exec_eq_notPermitted (k := .pauseHose) rfl (onlyConsole_eq_false hp) ht,
      exec_eq_notPermitted (k := .resumeHose) rfl (onlyConsole_eq_false hp) ht⟩

end Sys2Proof.Machine
end

section
/-! PROOFS. The end of a hose's dispense on request: STOP HOSE (R106). -/

namespace Sys2Proof.Machine

/-! ## What the request does, by the hose's state (R106) -/

/-- The flags of a dispense that a port stops: REMOTE_STOP comes from the uplink alone. -/
def stoppedBy (p : Port) (d : Dispense) : Dispense :=
  { d with flags := { d.flags with remoteStop := d.flags.remoteStop || p == .uplink } }

theorem beq_uplink (p : Port) : (p == .uplink) = onlyUplink p := by cases p <;> rfl

theorem stoppedBy_of_ne_uplink {p : Port} (hp : p ≠ .uplink) (d : Dispense) : stoppedBy p d = d := by
  simp [stoppedBy, beq_uplink, onlyUplink_eq_false hp]

section

variable {h : Hose} {s : State} (p : Port)

theorem reqStopHose_of_armed (hst : (hoseCtx s h).state = .armed) :
    reqStopHose p (hoseCode h) s = (returnIdle h s, plain .ok) := by
  rw [reqStopHose, withHose_hoseCode]
  simp [hst]

theorem reqStopHose_of_inDemand (hst : inDemand (hoseCtx s h).state = true) :
    reqStopHose p (hoseCode h) s = (stopFlow (onlyUplink p) h s, plain .ok) := by
  rw [reqStopHose, withHose_hoseCode]
  cases hc : (hoseCtx s h).state with
  | priming | ready | flowing | slowing | paused => rfl
  | idle | armed | ending | halted | locked => simp [hc, inDemand] at hst

theorem reqStopHose_of_ending (hst : (hoseCtx s h).state = .ending) :
    reqStopHose p (hoseCode h) s = (s, plain .ok) := by
  rw [reqStopHose, withHose_hoseCode]
  simp [hst]

theorem reqStopHose_of_notInUse (hst : inUse (hoseCtx s h).state = false) :
    reqStopHose p (hoseCode h) s = (s, plain .notActive) := by
  rw [reqStopHose, withHose_hoseCode]
  cases hc : (hoseCtx s h).state with
  | idle | halted | locked => rfl
  | armed | priming | ready | flowing | slowing | paused | ending => simp [hc, inUse, hasDispense, inDemand] at hst

/-- The stop is the entry to ENDING with outcome STOPPED, of a dispense that REMOTE_STOP marks when the uplink
stops it. -/
theorem stopFlow_eq {d : Dispense} (hd : (hoseCtx s h).dispense = some d) :
    stopFlow (onlyUplink p) h s =
      enterState h .ending
        (putHose h (endingCtx .stopped s.itu.mono (stoppedBy p d) (hoseCtx s h))
          (s.hsc.pumps.set d.comp (leftPump h (s.hsc.pumps.get d.comp))) s) := by
  by_cases hp : p = .uplink
  · subst hp
    rw [stopFlow, onlyUplink, if_pos rfl, modDispense_eq_putHose, enterEnding_eq (d := stoppedBy .uplink d)]
    · simp [endingCtx, stoppedBy]
    · simp [hd, stoppedBy]
  · rw [stopFlow, onlyUplink_eq_false hp, if_neg Bool.false_ne_true, enterEnding_eq hd, stoppedBy_of_ne_uplink hp]

end

/-! ## The statement -/

/-- Settles O36: what the request makes of the hose of the woken part, by its state. -/
theorem stopHoseEndsDispense : Obligations.StopHoseEndsDispense := by
  refine ⟨fun h p s ht hp => ?named, fun n p s ht hp hn => ?badHose, fun n s ht => ?refused⟩
  case named =>
    have hpermitted : permitted .stopHose p = true := by simp [permitted, onlyService_eq_false hp]
    refine ⟨fun hst => ?armed, fun d hst hd => ?inDemand, fun hst => ?ending, fun hst => ?notInUse⟩
    case armed =>
      rw [exec_eq_answered rfl hpermitted ht, reqStopHose_of_armed p (by simpa using hst), returnIdle_eq]
      exact ⟨_, rfl, hoseMoves_enterState .., by simp, by simp [idleCtx]⟩
    case inDemand =>
      rw [exec_eq_answered rfl hpermitted ht, reqStopHose_of_inDemand p (by simpa using hst),
        stopFlow_eq p (d := d) (by simpa using hd)]
      exact ⟨_, rfl, hoseMoves_enterState .., by simp [endingCtx, stoppedBy], by simp⟩
    case ending => rw [exec_eq_answered rfl hpermitted ht, reqStopHose_of_ending p (by simpa using hst)]
    case notInUse => rw [exec_eq_answered rfl hpermitted ht, reqStopHose_of_notInUse p (by simpa using hst)]
  case badHose =>
    have hpermitted : permitted .stopHose p = true := by simp [permitted, onlyService_eq_false hp]
    rw [exec_eq_answered rfl hpermitted ht, reqStopHose, withHose_badHose hn]
  case refused => exact exec_eq_notPermitted (k := .stopHose) rfl rfl ht

end Sys2Proof.Machine
end

section
/-! PROOFS. What a command can do, said once: every command is a chain of moves, each a write of one item that keeps what
others hold on it, or an operation that opens or closes a dispense, a receipt, a reconcile or a record as a whole. The
statements about every step and every command are proved of the moves. -/

namespace Sys2Proof.Machine

/-! ## What a move keeps -/

/-- What a dispense holds of the rest of the part: its compartment, contractor, committed amount and record. -/
structure Stake where
  comp : Comp
  contractor : Option Nat
  amount : Nat
  seq : Nat

def Dispense.stake (d : Dispense) : Stake :=
  { comp := d.comp, contractor := d.granted.map (·.contractor), amount := d.committedAmount, seq := d.seq }

/-- A hose's context changes and holds what it held, and a LOCKED hose stays LOCKED. -/
structure KeepsHold (c c' : HoseCtx) : Prop where
  held : hasDispense c'.state = hasDispense c.state
  stake : c'.dispense.map Dispense.stake = c.dispense.map Dispense.stake
  locked : c.state = .locked → c'.state = .locked

/-- A receipt changes and keeps its docket, what START gave it and, but for the ways from RECEIVING and HELD, its
state. -/
structure KeepsDocket (r r' : Receipt) : Prop where
  docket : r'.docket = r.docket
  started : r'.started.isSome = r.started.isSome
  state : r'.state = r.state ∨ receiptRuns r.state = true ∧ (receiptRuns r'.state = true ∨ r'.state = .settling)

/-- A meter changes and keeps its owner and parameters, and its totals do not fall. -/
structure KeepsMeter (x x' : MeterState) : Prop where
  owned : x'.owned = x.owned
  params : x'.params = x.params
  totals : totalsFit x = true → totalsFit x' = true ∧ x.totalPulses ≤ x'.totalPulses ∧ x.totalGross ≤ x'.totalGross

/-- The time of ITU changes: the latch and the clock's validity stay, and the time base does not go back. -/
structure KeepsTime (x x' : Itu) : Prop where
  latch : x.latch = true → x'.latch = true
  mono : x.mono ≤ x'.mono
  valid : x.clockValid = true → x'.clockValid = true

/-- What only some commands may do: the starts, the clears of LOCKED levels, the release of records, the acknowledgement
of events, and the metrological writes. -/
inductive Power where
  | reset | restart | clearLock (h : Hose) | clearInletLock | release | ack (p : Port) | writeCal
deriving DecidableEq

/-! ## The moves -/

/-- A hose takes up a dispense in PRIMING, before its pump is asked (R99). -/
def openDispense (h : Hose) (d : Dispense) (s : State) : State :=
  let s := modHose h (fun c => { c with dispense := some d, timer := none }) s
  let s := modMeter (hoseMeter h) takeOwnership s
  let s := saveShadow false h s
  let s :=
    match d.granted with
    | some g => modReader h (fun r => { r with bound := some g.machine }) s
    | none => s
  enterState h .priming s

/-- The reservations of a dispense, its OPEN record, its draw and its commitments, with the hose that takes it up (R88,
R179). -/
def reserveDispense (h : Hose) (d : Dispense) (record : DispenseRecord) (s : State) : State :=
  let s := reserve (.dispense record) s
  let s := modComp d.comp (fun c => { c with committed := c.committed + d.committedVolume, op := draw c.op }) s
  let s :=
    match d.granted with
    | some g => commitAmount g.contractor d.committedAmount s
    | none => s
  openDispense h d s

/-- What a dispense that is reserved rests on: its hose is free of one and draws on the compartment it is mapped to, its
number is the next one, a slot is free, no receipt or reconcile holds the compartment, and its contractor is in the
table. -/
structure Reservable (h : Hose) (d : Dispense) (record : DispenseRecord) (s : State) : Prop where
  rests : hasDispense (hoseCtx s h).state = false
  unlocked : (hoseCtx s h).state ≠ .locked
  hose : record.hose = h
  comp : d.comp = hoseComp s h
  seq : d.seq = s.jnl.nextSeq
  slot : 0 < freeSlots s.jnl
  receiving : (compartment s d.comp).op ≠ .receiving
  reconciling : (compartment s d.comp).op ≠ .reconciling
  contractor : ∀ g ∈ d.granted, (s.bil.contractors[g.contractor]?).isSome = true

/-- One move from a state to the next, made by a command with the powers `may`. -/
inductive Move (may : Power → Prop) : State → State → Prop
  | spend (s : State) : Move may s (spend s)
  | raiseSet (set : BitVec 24) (s : State) : Move may s (raiseSet set s)
  | idu (f : Idu → Idu) (s : State) : Move may s (modIdu f s)
  | tpi (f : Tpi → Tpi) (s : State)
      (seqs : ∀ c, ((f s.tpi).reconciles.get c).map (·.seq) = (s.tpi.reconciles.get c).map (·.seq)) :
      Move may s (modTpi f s)
  | itu (f : Itu → Itu) (s : State) (time : KeepsTime s.itu (f s.itu)) : Move may s (modItu f s)
  | mtb (f : Mtb → Mtb) (s : State) (table : tableOk s = true → tableOk (modMtb f s) = true) : Move may s (modMtb f s)
  | bil (f : Bil → Bil) (s : State)
      (committed : ∀ i, (contractorOf (modBil f s) i).committed = (contractorOf s i).committed)
      (product : ∀ c, ((f s.bil).prices.get c).product = (s.bil.prices.get c).product) : Move may s (modBil f s)
  | hose (h : Hose) (f : HoseCtx → HoseCtx) (s : State) (keeps : KeepsHold (hoseCtx s h) (f (hoseCtx s h))) :
      Move may s (modHose h f s)
  | fault (h : Hose) (l : FaultLevel) (s : State) (locked : (hoseCtx s h).state = .locked → l.code = 2) :
      Move may s (setFault h l s)
  | shadow (h : Hose) (d : Dispense) (w : Shadow) (s : State) (dispense : (hoseCtx s h).dispense = some d)
      (opened : w.opened = true) (seq : w.seq = d.seq) : Move may s (setShadow h w s)
  | hsc (f : Hsc → Hsc) (s : State) (hoses : (f s.hsc).hoses = s.hsc.hoses) (faults : (f s.hsc).faults = s.hsc.faults)
      (shadows : (f s.hsc).shadows = s.hsc.shadows) (map : (f s.hsc).map = s.hsc.map) : Move may s (modHsc f s)
  | meter (m : MeterId) (f : MeterState → MeterState) (s : State)
      (keeps : KeepsMeter (s.mtr.meters.get m) (f (s.mtr.meters.get m))) : Move may s (modMeter m f s)
  | comp (c : Comp) (f : Compartment → Compartment) (s : State)
      (op : (f (compartment s c)).op = (compartment s c).op)
      (params : (f (compartment s c)).params = (compartment s c).params)
      (strapping : (f (compartment s c)).strapping = (compartment s c).strapping) : Move may s (modComp c f s)
  | receipt (f : Receipt → Receipt) (s : State) (keeps : KeepsDocket s.rcp.receipt (f s.rcp.receipt)) :
      Move may s (modReceipt f s)
  | receiptShadow (d : Docket) (w : ReceiptShadow) (s : State) (docket : s.rcp.receipt.docket = some d)
      (opened : w.opened = true) (seq : w.seq = d.seq) : Move may s (modRcp (fun x => { x with shadow := w }) s)
  | deferred (x : PerSource (Option Deferred)) (s : State) : Move may s (modJnl (fun j => { j with deferred := x }) s)
  | record (body : Body) (openTime closeTime : Nat) (s : State) (slot : 0 < freeSlots s.jnl) :
      Move may s (takeSlot body openTime (some closeTime) s)
  | release (n : Nat) (s : State) (power : may .release) (closed : (s.jnl.ring.take n).any (·.isOpen) = false)
      (inRing : n ≤ s.jnl.ring.length) : Move may s (modJnl (release n) s)
  | cal (f : Cal → Cal) (s : State) : Move may s (modCal f s)
  | port (p : Port) (f : PortState → PortState) (s : State)
      (queue : portOk (s.prt.ports.get p) = true → portOk (f (s.prt.ports.get p)) = true)
      (events : may (.ack p) ∨ (s.prt.ports.get p).pending &&& (f (s.prt.ports.get p)).pending = (s.prt.ports.get p).pending) :
      Move may s (modPort p f s)
  | reserveDispense (h : Hose) (d : Dispense) (record : DispenseRecord) (s : State) (able : Reservable h d record s) :
      Move may s (reserveDispense h d record s)
  | closeDispense (h : Hose) (d : Dispense) (s : State) (dispense : (hoseCtx s h).dispense = some d) :
      Move may s (closeDispense h s)
  | clearHose (h : Hose) (s : State) (rests : hasDispense (hoseCtx s h).state = false)
      (power : may (.clearLock h) ∨ (hoseCtx s h).state ≠ .locked) : Move may s (clearHose h s)
  | openReceipt (c : Comp) (supplier : Nat) (number : List Byte) (expected : Nat) (s : State)
      (idle : s.rcp.receipt.state = .idle) (free : (compartment s c).op = .free) (slot : 0 < freeSlots s.jnl) :
      Move may s (openReceiptNow c supplier number expected s)
  | startReceipt (d : Docket) (x : Started) (s : State) (docketed : s.rcp.receipt.state = .docketed)
      (docket : s.rcp.receipt.docket = some d) (sound : s.rcp.fault.code = 0) : Move may s (startReceiptNow d x s)
  | closeReceipt (o : ReceiptOutcome) (d : Docket) (s : State) (docket : s.rcp.receipt.docket = some d) :
      Move may s (closeReceiptNow o s)
  | inletFault (kind : FaultKind) (volume : Option Nat) (s : State) : Move may s (inletFault kind volume s)
  | clearInlet (s : State) (power : may .clearInletLock ∨ s.rcp.fault.code ≠ 2) : Move may s (clearInlet s)
  | startReconcile (c : Comp) (mode : ReconcileMode) (s : State) (free : (compartment s c).op = .free)
      (slot : 0 < freeSlots s.jnl) : Move may s (startReconcile c mode s)
  | endReconcile (c : Comp) (k k' : ReconcileCtx) (o : ReconcileOutcome) (figures : Option DipFigures) (high : Bool)
      (s : State) (runs : s.tpi.reconciles.get c = some k) (seq : k'.seq = k.seq) :
      Move may s (endReconcile c k' o figures high s)
  | meterParams (m : MeterId) (f : MeterParams → MeterParams) (s : State) (power : may .writeCal) :
      Move may s (modMeter m (fun x => { x with params := f x.params }) s)
  | hoseMap (h : Hose) (c : Comp) (s : State) (power : may .writeCal)
      (rest : ∀ k, hasDispense (hoseCtx s k).state = false) : Move may s (modHsc (fun x => { x with map := x.map.set h c }) s)
  | compParams (c : Comp) (f : CompParams → CompParams) (s : State) (power : may .writeCal) :
      Move may s (modComp c (fun x => { x with params := f x.params }) s)
  | strapping (c : Comp) (points : List StrapPoint) (s : State) (power : may .writeCal) :
      Move may s (modComp c (fun x => { x with strapping := points }) s)
  | product (c : Comp) (r : PriceRecord) (s : State) (power : may .writeCal) :
      Move may s (modPrice c (fun _ => r) s)

/-- A move, or a start of the part. -/
inductive Leap (may : Power → Prop) : State → State → Prop
  | move {s t : State} (h : Move may s t) : Leap may s t
  | reset (levels : BitVec 12) (kept : Bool) (downtime : Nat) (s : State) (power : may .reset) :
      Leap may s (hardwareReset levels kept downtime s)
  | restart (s : State) (power : may .restart) : Leap may s (restartNow s)

/-- A chain of moves and starts. -/
def Moves (may : Power → Prop) : State → State → Prop := Relation.ReflTransGen (Leap may)

theorem Leap.moves {may : Power → Prop} {s t : State} (h : Leap may s t) : Moves may s t := Relation.ReflTransGen.single h

theorem Move.moves {may : Power → Prop} {s t : State} (h : Move may s t) : Moves may s t := (Leap.move h).moves

/-- What every move and every start keeps, every chain keeps. -/
theorem Moves.preserves {may : Power → Prop} {P : State → Prop} (hleap : ∀ s t, Leap may s t → P s → P t) {s t : State}
    (h : Moves may s t) (hs : P s) : P t := by
  induction h with
  | refl => exact hs
  | tail _ hlast ih => exact hleap _ _ hlast ih

theorem Moves.refl {may : Power → Prop} (s : State) : Moves may s s := Relation.ReflTransGen.refl

theorem Moves.trans {may : Power → Prop} {s t u : State} (h : Moves may s t) (k : Moves may t u) : Moves may s u :=
  Relation.ReflTransGen.trans h k

end Sys2Proof.Machine
end

section
/-! PROOFS. The operations of the part as chains of moves: time and events, the journal, the tables and prices. -/

namespace Sys2Proof.Machine

variable {may : Power → Prop}

/-! ## Events and time -/

theorem moves_raise (e : Event) (s : State) : Moves may s (raise e s) := (Move.raiseSet _ s).moves

theorem moves_raiseIf (b : Bool) (e : Event) (s : State) : Moves may s (raiseIf b e s) := by
  unfold raiseIf
  split
  · exact moves_raise e s
  · exact .refl s

theorem moves_reachTime (d : Nat) (s : State) : Moves may s (reachTime d s) :=
  (Move.itu _ s ⟨id, le_max_left _ _, id⟩).moves

theorem moves_startIdle (s : State) : Moves may s (startIdle s) := (Move.itu _ s ⟨id, le_rfl, id⟩).moves

theorem moves_reloadIdle (src : IdleSource) (s : State) : Moves may s (reloadIdle src s) := by
  unfold reloadIdle
  (repeat' split)
  · exact .refl s
  · exact moves_startIdle s
  · exact .refl s

theorem moves_wake (s : State) : Moves may s (wake s) := by
  unfold wake
  split
  · exact (Move.itu _ s ⟨id, le_rfl, id⟩).moves.trans (moves_startIdle _)
  · exact .refl s

theorem moves_modInput (i : Input) (f : InputState → InputState) (s : State) : Moves may s (modInput i f s) :=
  (Move.itu _ s ⟨id, le_rfl, id⟩).moves

/-- A change for both hoses is a chain of moves where the change for one is. -/
theorem moves_forHoses (both : Bool) {f : Hose → State → State} (hf : ∀ h s, Moves may s (f h s)) (s : State) :
    Moves may s (forHoses both f s) :=
  forHoses_preserves (P := Moves may s) both f (fun h t ht => ht.trans (hf h t))
    (fun t ht => ht.trans (Move.spend t).moves) s (.refl s)

/-! ## The journal -/

theorem moves_recordFault (src : Source) (kind : FaultKind) (locked : Bool) (volume : Option Nat) (s : State) :
    Moves may s (recordFault src kind locked volume s) := by
  unfold recordFault
  split
  next hfree => exact (Move.record _ _ _ s hfree).moves.trans (moves_raise _ _)
  next => exact (Move.deferred _ s).moves.trans (moves_raise _ _)

theorem moves_writeDeferred (src : Source) (s : State) : Moves may s (writeDeferred src s) := by
  unfold writeDeferred
  split
  · exact .refl s
  · split
    · exact .refl s
    next hfree =>
      exact (Move.deferred _ s).moves.trans
        (Move.record _ _ _ _ (by simpa [freeSlots] using Nat.pos_of_ne_zero hfree)).moves

theorem moves_writeAllDeferred (s : State) : Moves may s (writeAllDeferred s) :=
  (((moves_writeDeferred _ _).trans (moves_writeDeferred _ _)).trans (moves_writeDeferred _ _)).trans
    (moves_writeDeferred _ _)

theorem moves_writeFirstDeferred (s : State) : Moves may s (writeFirstDeferred s) := by
  unfold writeFirstDeferred
  split
  · exact moves_writeDeferred _ s
  · exact .refl s

theorem moves_recordAdjust (param : ParamId) (subject : Subject) (old : Option Int) (new : Int) (origin : Port)
    {s : State} (hfree : freeSlots s.jnl ≠ 0) : Moves may s (recordAdjust param subject old new origin s) :=
  (Move.record _ _ _ s (Nat.pos_of_ne_zero hfree)).moves

/-! ## Contractors and prices -/

/-- A change of a contractor that keeps its committed amount. -/
theorem moves_modContractor (i : Nat) {f : Contractor → Contractor} (hf : ∀ k, (f k).committed = k.committed) (s : State) :
    Moves may s (modContractor i f s) := by
  refine (Move.bil _ s (fun j => ?_) fun c => rfl).moves
  rcases eq_or_ne i j with rfl | hj
  · simp only [contractorOf, modBil_frame, List.getElem?_modify_eq]
    cases s.bil.contractors[i]? with
    | none => rfl
    | some k => exact hf k
  · simp [contractorOf, hj]

/-- A change of a price record that keeps its product code. -/
theorem moves_modPrice (c : Comp) {f : PriceRecord → PriceRecord} (hf : ∀ r, (f r).product = r.product) (s : State) :
    Moves may s (modPrice c f s) := by
  refine (Move.bil _ s (fun j => by simp [contractorOf]) fun k => ?_).moves
  simp only [PerComp.get_set]
  split
  next hk => rw [hf, hk]
  next => rfl

theorem moves_activatePrice (c : Comp) (s : State) : Moves may s (activatePrice c s) := by
  unfold activatePrice
  split
  · exact .refl s
  · split
    next hallowed =>
      obtain ⟨⟨-, hfree⟩, -⟩ : (powerFail s = false ∧ 0 < freeSlots s.jnl) ∧ saturated s.jnl = false := by
        simpa [activationAllowed] using hallowed
      exact ((moves_recordAdjust _ _ _ _ _ hfree.ne').trans (moves_modPrice c (by intro; rfl) _)).trans (moves_raise _ _)
    next => exact .refl s

theorem moves_activatePrices (s : State) : Moves may s (activatePrices s) :=
  (moves_activatePrice _ _).trans (moves_activatePrice _ _)

/-! ## The tables -/

/-- Numbers that rise from each entry to the next rise throughout. -/
theorem rising_iff (l : List MachineEntry) : rising l = true ↔ l.Pairwise (fun a b => a.number < b.number) := by
  induction l with
  | nil => simp [rising]
  | cons e rest ih =>
    cases rest with
    | nil => simp [rising]
    | cons e' rest =>
      simp only [rising, Bool.and_eq_true, decide_eq_true_eq, ih, List.pairwise_cons (a := e)]
      refine ⟨fun ⟨h, hp⟩ => ⟨fun a ha => ?_, hp⟩, fun ⟨h, hp⟩ => ⟨h e' (by simp), hp⟩⟩
      rcases List.mem_cons.mp ha with rfl | ha
      · exact h
      · exact h.trans ((List.pairwise_cons.mp hp).1 a ha)

theorem rising_map {f : MachineEntry → MachineEntry} (hf : ∀ e, (f e).number = e.number) (l : List MachineEntry) :
    rising (l.map f) = rising l := by
  rw [Bool.eq_iff_iff, rising_iff, rising_iff, List.pairwise_map]
  simp only [hf]

/-- A change of entries that keeps their numbers keeps the order of the table. -/
theorem tableOk_map {f : MachineEntry → MachineEntry} (hf : ∀ e, (f e).number = e.number) {s t : State}
    (ht : t.mtb.machines = s.mtb.machines.map f) : tableOk t = tableOk s := by
  simp [tableOk, ht, rising_map hf]

/-- A change of MTB that leaves the machines. -/
theorem moves_modMtb {f : Mtb → Mtb} (hf : ∀ m, (f m).machines = m.machines) (s : State) : Moves may s (modMtb f s) :=
  (Move.mtb f s fun hs => by simpa [tableOk, hf] using hs).moves

theorem moves_modEntry (number : Nat) {f : MachineEntry → MachineEntry} (hf : ∀ e, (f e).number = e.number) (s : State) :
    Moves may s (modEntry number f s) := by
  refine (Move.mtb _ s fun hs => (tableOk_map (f := fun e => if e.number == number then f e else e) (fun e => ?_) (by simp)).trans hs).moves
  split
  · exact hf e
  · rfl

theorem moves_evalRollover (s : State) : Moves may s (evalRollover s) := by
  unfold evalRollover
  split
  · refine (Move.mtb _ s fun hs => Eq.trans ?_ hs).moves.trans (moves_raise _ _)
    exact tableOk_map (f := fun e => { e with consumed := ⟨0, 0⟩ }) (fun _ => rfl) (by simp)
  · exact .refl s

theorem moves_expireWatch (index : Nat) (s : State) : Moves may s (expireWatch index s) := by
  unfold expireWatch
  split
  · split
    · exact (moves_modMtb (by intro; rfl) s).trans (moves_raise _ _)
    · exact .refl s
  · exact .refl s

theorem moves_expireWatches (s : State) : Moves may s (expireWatches s) := by
  unfold expireWatches
  generalize List.range 8 = l
  induction l generalizing s with
  | nil => exact .refl s
  | cons i rest ih => exact (moves_expireWatch i s).trans (ih _)

theorem moves_clockWork (s : State) : Moves may s (clockWork s) :=
  ((moves_evalRollover _).trans (moves_expireWatches _)).trans (moves_activatePrices _)


end Sys2Proof.Machine
end

section
/-! PROOFS. The operations on hoses, their faults and their readers as chains of moves. -/

namespace Sys2Proof.Machine

variable {may : Power → Prop}

/-! ## States, readers and timers -/

theorem moves_modReader (h : Hose) (f : Reader → Reader) (s : State) : Moves may s (modReader h f s) :=
  (Move.idu _ s).moves

theorem moves_refreshReader (h : Hose) (s : State) : Moves may s (refreshReader h s) := by
  unfold refreshReader
  split
  · exact .refl s
  · exact moves_modReader h _ s

theorem moves_saveShadow (b : Bool) (h : Hose) (s : State) : Moves may s (saveShadow b h s) := by
  unfold saveShadow
  split
  next d hd => exact (Move.shadow h d _ s hd rfl rfl).moves
  next => exact .refl s

theorem moves_touchShadow (h : Hose) (s : State) : Moves may s (touchShadow h s) := by
  unfold touchShadow
  split
  · exact moves_saveShadow _ h s
  · exact .refl s

theorem moves_enterState {h : Hose} {st : HoseState} {s : State}
    (held : hasDispense st = hasDispense (hoseCtx s h).state) (locked : (hoseCtx s h).state = .locked → st = .locked) :
    Moves may s (enterState h st s) :=
  (((Move.hose h _ s ⟨held, rfl, locked⟩).moves.trans (moves_refreshReader h _)).trans (moves_touchShadow h _)).trans
    (moves_raise _ _)

/-- A change of a context that leaves its state and its dispense. -/
theorem moves_modHose (h : Hose) {f : HoseCtx → HoseCtx} (hf : ∀ c, (f c).state = c.state ∧ (f c).dispense = c.dispense)
    (s : State) : Moves may s (modHose h f s) := by
  obtain ⟨hst, hd⟩ := hf (hoseCtx s h)
  exact (Move.hose h f s ⟨by rw [hst], by rw [hd], by rw [hst]; exact id⟩).moves

theorem moves_startTimer (h : Hose) (ms : Nat) (s : State) : Moves may s (startTimer h ms s) :=
  moves_modHose h (by intro c; exact ⟨rfl, rfl⟩) s

theorem moves_stopTimer (h : Hose) (s : State) : Moves may s (stopTimer h s) := moves_modHose h (by intro c; exact ⟨rfl, rfl⟩) s

/-- A change of a dispense that keeps what it holds. -/
theorem moves_modDispense (h : Hose) {f : Dispense → Dispense} (hf : ∀ d, (f d).stake = d.stake) (s : State) :
    Moves may s (modDispense h f s) :=
  (Move.hose h _ s ⟨rfl, by simp only [Option.map_map]; congr 1; exact funext hf, id⟩).moves

/-- The return to IDLE of a hose that holds nothing (R98). -/
theorem moves_returnIdle {h : Hose} {s : State} (harmed : (hoseCtx s h).state = .armed) : Moves may s (returnIdle h s) :=
  (moves_modHose h (by intro c; exact ⟨rfl, rfl⟩) s).trans (moves_enterState (by simp [harmed, hasDispense, inDemand])
    (by simp [harmed]))

/-! ## Pumps and pauses -/

theorem moves_modPump (c : Comp) (f : Pump → Pump) (s : State) : Moves may s (modPump c f s) :=
  (Move.hsc _ s rfl rfl rfl rfl).moves

theorem moves_leaveDemand (c : Comp) (h : Hose) (s : State) : Moves may s (leaveDemand c h s) := moves_modPump c _ s

/-- The way from one state with a dispense to another. -/
theorem moves_enterState_held {h : Hose} {st : HoseState} {s : State} (hst : hasDispense st = true)
    (held : hasDispense (hoseCtx s h).state = true) : Moves may s (enterState h st s) :=
  moves_enterState (hst.trans held.symm) fun hl => by simp [hl, hasDispense, inDemand] at held

theorem hasDispense_of_inDemand {st : HoseState} (h : inDemand st = true) : hasDispense st = true := by
  simp [hasDispense, h]

theorem moves_enterReady {h : Hose} {s : State} (held : hasDispense (hoseCtx s h).state = true) :
    Moves may s (enterReady h s) :=
  (moves_startTimer h _ s).trans (moves_enterState_held rfl (by simpa using held))

theorem moves_removeCause (f : Causes → Causes) (h : Hose) (s : State) : Moves may s (removeCause f h s) := by
  unfold removeCause
  split
  next hst =>
    dsimp only
    have hcause : Moves may s (modDispense h (fun d => { d with causes := f d.causes }) s) :=
      moves_modDispense h (by intro; rfl) s
    split
    · split
      · refine (hcause.trans (moves_startTimer h _ _)).trans (moves_enterState_held ?_ (by simp [hst, hasDispense, inDemand]))
        split <;> rfl
      · exact hcause
    · exact hcause
  next => exact .refl s

theorem moves_addCause (f : Causes → Causes) (h : Hose) (s : State) : Moves may s (addCause f h s) := by
  have hflow (held : hasDispense (hoseCtx s h).state = true) :
      Moves may s (enterState h .paused (startTimer h ((s.hsc.params.get h).pauseLimit * 1000)
        (modDispense h (fun d => { d with causes := f d.causes, pauseCount := satAdd 255 d.pauseCount 1 }) s))) :=
    ((moves_modDispense h (by intro; rfl) s).trans (moves_startTimer h _ _)).trans
      (moves_enterState_held rfl (by simpa using held))
  unfold addCause
  split
  next hst => exact hflow (by simp [hst, hasDispense, inDemand])
  next hst => exact hflow (by simp [hst, hasDispense, inDemand])
  · exact moves_modDispense h (by intro; rfl) s
  · exact .refl s

theorem moves_confirmHose (c : Comp) (h : Hose) (s : State) : Moves may s (confirmHose c h s) := by
  unfold confirmHose
  split
  · split
    next hst => exact moves_enterReady (by simp [hst, hasDispense, inDemand])
    · exact moves_removeCause _ h s
    · exact .refl s
  · exact .refl s

theorem moves_pumpRuns (c : Comp) (s : State) : Moves may s (pumpRuns c s) :=
  ((moves_modPump c _ s).trans (moves_confirmHose c .h1 _)).trans (moves_confirmHose c .h2 _)

theorem moves_startPump (c : Comp) (s : State) : Moves may s (startPump c s) := by
  unfold startPump
  dsimp only
  split
  · exact (moves_modPump c _ s).trans (moves_pumpRuns c _)
  · exact moves_modPump c _ s

theorem moves_joinDemand (c : Comp) {h : Hose} {s : State} (held : hasDispense (hoseCtx s h).state = true) :
    Moves may s (joinDemand c h s) := by
  have hjoin : Moves may s (modPump c (fun p => { p with demand := p.demand.set h true }) s) := moves_modPump c _ s
  unfold joinDemand
  dsimp only
  split
  · exact hjoin.trans (moves_startPump c _)
  · exact hjoin.trans (moves_startPump c _)
  · exact hjoin.trans (moves_enterReady (by simpa using held))
  · exact hjoin

theorem moves_runConfirmed (c : Comp) (s : State) : Moves may s (runConfirmed c s) := by
  unfold runConfirmed
  split
  · exact moves_pumpRuns c s
  · exact .refl s

theorem moves_lostRunHose (c : Comp) (h : Hose) (s : State) : Moves may s (lostRunHose c h s) := by
  unfold lostRunHose
  split
  · split
    · exact moves_addCause _ h s
    · exact moves_addCause _ h s
    · exact moves_addCause _ h s
    next hst =>
      exact (moves_stopTimer h s).trans (moves_enterState_held rfl (by simp [hst, hasDispense, inDemand]))
    · exact .refl s
  · exact .refl s

theorem moves_runLost (c : Comp) (s : State) : Moves may s (runLost c s) := by
  unfold runLost
  split
  · exact ((moves_modPump c _ s).trans (moves_lostRunHose c .h1 _)).trans (moves_lostRunHose c .h2 _)
  · exact .refl s

/-! ## The end of the flow, and the close -/

theorem stake_withOutcome (o : DispenseOutcome) (d : Dispense) : (withOutcome o d).stake = d.stake := by
  unfold withOutcome
  split <;> rfl

theorem moves_enterEnding (o : DispenseOutcome) {h : Hose} {s : State} (held : hasDispense (hoseCtx s h).state = true) :
    Moves may s (enterEnding o h s) := by
  unfold enterEnding
  split
  · exact (((moves_modDispense h (by exact fun d => stake_withOutcome o d) s).trans (moves_leaveDemand _ h _)).trans
      (moves_startTimer h _ _)).trans (moves_enterState_held rfl (by simpa using held))
  · exact .refl s

theorem moves_endIf (o : DispenseOutcome) (h : Hose) (s : State) : Moves may s (endIf o h s) := by
  unfold endIf
  split
  next hst => exact moves_enterEnding o (hasDispense_of_inDemand hst)
  next => exact .refl s

theorem moves_closeDispense (h : Hose) (s : State) : Moves may s (closeDispense h s) := by
  cases hd : (hoseCtx s h).dispense with
  | none => rw [closeDispense_none h s hd]; exact .refl s
  | some d => exact (Move.closeDispense h d s hd).moves

/-! ## Faults -/

theorem moves_setHoseFault {h : Hose} (kind : FaultKind) {locked : Bool} (volume : Option Nat) {s : State}
    (hl : (hoseCtx s h).state = .locked → locked = true) : Moves may s (setHoseFault h kind locked volume s) :=
  ((Move.fault h _ s fun hst => by simp [hl hst, FaultLevel.code]).moves.trans (moves_recordFault _ _ _ _ _)).trans
    (moves_raiseIf _ _ _)

/-- A fault on a hose that holds a dispense ends the flow (R114). -/
theorem moves_faultEnds {h : Hose} (kind : FaultKind) (volume : Option Nat) {s : State}
    (hst : inDemand (hoseCtx s h).state = true) :
    Moves may s (enterEnding .fault h
      (modDispense h (fun d => { d with faultKind := some kind }) (setHoseFault h kind false volume s))) :=
  ((moves_setHoseFault kind volume fun hl => by simp [hl, inDemand] at hst).trans
    (moves_modDispense h (by intro; rfl) _)).trans (moves_enterEnding _ (by simpa using hasDispense_of_inDemand hst))

theorem moves_hoseFault (h : Hose) (kind : FaultKind) (volume : Option Nat) (s : State) :
    Moves may s (hoseFault h kind volume s) := by
  have hrest (hst : (hoseCtx s h).state = .idle ∨ (hoseCtx s h).state = .armed) :
      Moves may s (enterState h .halted
        (modHose h (fun c => { c with timer := none, operator := none, requested := none })
          (setHoseFault h kind false volume s))) := by
    refine ((moves_setHoseFault kind volume fun hl => ?_).trans (moves_modHose h (by intro c; exact ⟨rfl, rfl⟩) _)).trans
      (moves_enterState ?_ ?_) <;> rcases hst with hst | hst <;> simp_all [hasDispense, inDemand]
  unfold hoseFault
  split
  next hst => exact moves_faultEnds kind volume (by simp [hst, inDemand])
  next hst => exact moves_faultEnds kind volume (by simp [hst, inDemand])
  next hst => exact moves_faultEnds kind volume (by simp [hst, inDemand])
  next hst => exact moves_faultEnds kind volume (by simp [hst, inDemand])
  next hst => exact moves_faultEnds kind volume (by simp [hst, inDemand])
  next hst =>
    split
    · exact (moves_setHoseFault kind volume (by simp)).trans (moves_closeDispense h _)
    · exact (moves_setHoseFault kind volume (by simp [hst])).trans (moves_modDispense h (by intro; rfl) _)
  next hst => exact hrest (.inl hst)
  next hst => exact hrest (.inr hst)
  next hst =>
    exact (moves_setHoseFault kind volume (by simp)).trans (moves_enterState (by simp [hst, hasDispense, inDemand]) (by simp))
  · exact moves_setHoseFault kind volume (by simp)

theorem moves_hoseChannel (h : Hose) (s : State) : Moves may s (hoseChannel h s) := by
  unfold hoseChannel
  split
  · exact moves_hoseFault h _ _ s
  · exact .refl s

theorem moves_hoseLeak (h : Hose) (volume : Nat) (s : State) : Moves may s (hoseLeak h volume s) := by
  unfold hoseLeak
  split
  · exact .refl s
  · exact moves_hoseFault h _ _ s

theorem moves_attemptExpires (c : Comp) (s : State) : Moves may s (attemptExpires c s) := by
  unfold attemptExpires
  split
  · exact (moves_reachTime _ s).trans (moves_modPump c _ _)
  · refine ((moves_reachTime _ s).trans (moves_modPump c _ _)).trans (moves_forHoses _ (fun h t => ?_) _)
    dsimp only
    split
    · exact moves_hoseFault h _ _ t
    · exact .refl t
  · exact .refl s

/-! ## Count reports -/

theorem stake_takeCount (temp : Int × Bool) (pulses gross : Nat) (d : Dispense) :
    (takeCount temp pulses gross d).stake = d.stake := by
  unfold takeCount
  dsimp only
  split <;> rfl

theorem moves_shadowHundred (h : Hose) (pulses : Nat) (s : State) : Moves may s (shadowHundred h pulses s) := by
  unfold shadowHundred
  split
  · exact moves_touchShadow h s
  · exact .refl s

theorem moves_overrunTest (h : Hose) (s : State) : Moves may s (overrunTest h s) := by
  unfold overrunTest
  split
  · split
    · exact (moves_modDispense h (by intro; rfl) s).trans (moves_hoseFault h _ _ _)
    · exact .refl s
  · exact .refl s

theorem moves_presetTest (h : Hose) (s : State) : Moves may s (presetTest h s) := by
  unfold presetTest
  split
  · split
    · exact moves_endIf _ h s
    · exact .refl s
  · exact .refl s

theorem moves_slowTest (h : Hose) (s : State) : Moves may s (slowTest h s) := by
  unfold slowTest
  split
  next hst _ =>
    split
    · exact moves_enterState_held rfl (by simp [hst, hasDispense, inDemand])
    · exact .refl s
  next => exact .refl s

theorem moves_flowTests (h : Hose) (s : State) : Moves may s (slowTest h (presetTest h (overrunTest h s))) :=
  ((moves_overrunTest h _).trans (moves_presetTest h _)).trans (moves_slowTest h _)

theorem moves_hoseCount (h : Hose) (pulses gross : Nat) (s : State) : Moves may s (hoseCount h pulses gross s) := by
  unfold hoseCount
  dsimp only
  have htaken := ((moves_modDispense h (may := may) (stake_takeCount (currentTemp s (hoseMeter h)) pulses gross) s).trans
    (moves_shadowHundred h pulses _))
  generalize shadowHundred h pulses _ = t at htaken ⊢
  refine htaken.trans ?_
  split
  next hst =>
    exact ((moves_startTimer h _ t).trans (moves_enterState_held rfl (by simp [hst, hasDispense, inDemand]))).trans
      (moves_flowTests h _)
  · exact (moves_startTimer h _ t).trans (moves_flowTests h _)
  · exact (moves_startTimer h _ t).trans (moves_flowTests h _)
  · exact (moves_overrunTest h _).trans (moves_presetTest h _)
  · exact moves_overrunTest h _
  · exact .refl t

/-! ## Reports and stops -/

theorem moves_hoseLost (h : Hose) (s : State) : Moves may s (hoseLost h s) := by
  unfold hoseLost
  split
  · split
    next hst => exact moves_enterEnding _ (by simp [hst, hasDispense, inDemand])
    next hst => exact moves_enterEnding _ (by simp [hst, hasDispense, inDemand])
    · exact moves_addCause _ h s
    · exact moves_addCause _ h s
    · exact moves_addCause _ h s
    · exact .refl s
  · exact .refl s

theorem moves_stowNozzle (h : Hose) (s : State) : Moves may s (stowNozzle h s) := by
  unfold stowNozzle
  refine Moves.trans ?_ (moves_refreshReader h _)
  split
  next hst => exact moves_returnIdle hst
  next hst => exact moves_enterEnding _ (by simp [hst, hasDispense, inDemand])
  next hst => exact moves_enterEnding _ (by simp [hst, hasDispense, inDemand])
  next hst => exact moves_enterEnding _ (by simp [hst, hasDispense, inDemand])
  next hst => exact moves_enterEnding _ (by simp [hst, hasDispense, inDemand])
  next hst => exact moves_enterEnding _ (by simp [hst, hasDispense, inDemand])
  · exact .refl s

theorem moves_stopHoseNow (h : Hose) (s : State) : Moves may s (stopHoseNow h s) := by
  unfold stopHoseNow
  split
  next hst => exact moves_returnIdle hst
  next => exact moves_endIf _ h s

theorem moves_interruptHose (h : Hose) (s : State) : Moves may s (interruptHose h s) := by
  unfold interruptHose
  split
  · exact (((moves_stopTimer h s).trans (moves_saveShadow true h _)).trans (moves_modDispense h (by intro; rfl) _)).trans
      (moves_closeDispense h _)
  · split
    next hst => exact moves_returnIdle hst
    next => exact .refl s

theorem moves_interruptHoses (s : State) : Moves may s (interruptHoses s) := by
  unfold interruptHoses
  refine (moves_forHoses _ moves_interruptHose s).trans (Move.hsc _ _ ?_ ?_ ?_ ?_).moves <;> rfl

end Sys2Proof.Machine
end

section
/-! PROOFS. The authorisation, the readers, the receipt, the reconciles and the lines as chains of moves. -/

namespace Sys2Proof.Machine

variable {may : Power → Prop}

/-! ## Authorisation -/

/-- A dispense that begins is taken up, and then its pump is asked. -/
theorem beginDispense_eq (h : Hose) (d : Dispense) (s : State) :
    beginDispense h d s = joinDemand d.comp h (openDispense h d s) := rfl

@[simp] theorem hoseCtx_openDispense (h k : Hose) (d : Dispense) (s : State) :
    hoseCtx (openDispense h d s) k =
      if k = h then { hoseCtx s h with state := .priming, dispense := some d, timer := none } else hoseCtx s k := by
  unfold openDispense
  dsimp only
  split <;> by_cases hk : k = h <;> simp [hk]

/-- Taking a slot and changing a compartment do not touch one another. -/
theorem reserve_modComp (body : Body) (c : Comp) (f : Compartment → Compartment) (s : State) :
    reserve body (modComp c f s) = modComp c f (reserve body s) := by
  simp only [reserve, takeSlot, raiseIf, apply_ite (modComp c f)]
  rfl

theorem grant_eq (h : Hose) (g : Grant) (s : State) :
    grant h g s =
      joinDemand g.comp h
        (reserveDispense h (grantDispense s.jnl.nextSeq g) (grantRecord h ((hoseCtx s h).operator.getD 0) g)
          (setMarker g.granted.machine g.comp h s)) := rfl

/-- What a passed site check says (Table 5-2, checks 5 and 6). -/
theorem siteRefusal_none {h : Hose} {s : State} (hs : siteRefusal h s = none) :
    4 < freeSlots s.jnl ∧ (compartment s (hoseComp s h)).op ≠ .receiving ∧
      (compartment s (hoseComp s h)).op ≠ .reconciling := by
  unfold siteRefusal at hs
  split at hs
  · exact absurd hs (by simp)
  · split at hs
    · exact absurd hs (by simp)
    · exact absurd hs (by simp)
    next hreceiving hreconciling =>
      split at hs
      · exact absurd hs (by simp)
      next hslots => exact ⟨not_le.mp hslots, hreceiving, hreconciling⟩

/-- The contractor of an entry that passes its checks is in the table (R58). -/
theorem entryRefusal_none {c : Comp} {mode : IdMode} {e : MachineEntry} {s : State} (hs : entryRefusal c mode e s = none) :
    (s.bil.contractors[e.contractor]?).isSome = true := by
  unfold entryRefusal at hs
  by_contra hnone
  have hk : contractorOf s e.contractor = {} := by simp_all [contractorOf]
  simp only [hk] at hs
  (repeat' split at hs) <;> simp_all

theorem presetCheck_ok {h : Hose} {t : Trigger} {e : MachineEntry} {cls : IdClass} {s : State} {g : Grant}
    (hg : presetCheck h t e cls s = .ok g) : g.comp = hoseComp s h ∧ g.granted.contractor = e.contractor := by
  unfold presetCheck at hg
  dsimp only at hg
  split at hg
  · exact absurd hg (by simp)
  · obtain rfl := Except.ok.inj hg
    exact ⟨rfl, rfl⟩

/-- The admission of a machine is one move (R50). -/
theorem moves_admitEntry (e : MachineEntry) (cls : IdClass) (s : State) : Moves may s (admitEntry e cls s).1 := by
  unfold admitEntry
  split
  · exact .refl s
  next hlen =>
    dsimp only
    refine (Move.mtb _ s fun hs => ?_).moves
    simp only [tableOk, Bool.and_eq_true, decide_eq_true_eq, rising_iff, modMtb_frame] at hs ⊢
    exact ⟨(length_insertEntry e _).trans (by omega), pairwise_insertEntry e _ hs.2⟩

theorem moves_classify (number : Nat) (mode : IdMode) (s : State) : Moves may s (classify number mode s).1 := by
  unfold classify
  split
  · exact .refl s
  · split
    · exact .refl s
    · split
      · exact moves_admitEntry _ _ s
      · split
        · exact moves_admitEntry _ _ s
        · exact .refl s

/-- What the checks leave: the part as its admission of the machine has it, and a grant that can be reserved. -/
theorem runChecks_ok {h : Hose} {t : Trigger} {s w : State} {g : Grant} (hc : runChecks h t s = (w, .ok g)) :
    w = (classify t.machine t.mode s).1 ∧ 4 < freeSlots s.jnl ∧ g.comp = hoseComp s h ∧
      (compartment s g.comp).op ≠ .receiving ∧ (compartment s g.comp).op ≠ .reconciling ∧
      (s.bil.contractors[g.granted.contractor]?).isSome = true := by
  unfold runChecks at hc
  split at hc
  · simp at hc
  next hsite =>
    obtain ⟨hslots, hreceiving, hreconciling⟩ := siteRefusal_none hsite
    have hframe := classify_frame t.machine t.mode s
    split at hc
    · simp at hc
    next u e cls hcls =>
      rw [hcls] at hframe ⊢
      dsimp only at hframe
      split at hc
      · simp at hc
      next hentry =>
        obtain ⟨rfl, hg⟩ := Prod.mk.inj hc
        obtain ⟨hcomp, hcontractor⟩ := presetCheck_ok hg
        have hmap : hoseComp u h = hoseComp s h := by simp only [hoseComp, hframe]
        have hcon := entryRefusal_none hentry
        simp only [hframe] at hcon
        rw [hcomp, hmap]
        exact ⟨rfl, hslots, rfl, hreceiving, hreconciling, hcontractor ▸ hcon⟩

theorem moves_runChecks (h : Hose) (t : Trigger) (s : State) : Moves may s (runChecks h t s).1 := by
  unfold runChecks
  have hcls := moves_classify (may := may) t.machine t.mode s
  split
  · exact .refl s
  · split
    next e => rw [e] at hcls; exact hcls
    next e =>
      rw [e] at hcls
      split <;> exact hcls

theorem moves_refuse {h : Hose} (t : Trigger) (r : Reason) {s : State} (harmed : (hoseCtx s h).state = .armed) :
    Moves may s (refuse h t r s) :=
  (((moves_modHose h (by intro c; exact ⟨rfl, rfl⟩) s).trans (moves_returnIdle (by simpa using harmed))).trans
    (moves_raise _ _)).trans (moves_raiseIf _ _ _)

/-- A dispense that can be reserved begins. -/
theorem moves_reserveDispense {h : Hose} {d : Dispense} {record : DispenseRecord} {s : State}
    (able : Reservable h d record s) : Moves may s (joinDemand d.comp h (reserveDispense h d record s)) := by
  refine (Move.reserveDispense h d record s able).moves.trans (moves_joinDemand _ ?_)
  simp [reserveDispense, hasDispense, inDemand]

theorem moves_authorise {h : Hose} (t : Trigger) {s : State} (harmed : (hoseCtx s h).state = .armed) :
    Moves may s (authorise h t s).1 := by
  have hchecks := moves_runChecks (may := may) h t s
  have hframe := runChecks_frame h t s
  unfold authorise
  split
  next w r e =>
    rw [e] at hchecks hframe
    dsimp only at hframe
    exact hchecks.trans (moves_refuse t r ((congrArg HoseCtx.state (hoseCtx_congr (by simp only [hframe]) h)).trans harmed))
  next w g e =>
    obtain ⟨-, hslots, hcomp, hreceiving, hreconciling, hcontractor⟩ := runChecks_ok e
    rw [e] at hchecks hframe
    dsimp only at hframe ⊢
    have hctx : hoseCtx w h = hoseCtx s h := hoseCtx_congr (by simp only [hframe]) h
    rw [grant_eq]
    refine (hchecks.trans (moves_modEntry _ (by exact fun _ => rfl) w)).trans (moves_reserveDispense ?_)
    change Reservable h _ _ (setMarker g.granted.machine g.comp h w)
    refine ⟨?_, ?_, rfl, ?_, rfl, ?_, ?_, ?_, ?_⟩
    · simp [hctx, harmed, hasDispense, inDemand]
    · simp [hctx, harmed]
    · simp only [setMarker_frame, hoseComp, hframe]
      exact hcomp
    · simp only [setMarker_frame, hframe]
      omega
    · simpa [compartment, hframe, grantDispense] using hreceiving
    · simpa [compartment, hframe, grantDispense] using hreconciling
    · simpa [hframe, grantDispense] using hcontractor

theorem moves_hoseIdentified (h : Hose) (machine template : Nat) (hours : Option Nat) (s : State) :
    Moves may s (hoseIdentified h machine template hours s) := by
  unfold hoseIdentified
  split
  next harmed => exact moves_authorise _ harmed
  next => exact .refl s

/-! ## Readers -/

theorem moves_sendReport (h : Hose) (report : Option Report) (s : State) : Moves may s (sendReport h report s) := by
  unfold sendReport
  split
  · exact moves_hoseIdentified h _ _ _ s
  · exact moves_hoseLost h s
  · exact moves_removeCause _ h s
  · exact moves_endIf _ h s
  · exact .refl s

theorem moves_completeFrame (h : Hose) (length : Nat) (payload crc : List Byte) (s : State) :
    Moves may s (completeFrame h length payload crc s) := by
  unfold completeFrame
  dsimp only
  split
  · exact (moves_modReader h _ s).trans (moves_modReader h _ _)
  · exact (((moves_modReader h _ s).trans (moves_modReader h _ _)).trans (moves_reloadIdle _ _)).trans
      (moves_sendReport h _ _)

theorem moves_tagByte (h : Hose) (b : Byte) (s : State) : Moves may s (tagByte h b s) := by
  unfold tagByte
  dsimp only
  split
  · exact .refl s
  · split
    · split
      · exact moves_modReader h _ s
      · exact .refl s
    · split
      · exact moves_modReader h _ s
      · exact moves_modReader h _ s
    · exact moves_modReader h _ s
    · split
      · exact (moves_modReader h _ s).trans (moves_completeFrame h _ _ _ _)
      · exact moves_modReader h _ s

theorem moves_truncateFrame (h : Hose) (s : State) : Moves may s (truncateFrame h s) := by
  unfold truncateFrame
  dsimp only
  split
  · exact (moves_reachTime _ s).trans (moves_modReader h _ _)
  · exact .refl s

theorem moves_lapseCandidate (h : Hose) (s : State) : Moves may s (lapseCandidate h s) := by
  unfold lapseCandidate
  split
  · exact (moves_reachTime _ s).trans (moves_modReader h _ _)
  · exact .refl s

theorem moves_enterGrace (h : Hose) (s : State) : Moves may s (enterGrace h s) := by
  unfold enterGrace
  split
  · exact (moves_reachTime _ s).trans (moves_modReader h _ _)
  · exact .refl s

theorem moves_loseTag (h : Hose) (s : State) : Moves may s (loseTag h s) := by
  unfold loseTag
  split
  · exact ((moves_reachTime _ s).trans (moves_modReader h _ _)).trans (moves_sendReport h _ _)
  · exact .refl s

/-! ## The receipt -/

theorem moves_saveReceiptShadow (b : Bool) (s : State) : Moves may s (saveReceiptShadow b s) := by
  unfold saveReceiptShadow
  split
  next d hd => exact (Move.receiptShadow d _ s hd rfl rfl).moves
  next => exact .refl s

theorem moves_touchReceiptShadow (s : State) : Moves may s (touchReceiptShadow s) := by
  unfold touchReceiptShadow
  split
  · exact moves_saveReceiptShadow _ s
  · exact .refl s

/-- A change of a receipt that leaves its state, its docket and what START gave it. -/
theorem moves_modReceipt {f : Receipt → Receipt}
    (hf : ∀ r, (f r).state = r.state ∧ (f r).docket = r.docket ∧ (f r).started = r.started) (s : State) :
    Moves may s (modReceipt f s) := by
  obtain ⟨hst, hd, hstarted⟩ := hf s.rcp.receipt
  exact (Move.receipt f s ⟨hd, by rw [hstarted], .inl hst⟩).moves

/-- The ways of a receipt that runs: from RECEIVING to HELD and back, and to SETTLING. -/
theorem moves_enterReceipt {st : ReceiptState} {s : State} (hruns : receiptRuns s.rcp.receipt.state = true)
    (hst : receiptRuns st = true ∨ st = .settling) : Moves may s (enterReceipt st s) :=
  (((Move.receipt _ s ⟨rfl, rfl, .inr ⟨hruns, hst⟩⟩).moves.trans (moves_touchReceiptShadow _)).trans
    (moves_raise _ _)).trans (moves_reloadIdle _ _)

theorem moves_receiptTimer (ms : Nat) (s : State) : Moves may s (receiptTimer ms s) :=
  moves_modReceipt (by intro r; exact ⟨rfl, rfl, rfl⟩) s

theorem moves_enterSettling (o : ReceiptOutcome) {s : State} (hruns : receiptRuns s.rcp.receipt.state = true) :
    Moves may s (enterSettling o s) :=
  ((moves_modReceipt (by intro r; exact ⟨rfl, rfl, rfl⟩) s).trans (moves_receiptTimer _ _)).trans
    (moves_enterReceipt (by simpa [receiptTimer] using hruns) (.inr rfl))

theorem moves_settleIf (o : ReceiptOutcome) (s : State) : Moves may s (settleIf o s) := by
  unfold settleIf
  split
  next hruns => exact moves_enterSettling o hruns
  next => exact .refl s

theorem moves_closeReceiptNow (o : ReceiptOutcome) (s : State) : Moves may s (closeReceiptNow o s) := by
  cases hd : s.rcp.receipt.docket with
  | none => simp only [closeReceiptNow, hd]; exact .refl s
  | some d => exact (Move.closeReceipt o d s hd).moves

theorem moves_inletChannel (s : State) : Moves may s (inletChannel s) := by
  unfold inletChannel
  split
  · exact (Move.inletFault _ _ s).moves
  · exact (Move.inletFault _ _ s).moves
  · exact (Move.inletFault _ _ s).moves
  · exact .refl s

theorem moves_inletLeak (volume : Nat) (s : State) : Moves may s (inletLeak volume s) := by
  unfold inletLeak
  split
  · exact (Move.inletFault _ _ s).moves
  · exact (Move.inletFault _ _ s).moves
  · exact .refl s

theorem keepsDocket_takeReceiptCount (temp : Int × Bool) (pulses gross : Nat) (r : Receipt) :
    (takeReceiptCount temp pulses gross r).state = r.state ∧ (takeReceiptCount temp pulses gross r).docket = r.docket ∧
      (takeReceiptCount temp pulses gross r).started = r.started := by
  unfold takeReceiptCount
  dsimp only
  split <;> exact ⟨rfl, rfl, rfl⟩

theorem moves_receiptCount (pulses gross : Nat) (s : State) : Moves may s (receiptCount pulses gross s) := by
  have htaken := moves_modReceipt (may := may) (keepsDocket_takeReceiptCount (currentTemp s .mi) pulses gross) s
  have hlimit (t : State) : Moves may t (match t.rcp.receipt.started with
      | some x => if x.limit ≤ gross then settleIf .limit t else t
      | none => t) := by
    split
    · split
      · exact moves_settleIf _ t
      · exact .refl t
    · exact .refl t
  refine htaken.trans (Moves.trans ?_ (hlimit _))
  split
  · exact moves_touchReceiptShadow _
  · exact .refl _

theorem moves_loseBond (s : State) : Moves may s (loseBond s) := by
  unfold loseBond
  split
  next hst =>
    exact (moves_receiptTimer _ s).trans (moves_enterReceipt (by simp [receiptTimer, hst, receiptRuns]) (.inl rfl))
  next => exact .refl s

theorem moves_regainBond (s : State) : Moves may s (regainBond s) := by
  unfold regainBond
  split
  next hst =>
    exact (moves_modReceipt (by intro r; exact ⟨rfl, rfl, rfl⟩) s).trans
      (moves_enterReceipt (by simp [hst, receiptRuns]) (.inl rfl))
  next => exact .refl s

theorem moves_interruptReceipt (s : State) : Moves may s (interruptReceipt s) := by
  unfold interruptReceipt
  split
  · exact .refl s
  · exact moves_closeReceiptNow _ s
  · exact (moves_saveReceiptShadow true s).trans (moves_closeReceiptNow _ _)

/-! ## Reconciles -/

theorem moves_modProbe (c : Comp) (f : ProbeState → ProbeState) (s : State) : Moves may s (modProbe c f s) :=
  (Move.tpi _ s fun _ => rfl).moves

theorem moves_modSensor (m : MeterId) (f : SensorState → SensorState) (s : State) : Moves may s (modSensor m f s) :=
  (Move.tpi _ s fun _ => rfl).moves

theorem moves_abortReconcile (c : Comp) (o : ReconcileOutcome) (s : State) : Moves may s (abortReconcile c o s) := by
  unfold abortReconcile
  split
  next k hk => exact (Move.endReconcile c k k o none false s hk rfl).moves
  next => exact .refl s

/-- A change of a compartment's book and notice. -/
theorem moves_modComp (c : Comp) {f : Compartment → Compartment}
    (hf : ∀ x, (f x).op = x.op ∧ (f x).params = x.params ∧ (f x).strapping = x.strapping) (s : State) :
    Moves may s (modComp c f s) := by
  obtain ⟨hop, hparams, hstrapping⟩ := hf (compartment s c)
  exact (Move.comp c f s hop hparams hstrapping).moves

theorem evalReturn_keeps (x : Compartment) :
    (evalReturn x).op = x.op ∧ (evalReturn x).params = x.params ∧ (evalReturn x).strapping = x.strapping := by
  unfold evalReturn
  split <;> exact ⟨rfl, rfl, rfl⟩

theorem moves_rebase (c : Comp) (base : Nat) (s : State) : Moves may s (rebase c base s) :=
  moves_modComp c (by intro x; exact evalReturn_keeps _) s

theorem moves_completeReconcile {c : Comp} {k k' : ReconcileCtx} {s : State} (hk : s.tpi.reconciles.get c = some k)
    (hseq : k'.seq = k.seq) : Moves may s (completeReconcile c k' s) := by
  unfold completeReconcile
  dsimp only
  have hdip : Moves may s (match k'.mode with
      | .set => rebase c (dipResult s c k').figures.dipStandard s
      | .check => modComp c evalReturn s) := by
    split
    · exact moves_rebase c _ s
    · exact moves_modComp c evalReturn_keeps s
  refine ((hdip.trans (Move.endReconcile c k k' _ _ _ _ ?_ hseq).moves).trans
    (Move.tpi _ _ (by exact fun _ => rfl)).moves).trans (moves_raiseIf _ _ _)
  split <;> simpa using hk

theorem moves_addReading (c : Comp) (level : Nat) (temp : Int) (s : State) : Moves may s (addReading c level temp s) := by
  unfold addReading
  split
  · exact .refl s
  next k hk =>
    dsimp only
    split
    · exact moves_completeReconcile hk rfl
    · refine (Move.tpi _ s fun c' => ?_).moves
      rw [PerComp.get_set]
      split
      next hc => rw [hc, hk]; rfl
      next => rfl

theorem moves_probeLost (c : Comp) (s : State) : Moves may s (probeLost c s) := by
  have hlost : Moves may s (abortReconcile c .probeFault (modProbe c (fun p => { p with valid := false }) s)) :=
    (moves_modProbe c _ s).trans (moves_abortReconcile c _ _)
  unfold probeLost
  dsimp only
  split
  · exact hlost.trans (Move.inletFault _ _ _).moves
  · exact hlost

end Sys2Proof.Machine
end

section
/-! PROOFS. The field lines, the inputs, the timers and the requests' owners as chains of moves. -/

namespace Sys2Proof.Machine

variable {may : Power → Prop}

/-! ## Pulses -/

/-- A change of a meter that leaves its owner, its parameters and its totals. -/
theorem moves_modMeter (m : MeterId) {f : MeterState → MeterState}
    (hf : ∀ x, (f x).owned = x.owned ∧ (f x).params = x.params ∧ (f x).totalPulses = x.totalPulses ∧
      (f x).totalGross = x.totalGross) (s : State) : Moves may s (modMeter m f s) := by
  obtain ⟨howned, hparams, hpulses, hgross⟩ := hf (s.mtr.meters.get m)
  refine (Move.meter m f s ⟨howned, hparams, fun hfit => ⟨?_, hpulses.ge, hgross.ge⟩⟩).moves
  rw [totalsFit, hpulses, hgross]
  exact hfit

theorem moves_sendCount (m : MeterId) (pulses gross : Nat) (s : State) : Moves may s (sendCount m pulses gross s) := by
  cases m with
  | m1 => exact moves_hoseCount .h1 _ _ s
  | m2 => exact moves_hoseCount .h2 _ _ s
  | mi => exact moves_receiptCount _ _ s

theorem moves_sendChannel (m : MeterId) (s : State) : Moves may s (sendChannel m s) := by
  cases m with
  | m1 => exact moves_hoseChannel .h1 s
  | m2 => exact moves_hoseChannel .h2 s
  | mi => exact moves_inletChannel s

theorem moves_ownedPulse (m : MeterId) (ch : Channel) (other : Bool) (s : State) :
    Moves may s (ownedPulse m ch other s) := by
  have hcounted := moves_modMeter (may := may) m (f := fun x => { x with counts := countPulse ch other x.counts })
    (by intro x; exact ⟨rfl, rfl, rfl, rfl⟩) s
  unfold ownedPulse
  dsimp only
  generalize modMeter m _ s = t at hcounted ⊢
  generalize disagrees (t.mtr.meters.get m) = report
  have hmark : Moves may t (if report then modMeter m (fun x => { x with disagreed := true }) t else t) := by
    split
    · exact moves_modMeter m (by intro x; exact ⟨rfl, rfl, rfl, rfl⟩) t
    · exact .refl t
  have hcount (pulses gross before : Nat) (u : State) :
      Moves may u (if pulses = before then u else sendCount m pulses gross u) := by
    split
    · exact .refl u
    · exact moves_sendCount m _ _ u
  have hchannel (u : State) : Moves may u (if report then sendChannel m u else u) := by
    split
    · exact moves_sendChannel m u
    · exact .refl u
  exact ((hcounted.trans hmark).trans (hcount _ _ _ _)).trans (hchannel _)

theorem moves_stockLeak (c : Comp) (delta : Int) (s : State) : Moves may s (stockLeak c delta s) :=
  (moves_modComp c (by intro x; exact ⟨rfl, rfl, rfl⟩) s).trans (moves_raiseIf _ _ _)

theorem moves_sendLeak (m : MeterId) (c : Comp) (standard : Nat) (s : State) : Moves may s (sendLeak m c standard s) := by
  cases m with
  | m1 => exact (moves_stockLeak c _ s).trans (moves_hoseLeak .h1 _ _)
  | m2 => exact (moves_stockLeak c _ s).trans (moves_hoseLeak .h2 _ _)
  | mi => exact (moves_stockLeak c _ s).trans (moves_inletLeak _ _)

/-- Totals that fit fit after an advance, and are not lower. -/
theorem totals_totalise (pulses gross : Nat) {x : MeterState} (hfit : totalsFit x = true) :
    totalsFit (totalise pulses gross x) = true ∧ x.totalPulses ≤ (totalise pulses gross x).totalPulses ∧
      x.totalGross ≤ (totalise pulses gross x).totalGross := by
  simp only [totalsFit, Bool.and_eq_true, decide_eq_true_eq] at hfit ⊢
  exact ⟨⟨min_le_left _ _, min_le_left _ _⟩, le_min hfit.1 (Nat.le_add_right _ _), le_min hfit.2 (Nat.le_add_right _ _)⟩

theorem moves_reportLeak (m : MeterId) (s : State) : Moves may s (reportLeak m s) := by
  have hadvance (gross : Nat) : Moves may s
      (modMeter m (fun x => { totalise (leakCounter x.leaks) gross x with leaks := {} }) s) :=
    (Move.meter m (fun x => { totalise (leakCounter x.leaks) gross x with leaks := {} }) s
      ⟨rfl, rfl, fun hfit => totals_totalise _ gross hfit⟩).moves
  exact ((hadvance _).trans (moves_wake _)).trans (moves_sendLeak m _ _ _)

theorem moves_unownedPulse (m : MeterId) (ch : Channel) (other : Bool) (s : State) :
    Moves may s (unownedPulse m ch other s) := by
  have hcounted := moves_modMeter (may := may) m (f := fun x => { x with leaks := countPulse ch other x.leaks })
    (by intro x; exact ⟨rfl, rfl, rfl, rfl⟩) s
  unfold unownedPulse
  dsimp only
  split
  · exact hcounted.trans (moves_reportLeak m _)
  · exact hcounted

theorem moves_pulse (m : MeterId) (ch : Channel) (other : Bool) (s : State) : Moves may s (pulse m ch other s) := by
  unfold pulse
  split
  · exact .refl s
  · split
    · exact moves_ownedPulse m ch other s
    · exact moves_unownedPulse m ch other s

/-! ## Sensor and probe lines -/

theorem moves_judgeSensor (m : MeterId) (frame : List Byte) (s : State) : Moves may s (judgeSensor m frame s) := by
  unfold judgeSensor
  dsimp only
  split
  · exact (moves_modSensor m _ s).trans (moves_modSensor m _ _)
  · exact moves_modSensor m _ s

theorem moves_sensorByte (m : MeterId) (b : Byte) (s : State) : Moves may s (sensorByte m b s) := by
  unfold sensorByte
  dsimp only
  split
  · exact .refl s
  · split
    · exact .refl s
    · split
      · exact (moves_modSensor m _ s).trans (moves_judgeSensor m _ _)
      · exact moves_modSensor m _ s

theorem moves_ageSensor (m : MeterId) (s : State) : Moves may s (ageSensor m s) := by
  unfold ageSensor
  split
  · exact (moves_reachTime _ s).trans (moves_modSensor m _ _)
  · exact .refl s

theorem moves_takeProbe (c : Comp) (level : Nat) (temp : Int) (s : State) : Moves may s (takeProbe c level temp s) := by
  unfold takeProbe
  dsimp only
  split
  · exact ((moves_modProbe c _ s).trans (moves_modProbe c _ _)).trans (moves_addReading c _ _ _)
  · split
    · exact (moves_modProbe c _ s).trans (moves_probeLost c _)
    · exact moves_modProbe c _ s

theorem moves_judgeProbe (c : Comp) (frame : List Byte) (s : State) : Moves may s (judgeProbe c frame s) := by
  unfold judgeProbe
  dsimp only
  split
  · exact (moves_modProbe c _ s).trans (moves_takeProbe c _ _ _)
  · exact moves_modProbe c _ s

theorem moves_probeByte (c : Comp) (b : Byte) (s : State) : Moves may s (probeByte c b s) := by
  unfold probeByte
  dsimp only
  split
  · exact .refl s
  · split
    · exact .refl s
    · split
      · exact (moves_modProbe c _ s).trans (moves_judgeProbe c _ _)
      · exact moves_modProbe c _ s

theorem moves_ageProbe (c : Comp) (s : State) : Moves may s (ageProbe c s) := by
  unfold ageProbe
  split
  · exact (moves_reachTime _ s).trans (moves_probeLost c _)
  · exact .refl s

theorem moves_sensorGap (m : MeterId) (s : State) : Moves may s (sensorGap m s) := by
  unfold sensorGap
  dsimp only
  split
  · exact .refl s
  · exact (moves_reachTime _ s).trans (moves_modSensor m _ _)

theorem moves_probeGap (c : Comp) (s : State) : Moves may s (probeGap c s) := by
  unfold probeGap
  dsimp only
  split
  · exact .refl s
  · exact (moves_reachTime _ s).trans (moves_modProbe c _ _)

/-- The bytes of a line are a chain of moves where each byte is. -/
theorem moves_foldl {α : Type} {f : State → α → State} (hf : ∀ a s, Moves may s (f s a)) (l : List α) (s : State) :
    Moves may s (l.foldl f s) := by
  induction l generalizing s with
  | nil => exact .refl s
  | cons a rest ih => exact (hf a s).trans (ih _)

/-! ## Input events -/

theorem moves_modCal (f : Cal → Cal) (s : State) : Moves may s (modCal f s) := (Move.cal f s).moves

theorem moves_stopRun (h : Hose) (s : State) :
    Moves may s (if inProving (hoseCtx s h) then endIf .stopped h s else s) := by
  split
  · exact moves_endIf _ h s
  · exact .refl s

theorem moves_endCalibration (s : State) : Moves may s (endCalibration s) :=
  (((moves_modCal _ s).trans (moves_stopRun .h1 _)).trans (moves_stopRun .h2 _)).trans (moves_raise _ _)

theorem clearLeaks_eq (s : State) :
    clearLeaks s = modMeter .mi (fun x => { x with leaks := {} })
      (modMeter .m2 (fun x => { x with leaks := {} }) (modMeter .m1 (fun x => { x with leaks := {} }) s)) := rfl

theorem moves_clearLeaks (s : State) : Moves may s (clearLeaks s) := by
  have hclear (m : MeterId) (s : State) : Moves may s (modMeter m (fun x => { x with leaks := {} }) s) :=
    moves_modMeter m (by intro x; exact ⟨rfl, rfl, rfl, rfl⟩) s
  rw [clearLeaks_eq]
  exact ((hclear .m1 s).trans (hclear .m2 _)).trans (hclear .mi _)

theorem moves_emergencyStop (s : State) : Moves may s (emergencyStop s) := by
  unfold emergencyStop
  split
  · exact .refl s
  · exact ((((Move.itu _ s ⟨fun _ => rfl, le_rfl, id⟩).moves.trans (moves_stopHoseNow .h1 _)).trans
      (moves_stopHoseNow .h2 _)).trans (moves_settleIf _ _)).trans (moves_raise _ _)

theorem moves_powerFailStarts (s : State) : Moves may s (powerFailStarts s) :=
  ((((moves_interruptHoses s).trans (moves_interruptReceipt _)).trans (moves_abortReconcile .c1 _ _)).trans
    (moves_abortReconcile .c2 _ _)).trans (moves_clearLeaks _)

theorem moves_powerFailEnds (s : State) : Moves may s (powerFailEnds s) := by
  have hswitch (t : State) : Moves may t (if t.cal.on && !inputActive t .calSwitch then endCalibration t else t) := by
    split
    · exact moves_endCalibration t
    · exact .refl t
  have hidle (t : State) : Moves may t (if t.itu.standby then t else startIdle t) := by
    split
    · exact .refl t
    · exact moves_startIdle t
  exact (((moves_clearLeaks s).trans (hswitch _)).trans (moves_activatePrices _)).trans (hidle _)

theorem moves_switchOpens (s : State) : Moves may s (switchOpens s) := by
  unfold switchOpens
  split
  · exact moves_endCalibration s
  · exact .refl s

theorem moves_liftNozzle (h : Hose) (s : State) : Moves may s (refreshReader h (reloadIdle .nozzle (wake s))) :=
  ((moves_wake s).trans (moves_reloadIdle _ _)).trans (moves_refreshReader h _)

theorem moves_inputEvent (i : Input) (active : Bool) (s : State) : Moves may s (inputEvent i active s) := by
  unfold inputEvent
  split
  · exact moves_emergencyStop s
  · exact .refl s
  · exact moves_powerFailStarts s
  · exact moves_powerFailEnds s
  · exact moves_regainBond s
  · exact moves_loseBond s
  · exact moves_settleIf _ s
  · exact .refl s
  · exact (moves_wake s).trans (moves_reloadIdle _ _)
  · exact .refl s
  · exact moves_raise _ s
  · exact .refl s
  · exact (moves_abortReconcile .c1 _ s).trans (moves_abortReconcile .c2 _ _)
  · exact .refl s
  · exact moves_stowNozzle .h1 s
  · exact moves_liftNozzle .h1 s
  · exact moves_stowNozzle .h2 s
  · exact moves_liftNozzle .h2 s
  · exact moves_runConfirmed .c1 s
  · exact moves_runLost .c1 s
  · exact moves_runConfirmed .c2 s
  · exact moves_runLost .c2 s
  · exact .refl s
  · exact moves_switchOpens s

theorem moves_changeInput (i : Input) (active : Bool) (s : State) : Moves may s (changeInput i active s) := by
  unfold changeInput
  split
  · exact .refl s
  · exact (moves_modInput i _ s).trans (moves_inputEvent i active _)

theorem moves_driveLine (i : Input) (level : Bool) (s : State) : Moves may s (driveLine i level s) := by
  unfold driveLine
  dsimp only
  split
  · exact .refl s
  · split
    · exact moves_modInput i _ s
    · split
      · exact moves_changeInput i _ s
      · exact moves_modInput i _ s

theorem moves_retakeInput (i : Input) (s : State) : Moves may s (retakeInput i s) := by
  unfold retakeInput
  dsimp only
  split
  · exact moves_modInput i _ s
  · exact (moves_modInput i _ s).trans (moves_inputEvent i _ _)

theorem moves_setInput (i : Input) (activeLow : Bool) (debounce : Nat) (s : State) :
    Moves may s (setInput i activeLow debounce s) := by
  unfold setInput
  dsimp only
  split
  · exact (moves_modInput i _ s).trans (moves_retakeInput i _)
  · exact moves_modInput i _ s

theorem moves_enterStandbyNow (s : State) : Moves may s (enterStandbyNow s) :=
  (((Move.itu _ s ⟨id, le_rfl, id⟩).moves.trans (Move.tpi _ _ fun _ => rfl).moves).trans
    (moves_refreshReader .h1 _)).trans (moves_refreshReader .h2 _)

/-- A millisecond of waiting for the lines. -/
theorem moves_passLines (s : State) : Moves may s (passLines s) :=
  passLines_preserves (P := Moves may s) (fun i level t ht => ht.trans (moves_driveLine i level t))
    (fun _ t ht => ht.trans (Move.itu _ t ⟨id, le_rfl, id⟩).moves) s (.refl s)

/-! ## Timers -/

theorem moves_hoseTimeout {h : Hose} {due : HoseState → Bool} {act : State → State} {s : State}
    (hact : ∀ t, due (hoseCtx t h).state = true → Moves may t (act t)) : Moves may s (hoseTimeout h due act s) := by
  unfold hoseTimeout
  split
  · split
    next hdue => exact (moves_reachTime _ s).trans (hact _ hdue)
    next => exact .refl s
  · exact .refl s

theorem moves_receiptTimeout {due : ReceiptState} {act : State → State} {s : State}
    (hact : ∀ t, t.rcp.receipt.state = due → Moves may t (act t)) : Moves may s (receiptTimeout due act s) := by
  unfold receiptTimeout
  split
  · split
    next hdue => exact (moves_reachTime _ s).trans (hact _ hdue)
    next => exact .refl s
  · exact .refl s

theorem moves_expireIdle (s : State) : Moves may s (expireIdle s) := by
  unfold expireIdle
  split
  · exact ((moves_reachTime _ s).trans (Move.itu _ _ ⟨id, le_rfl, id⟩).moves).trans (moves_raise _ _)
  · exact .refl s

end Sys2Proof.Machine
end

section
/-! PROOFS. Requests, frames and commands as chains of moves, with the powers that each command has. -/

namespace Sys2Proof.Machine

variable {may : Power → Prop}

/-! ## The requests' owners -/

/-- The state beside a response. -/
theorem Moves.fst {s t : State} {r : Response} (h : Moves may s t) : Moves may s (t, r).1 := h

/-- A request of a hose is a chain of moves where its work on that hose is. -/
theorem moves_withHose {hose : Nat} {f : Hose → State → State × Response} (hf : ∀ h s, Moves may s (f h s).1) (s : State) :
    Moves may s (withHose hose f s).1 := by
  unfold withHose
  split
  · exact hf _ s
  · exact .refl s

theorem moves_reqTemplatePut (index : Nat) (t : Template) (s : State) : Moves may s (reqTemplatePut index t s).1 := by
  unfold reqTemplatePut
  split
  · exact .refl s
  · exact .fst ((Move.idu _ s).moves)

theorem moves_reqTemplateClear (index : Nat) (s : State) : Moves may s (reqTemplateClear index s).1 := by
  unfold reqTemplateClear
  split
  · exact .refl s
  · exact .fst ((Move.idu _ s).moves)

theorem moves_reqReadTagDiagnostics (reader : Nat) (s : State) : Moves may s (reqReadTagDiagnostics reader s).1 := by
  unfold reqReadTagDiagnostics
  split
  · exact .refl s
  · exact .fst (moves_modReader _ _ s)

/-- An entry put into an ordered table where its number has one, or where there is room, leaves an ordered table. -/
theorem tableOk_insertEntry {e : MachineEntry} {s : State}
    (hroom : (∃ x ∈ s.mtb.machines, x.number = e.number) ∨ s.mtb.machines.length < 512) (hs : tableOk s = true) :
    tableOk (modMtb (fun m => { m with machines := insertEntry e m.machines }) s) = true := by
  simp only [tableOk, Bool.and_eq_true, decide_eq_true_eq, rising_iff, modMtb_frame] at hs ⊢
  obtain ⟨hlen, hrising⟩ := hs
  refine ⟨?_, pairwise_insertEntry e _ hrising⟩
  rcases hroom with hnumber | hroom
  · exact (length_insertEntry_lookup e _ hrising hnumber).le.trans hlen
  · exact (length_insertEntry e _).trans hroom

theorem machineEntryOf_number {f : MachineFields} {e : MachineEntry} (he : machineEntryOf f = some e) :
    e.number = f.number := by
  unfold machineEntryOf at he
  split at he
  · split at he
    · simp at he
    · obtain rfl := Option.some.inj he
      rfl
  · simp at he

theorem moves_reqMachinePut (f : MachineFields) (s : State) : Moves may s (reqMachinePut f s).1 := by
  unfold reqMachinePut
  split
  · exact .refl s
  · split
    · exact .refl s
    next e he =>
      split
      next old hold =>
        obtain ⟨hmem, hnumber⟩ := lookup_some hold
        refine .fst (Move.mtb _ s (tableOk_insertEntry (.inl ⟨old, hmem, ?_⟩))).moves
        exact hnumber.trans (machineEntryOf_number he).symm
      next =>
        split
        · exact .refl s
        next hroom => exact (Move.mtb _ s (tableOk_insertEntry (.inr (not_le.mp hroom)))).moves

theorem moves_reqMachineRemove (number : Nat) (s : State) : Moves may s (reqMachineRemove number s).1 := by
  unfold reqMachineRemove
  split
  · exact .refl s
  · split
    · exact .refl s
    · split
      · exact moves_modEntry number (by exact fun _ => rfl) s
      · refine .fst (Move.mtb _ s fun hs => ?_).moves
        simp only [tableOk, Bool.and_eq_true, decide_eq_true_eq, rising_iff, modMtb_frame] at hs ⊢
        exact ⟨(List.length_filter_le _ _).trans hs.1, hs.2.filter _⟩

theorem moves_reqOpenSitePut (mode contractor : Nat) (allowance : PerComp (Option Nat)) (s : State) :
    Moves may s (reqOpenSitePut mode contractor allowance s).1 := by
  unfold reqOpenSitePut
  split
  · exact .refl s
  · split
    · exact .refl s
    · exact .fst (moves_modMtb (by exact fun _ => rfl) s)

theorem moves_reqPeriodSettingsPut (dayStart : Nat) (s : State) : Moves may s (reqPeriodSettingsPut dayStart s).1 :=
  (moves_modMtb (by exact fun _ => rfl) s).trans (moves_evalRollover _)

theorem moves_reqGroupRulePut (f : RuleFields) (s : State) : Moves may s (reqGroupRulePut f s).1 := by
  unfold reqGroupRulePut
  split
  · exact .refl s
  · exact .fst (moves_modMtb (by exact fun _ => rfl) s)

theorem moves_reqContractorPut (index state : Nat) (adjustment : Int) (basis : Nat) (limit : Option Nat) (s : State) :
    Moves may s (reqContractorPut index state adjustment basis limit s).1 := by
  unfold reqContractorPut
  split
  · split
    · exact .refl s
    · exact moves_modContractor index (by exact fun _ => rfl) s
  · exact .refl s

theorem moves_reqContractorSettle (index amount : Nat) (s : State) : Moves may s (reqContractorSettle index amount s).1 := by
  unfold reqContractorSettle
  split
  · exact .refl s
  · exact moves_modContractor index (by exact fun _ => rfl) s

theorem moves_setPriceNow (c : Comp) (price : Nat) (s : State) : Moves may s (setPriceNow c price s).1 := by
  unfold setPriceNow
  split
  · exact .refl s
  next hfree =>
    exact ((moves_recordAdjust _ _ _ _ _ hfree).trans (moves_modPrice c (by exact fun _ => rfl) _)).trans (moves_raise _ _)

theorem moves_reqPriceSet (comp product price : Nat) (effective : Option Nat) (s : State) :
    Moves may s (reqPriceSet comp product price effective s).1 := by
  unfold reqPriceSet
  split
  · exact .refl s
  · split
    · exact .refl s
    · split
      · exact .refl s
      · split
        · exact moves_setPriceNow _ _ s
        · split
          · exact .refl s
          · split
            · exact .fst (moves_modPrice _ (by exact fun _ => rfl) s)
            · exact moves_setPriceNow _ _ s

theorem moves_reqPricePendingClear (comp : Nat) (s : State) : Moves may s (reqPricePendingClear comp s).1 := by
  unfold reqPricePendingClear
  split
  · exact .refl s
  · split
    · exact .refl s
    · exact .fst (moves_modPrice _ (by exact fun _ => rfl) s)

theorem moves_reqAuthoriseManual (hose number : Nat) (hours : Option Nat) (s : State) :
    Moves may s (reqAuthoriseManual hose number hours s).1 := by
  refine moves_withHose (fun h s => ?_) s
  split
  · exact .refl s
  · split
    · exact .refl s
    · exact .refl s
    · exact .refl s
    · exact .refl s
    · exact .refl s
    · exact .refl s
    · exact .refl s
    · exact .refl s
    · exact .refl s
    next harmed => exact moves_authorise _ harmed

theorem moves_reqArmHose (hose operator : Nat) (preset : Option Nat) (s : State) :
    Moves may s (reqArmHose hose operator preset s).1 := by
  refine moves_withHose (fun h s => ?_) s
  split
  · exact .refl s
  · split
    · exact .refl s
    · split
      · exact .refl s
      next hidle =>
        rw [not_not] at hidle
        exact ((moves_modHose h (by intro c; exact ⟨rfl, rfl⟩) s).trans (moves_startTimer h _ _)).trans
          (moves_enterState (by simp [hidle, hasDispense, inDemand]) (by simp [hidle]))

theorem moves_reqDisarmHose (hose : Nat) (s : State) : Moves may s (reqDisarmHose hose s).1 := by
  refine moves_withHose (fun h s => ?_) s
  split
  next harmed => exact moves_returnIdle harmed
  all_goals exact .refl s

theorem moves_reqPauseHose (hose : Nat) (s : State) : Moves may s (reqPauseHose hose s).1 := by
  refine moves_withHose (fun h s => ?_) s
  split
  · exact .fst (moves_addCause _ h s)
  · exact .fst (moves_addCause _ h s)
  · exact .fst (moves_addCause _ h s)
  · exact .refl s

theorem moves_reqResumeHose (hose : Nat) (s : State) : Moves may s (reqResumeHose hose s).1 := by
  refine moves_withHose (fun h s => ?_) s
  split
  · exact .fst (moves_removeCause _ h s)
  · exact .refl s

theorem moves_stopFlow (remote : Bool) {h : Hose} {s : State} (held : hasDispense (hoseCtx s h).state = true) :
    Moves may s (stopFlow remote h s) := by
  unfold stopFlow
  split
  · exact (moves_modDispense h (by exact fun _ => rfl) s).trans (moves_enterEnding _ (by simpa using held))
  · exact moves_enterEnding _ held

theorem moves_reqStopHose (p : Port) (hose : Nat) (s : State) : Moves may s (reqStopHose p hose s).1 := by
  refine moves_withHose (fun h s => ?_) s
  split
  next harmed => exact moves_returnIdle harmed
  next hst => exact moves_stopFlow _ (by simp [hst, hasDispense, inDemand])
  next hst => exact moves_stopFlow _ (by simp [hst, hasDispense, inDemand])
  next hst => exact moves_stopFlow _ (by simp [hst, hasDispense, inDemand])
  next hst => exact moves_stopFlow _ (by simp [hst, hasDispense, inDemand])
  next hst => exact moves_stopFlow _ (by simp [hst, hasDispense, inDemand])
  all_goals exact .refl s

theorem moves_reqClearHalt (p : Port) (hose : Nat) (s : State) : Moves may s (reqClearHalt p hose s).1 := by
  refine moves_withHose (fun h s => ?_) s
  dsimp only
  split
  · exact .refl s
  next hhalted =>
    rw [not_not] at hhalted
    split
    · exact .refl s
    · exact (Move.clearHose h s (by simp [hhalted, hasDispense, inDemand]) (.inr (by simp [hhalted]))).moves

theorem moves_reqClearLock (hose : Nat) (hmay : ∀ h, hoseOf hose = some h → may (.clearLock h)) (s : State) :
    Moves may s (reqClearLock hose s).1 := by
  unfold reqClearLock withHose
  split
  next h hh =>
    dsimp only
    split
    next hlocked => exact (Move.clearHose h s (by simp [hlocked, hasDispense, inDemand]) (.inl (hmay h hh))).moves
    next => exact .refl s
  · exact .refl s

theorem moves_reqHoseSettingsPut (hose : Nat) (x : HoseParams) (s : State) :
    Moves may s (reqHoseSettingsPut hose x s).1 :=
  moves_withHose (fun _ s => .fst (Move.hsc _ s rfl rfl rfl rfl).moves) s

theorem moves_reqStockSettingsPut (comp : Nat) (x : StockSettings) (s : State) :
    Moves may s (reqStockSettingsPut comp x s).1 := by
  unfold reqStockSettingsPut
  split
  · exact .refl s
  · exact .fst (moves_modComp _ (by intro; exact ⟨rfl, rfl, rfl⟩) s)

theorem moves_reqOpenReceipt (comp supplier : Nat) (number : List Byte) (expected : Nat) (s : State) :
    Moves may s (reqOpenReceipt comp supplier number expected s).1 := by
  unfold reqOpenReceipt
  split
  · exact .refl s
  next c _ =>
    iterate 3
      split
      · exact .refl s
    split
    · exact .refl s
    next hidle =>
      split
      · exact .refl s
      · split
        · exact .refl s
        next hfree =>
          split
          · exact .refl s
          next hslots =>
            exact .fst (Move.openReceipt c supplier number expected s (not_not.mp hidle) (not_not.mp hfree)
              (by omega)).moves

theorem moves_reqStartReceipt (s : State) : Moves may s (reqStartReceipt s).1 := by
  unfold reqStartReceipt
  split
  · exact .refl s
  · exact .refl s
  · exact .refl s
  · exact .refl s
  · exact .refl s
  next d hdocketed hdocket =>
    split
    · exact .refl s
    · split
      · exact .refl s
      next hsound =>
        iterate 2
          split
          · exact .refl s
        dsimp only
        split
        · exact .refl s
        · exact .fst (Move.startReceipt d _ s hdocketed hdocket (not_not.mp hsound)).moves

theorem moves_reqCloseReceipt (s : State) : Moves may s (reqCloseReceipt s).1 := by
  unfold reqCloseReceipt
  split
  · exact .refl s
  · exact moves_closeReceiptNow _ s
  next hst => exact moves_enterSettling _ (by simp [hst, receiptRuns])
  next hst => exact moves_enterSettling _ (by simp [hst, receiptRuns])
  · exact .refl s

theorem moves_reqClearInletHalt (p : Port) (s : State) : Moves may s (reqClearInletHalt p s).1 := by
  have hclear (k : FaultKind) (hk : s.rcp.fault = .halted k) : Moves may s (clearInlet s) :=
    (Move.clearInlet s (.inr (by simp [hk, FaultLevel.code]))).moves
  unfold reqClearInletHalt
  dsimp only
  split
  next hk _ =>
    split
    · exact .refl s
    · exact hclear _ hk
  next hk _ =>
    split
    · exact .refl s
    · exact hclear _ hk
  · split
    · exact (Move.spend s).moves
    · exact .refl s
  · exact .refl s

theorem moves_reqClearInletLock (hmay : may .clearInletLock) (s : State) : Moves may s (reqClearInletLock s).1 := by
  unfold reqClearInletLock
  split
  · exact (Move.clearInlet s (.inl hmay)).moves
  · exact .refl s

theorem moves_reqReconcile (p : Port) (comp mode : Nat) (s : State) : Moves may s (reqReconcile p comp mode s).1 := by
  unfold reqReconcile
  split
  next c md _ _ =>
    split
    · exact .refl s
    · split
      · exact .refl s
      next hfree =>
        iterate 2
          split
          · exact .refl s
        split
        · exact .refl s
        next hslot =>
          exact .fst (Move.startReconcile c md s (not_not.mp hfree) (Nat.pos_of_ne_zero hslot)).moves
  · exact .refl s

theorem moves_reqReadReconcile (s : State) : Moves may s (reqReadReconcile s).1 := by
  unfold reqReadReconcile
  dsimp only
  split
  · exact (Move.spend s).moves
  · exact .refl s

theorem lt_length_of_inRing {j : Jnl} {n i : Nat} (h : positionOf j n = .inRing i) : i < j.ring.length := by
  unfold positionOf at h
  dsimp only at h
  split at h
  next hlt =>
    obtain rfl := Position.inRing.inj h
    exact hlt
  · split at h <;> simp at h

theorem moves_reqExportRelease (number : Nat) (hmay : may .release) (s : State) :
    Moves may s (reqExportRelease number s).1 := by
  unfold reqExportRelease
  split
  · exact .refl s
  · split
    · exact .refl s
    · exact .refl s
    next i hi =>
      split
      · exact .refl s
      next hclosed =>
        exact ((Move.release (i + 1) s hmay (by simpa using hclosed) (lt_length_of_inRing hi)).moves.trans
          (moves_writeAllDeferred _)).trans (moves_activatePrices _)

/-! ## Calibration mode -/

theorem moves_reqEnterCalibration (s : State) : Moves may s (reqEnterCalibration s).1 := by
  unfold reqEnterCalibration
  split
  · exact .refl s
  · split
    · exact .refl s
    · split
      · exact .refl s
      · exact (moves_modCal _ s).trans (moves_raise _ _)

theorem moves_reqExitCalibration (s : State) : Moves may s (reqExitCalibration s).1 := by
  unfold reqExitCalibration
  split
  · exact moves_endCalibration s
  · exact .refl s

theorem moves_dropResult (m : MeterId) (s : State) : Moves may s (dropResult m s) := by
  unfold dropResult
  split
  · exact moves_modCal _ s
  · exact moves_modCal _ s
  · exact .refl s

theorem calBusy_congr {s t : State} (hhsc : t.hsc = s.hsc) (hstk : t.stk = s.stk) (w : CalWrite) :
    calBusy t w = calBusy s w := by
  obtain ⟨⟩ := t
  obtain ⟨⟩ := s
  dsimp only at hhsc hstk
  subst hhsc hstk
  rfl

theorem moves_storeCal (hmay : may .writeCal) {w : CalWrite} {s : State} (hfree : calBusy s w = none) :
    Moves may s (storeCal w s) := by
  cases w with
  | meter p m v =>
    have hwrite : Moves may s (modMeter m (fun x => { x with params := setMeterParam p v x.params }) s) :=
      (Move.meterParams m (setMeterParam p v) s hmay).moves
    unfold storeCal
    dsimp only
    split
    · exact hwrite.trans (moves_dropResult m _)
    · exact hwrite
  | map h c =>
    refine (Move.hoseMap h c s hmay fun k => ?_).moves
    simp only [calBusy, ite_eq_right_iff, reduceCtorEq, imp_false, Bool.or_eq_true, not_or, Bool.not_eq_true] at hfree
    cases k with
    | h1 => exact hfree.1
    | h2 => exact hfree.2
  | comp p c v =>
    unfold storeCal
    split
    · simp_all
    · simp_all
    next =>
      unfold setProduct
      split
      · exact .refl s
      · exact (Move.product _ _ s hmay).moves.trans (moves_raise _ _)
    next => exact (Move.compParams _ _ s hmay).moves

theorem moves_reqCalibrationWrite (hmay : may .writeCal) (param subject : Nat) (value : Int) (s : State) :
    Moves may s (reqCalibrationWrite param subject value s).1 := by
  unfold reqCalibrationWrite
  split
  · exact .refl s
  · split
    · exact .refl s
    next w _ =>
      split
      · exact .refl s
      next hbusy =>
        split
        · exact .refl s
        next hfree =>
          refine (moves_recordAdjust _ _ _ _ _ hfree).trans (moves_storeCal hmay ?_)
          exact (calBusy_congr (by simp) (by simp) w).trans hbusy

theorem moves_reqStrappingWrite (hmay : may .writeCal) (comp : Nat) (points : List StrapPoint) (s : State) :
    Moves may s (reqStrappingWrite comp points s).1 := by
  unfold reqStrappingWrite
  split
  · exact .refl s
  · split
    · exact .refl s
    · iterate 2
        split
        · exact .refl s
      split
      · exact .refl s
      next hfree => exact .fst ((moves_recordAdjust _ _ _ _ _ hfree).trans (Move.strapping _ _ _ hmay).moves)

theorem moves_reqStockLoad (comp value : Nat) (s : State) : Moves may s (reqStockLoad comp value s).1 := by
  unfold reqStockLoad
  split
  · exact .refl s
  · split
    · exact .refl s
    · iterate 2
        split
        · exact .refl s
      split
      · exact .refl s
      next hfree => exact .fst ((moves_recordAdjust _ _ _ _ _ hfree).trans (moves_rebase _ _ _))

/-- What a passed PROVE HOSE rests on (R179, checks 5 to 8). -/
theorem proveRefusal_none {h : Hose} {s : State} (hs : proveRefusal h s = none) :
    (hoseCtx s h).state = .idle ∧ drawRefused (compartment s (hoseComp s h)).op = false ∧ 4 < freeSlots s.jnl := by
  unfold proveRefusal at hs
  (repeat' split at hs) <;> simp_all

theorem proveNow_eq (h : Hose) (target : Nat) (s : State) :
    proveNow h target s =
      joinDemand (hoseComp s h) h
        (reserveDispense h
          { comp := hoseComp s h, granted := none, preset := target, limiter := .requested, committedVolume := 0
            committedAmount := 0, seq := s.jnl.nextSeq, proving := true }
          { hose := h, comp := hoseComp s h, ident := none, hours := none, preset := target, limiter := .requested
            flags := {} }
          (modCal (fun x => { x with results := x.results.set h none }) s)) := by
  unfold proveNow
  dsimp only
  rw [reserve_modComp, beginDispense_eq]
  rfl

theorem moves_reqProveHose (hose target : Nat) (s : State) : Moves may s (reqProveHose hose target s).1 := by
  unfold reqProveHose
  split
  · exact .refl s
  · split
    · exact .refl s
    next h _ =>
      split
      · exact .refl s
      · split
        · exact .refl s
        next hpass =>
          obtain ⟨hidle, hdraw, hslots⟩ := proveRefusal_none hpass
          dsimp only
          rw [proveNow_eq]
          refine (moves_modCal _ s).trans (moves_reserveDispense ⟨?_, ?_, rfl, rfl, rfl, ?_, ?_, ?_, ?_⟩)
          · simp [hidle, hasDispense, inDemand]
          · simp [hidle]
          · exact Nat.zero_lt_of_lt hslots
          · intro hop
            simp [compartment] at hop hdraw
            simp [hop, drawRefused] at hdraw
          · intro hop
            simp [compartment] at hop hdraw
            simp [hop, drawRefused] at hdraw
          · simp

theorem moves_reqApplyProving (hmay : may .writeCal) (meter can : Nat) (s : State) :
    Moves may s (reqApplyProving meter can s).1 := by
  unfold reqApplyProving
  split
  · exact .refl s
  · split
    · exact .refl s
    next m _ =>
      split
      · exact .refl s
      · split
        · exact .refl s
        next r _ =>
          dsimp only
          split
          · exact .refl s
          · split
            · exact .refl s
            next hfree =>
              exact ((moves_recordAdjust _ _ _ _ _ hfree).trans
                (Move.meterParams m (fun x => { x with meterFactor := newFactor r can }) _ hmay).moves).trans
                (moves_dropResult m _)

/-! ## The site -/

theorem moves_reqInputSettingsPut (input polarity debounce : Nat) (s : State) :
    Moves may s (reqInputSettingsPut input polarity debounce s).1 := by
  unfold reqInputSettingsPut
  split
  · exact moves_setInput _ _ _ s
  · exact .refl s

theorem moves_reqRestart (hmay : may .restart) (s : State) : Moves may s (reqRestart s).1 := by
  unfold reqRestart
  split
  · exact .refl s
  · exact (Leap.restart s hmay).moves

theorem moves_reqSetTime (time : Nat) (s : State) : Moves may s (reqSetTime time s).1 := by
  unfold reqSetTime
  split
  · exact .refl s
  · exact .fst ((Move.itu _ s ⟨id, le_rfl, fun _ => rfl⟩).moves.trans (moves_clockWork _))

theorem moves_reqIdleSettingsPut (interval sources : Nat) (s : State) :
    Moves may s (reqIdleSettingsPut interval sources s).1 := by
  unfold reqIdleSettingsPut
  split
  · exact .refl s
  · exact .fst (Move.itu _ s ⟨id, le_rfl, id⟩).moves

theorem moves_reqEnterStandby (s : State) : Moves may s (reqEnterStandby s).1 := by
  unfold reqEnterStandby
  split
  · exact .refl s
  · exact moves_enterStandbyNow s

theorem moves_reqAckEvents (p : Port) (kinds : Nat) (hmay : may (.ack p)) (s : State) :
    Moves may s (reqAckEvents p kinds s).1 := by
  unfold reqAckEvents
  split
  · exact .refl s
  · exact .fst (Move.port p _ s id (.inl hmay)).moves

theorem moves_reqSetEventMask (p : Port) (kinds : Nat) (s : State) : Moves may s (reqSetEventMask p kinds s).1 := by
  unfold reqSetEventMask
  split
  · exact .refl s
  · exact .fst (Move.port p _ s id (.inr (BitVec.and_self))).moves

end Sys2Proof.Machine
end

section
/-! PROOFS. Ports, frames and commands as chains of moves, with the powers that each command has. -/

namespace Sys2Proof.Machine

variable {may : Power → Prop}

/-! ## The powers of a command -/

/-- The metrological writes of calibration mode (R176, R177, R183). -/
def writesCal : Instr → Bool
  | .calibrationWrite _ _ _ _ | .strappingWrite _ _ _ | .applyProving _ _ _ => true
  | _ => false

/-- The powers of a command. Bytes on the service line have those of every request of that port, and bytes on another
port those of EXPORT RELEASE and ACK EVENTS alone. -/
def mayDo (c : Instr) : Power → Prop
  | .reset => isReset c = true
  | .restart => c = .restart .service ∨ carriesService c = true
  | .clearLock h => c = .clearLock .service (hoseCode h) ∨ carriesService c = true
  | .clearInletLock => c = .clearInletLock .service ∨ carriesService c = true
  | .release => mayRelease c = true ∧ carriesService c = false
  | .ack p => mayClearEvents p c = true
  | .writeCal => writesCal c = true ∨ carriesService c = true

/-- A request carries no bytes, and is no reset. -/
theorem carriesFrames_of_request {i : Instr} {r : ReqKind × Port × (State → State × Response)} (h : requestOf i = some r) :
    carriesFrames i = false ∧ carriesService i = false ∧ isReset i = false := by
  cases i <;> simp_all [requestOf, carriesFrames, carriesService, isReset]

/-- A metrological write is permitted on the service port alone. -/
theorem service_of_writesCal {i : Instr} {k : ReqKind} {p : Port} {owner : State → State × Response}
    (h : requestOf i = some (k, p, owner)) (hp : permitted k p = true) (hw : writesCal i = true) : p = .service := by
  have honly : permitted k p = onlyService p := by
    cases i <;> simp only [writesCal, reduceCtorEq] at hw
    all_goals
      obtain ⟨rfl, -⟩ := Prod.mk.inj (Option.some.inj h)
      rfl
  cases p <;> simp_all [onlyService]

/-- A release is permitted on the uplink alone. -/
theorem uplink_of_release {i : Instr} {k : ReqKind} {p : Port} {owner : State → State × Response}
    (h : requestOf i = some (k, p, owner)) (hp : permitted k p = true) (hr : mayRelease i = true) : p = .uplink := by
  have honly : permitted k p = onlyUplink p := by
    cases i <;> simp only [mayRelease, carriesFrames, reduceCtorEq] at hr <;> simp only [requestOf, reduceCtorEq] at h
    obtain ⟨rfl, -⟩ := Prod.mk.inj (Option.some.inj h)
    rfl
  cases p <;> simp_all [onlyUplink]

/-- Bytes on a line may do what each request that they can carry may do. -/
theorem mayDo_of_carried {c i : Instr} {k : ReqKind} {p : Port} {owner : State → State × Response}
    (h : requestOf i = some (k, p, owner)) (hp : permitted k p = true) (hframes : carriesFrames c = true)
    (hservice : carriesService c = (p == .service)) (w : Power) (hw : mayDo i w) : mayDo c w := by
  obtain ⟨hi, hi', hireset⟩ := carriesFrames_of_request h
  have hon {i' : Instr} {k' : ReqKind} {o : State → State × Response} (hr : requestOf i' = some (k', .service, o))
      (hii : i = i') : carriesService c = true := by
    subst hii
    obtain ⟨-, rfl, -⟩ := Prod.mk.inj (Option.some.inj (h.symm.trans hr)) |>.imp_right Prod.mk.inj
    exact hservice
  cases w with
  | reset => exact absurd hw (by simp [mayDo, hireset])
  | restart => exact .inr (hw.elim (fun hii => hon rfl hii) fun hs => absurd hs (by simp [hi']))
  | clearLock g => exact .inr (hw.elim (fun hii => hon rfl hii) fun hs => absurd hs (by simp [hi']))
  | clearInletLock => exact .inr (hw.elim (fun hii => hon rfl hii) fun hs => absurd hs (by simp [hi']))
  | release =>
    obtain rfl := uplink_of_release h hp hw.1
    exact ⟨by cases c <;> simp_all [carriesFrames, mayRelease], hservice⟩
  | ack q => show mayClearEvents q c = true; cases c <;> simp_all [carriesFrames, mayClearEvents]
  | writeCal =>
    refine .inr (hw.elim (fun hii => ?_) fun hs => absurd hs (by simp [hi']))
    obtain rfl := service_of_writesCal h hp hii
    exact hservice

/-! ## The owner of every request -/

theorem hoseCode_of_hoseOf {n : Nat} {h : Hose} (hn : hoseOf n = some h) : n = hoseCode h := by
  unfold hoseOf at hn
  split at hn
  · obtain rfl := Option.some.inj hn
    rfl
  · obtain rfl := Option.some.inj hn
    rfl
  · simp at hn

/-- The execution of a permitted request is a chain of moves with the powers that the request has. -/
theorem moves_owner {i : Instr} {k : ReqKind} {p : Port} {owner : State → State × Response}
    (h : requestOf i = some (k, p, owner)) (hp : permitted k p = true) (hmay : ∀ w, mayDo i w → may w) (s : State) :
    Moves may s (owner s).1 := by
  have hwrite (hw : writesCal i = true) : may .writeCal := hmay _ (.inl hw)
  cases i <;> simp only [requestOf, Option.some.injEq, Prod.mk.injEq, reduceCtorEq] at h
  all_goals obtain ⟨rfl, rfl, rfl⟩ := h
  case readMeter | readSensors | templateRead | tagSettingsRead | machineRead | machineList | openSiteRead
      | periodSettingsRead | groupRuleRead | contractorRead | priceRead | hoseSettingsRead | stockSettingsRead | readStock
      | readReceipt | readProbes | strappingRead | exportRead | viewRecord | readJournal | readCalibration | readInputs
      | readTime | idleSettingsRead | readEvents | readStatus =>
    exact .refl s
  case templatePut => exact moves_reqTemplatePut _ _ s
  case templateClear => exact moves_reqTemplateClear _ s
  case tagSettingsPut => exact .fst (Move.idu _ s).moves
  case readTagDiagnostics => exact moves_reqReadTagDiagnostics _ s
  case machinePut => exact moves_reqMachinePut _ s
  case machineRemove => exact moves_reqMachineRemove _ s
  case openSitePut => exact moves_reqOpenSitePut _ _ _ s
  case periodSettingsPut => exact moves_reqPeriodSettingsPut _ s
  case groupRulePut => exact moves_reqGroupRulePut _ s
  case contractorPut => exact moves_reqContractorPut _ _ _ _ _ s
  case contractorSettle => exact moves_reqContractorSettle _ _ s
  case priceSet => exact moves_reqPriceSet _ _ _ _ s
  case pricePendingClear => exact moves_reqPricePendingClear _ s
  case authoriseManual => exact moves_reqAuthoriseManual _ _ _ s
  case armHose => exact moves_reqArmHose _ _ _ s
  case disarmHose => exact moves_reqDisarmHose _ s
  case pauseHose => exact moves_reqPauseHose _ s
  case resumeHose => exact moves_reqResumeHose _ s
  case stopHose => exact moves_reqStopHose _ _ s
  case clearHalt => exact moves_reqClearHalt _ _ s
  case clearLock q n =>
    refine moves_reqClearLock _ (fun g hg => hmay _ (.inl ?_)) s
    cases q <;> simp_all [permitted, onlyService, hoseCode_of_hoseOf hg]
  case hoseSettingsPut => exact moves_reqHoseSettingsPut _ _ s
  case deliverySettingsPut => exact .fst (Move.hsc _ s rfl rfl rfl rfl).moves
  case readHose => exact moves_withHose (fun _ s => .refl s) s
  case stockSettingsPut => exact moves_reqStockSettingsPut _ _ s
  case openReceipt => exact moves_reqOpenReceipt _ _ _ _ s
  case startReceipt => exact moves_reqStartReceipt s
  case closeReceipt => exact moves_reqCloseReceipt s
  case clearInletHalt => exact moves_reqClearInletHalt _ s
  case clearInletLock q =>
    refine moves_reqClearInletLock (hmay _ (.inl ?_)) s
    cases q <;> simp_all [permitted, onlyService]
  case reconcile => exact moves_reqReconcile _ _ _ s
  case readReconcile => exact moves_reqReadReconcile s
  case exportRelease => exact moves_reqExportRelease _ (hmay _ ⟨rfl, rfl⟩) s
  case enterCalibration => exact moves_reqEnterCalibration s
  case exitCalibration => exact moves_reqExitCalibration s
  case calibrationWrite => exact moves_reqCalibrationWrite (hwrite rfl) _ _ _ s
  case strappingWrite => exact moves_reqStrappingWrite (hwrite rfl) _ _ s
  case stockLoad => exact moves_reqStockLoad _ _ s
  case proveHose => exact moves_reqProveHose _ _ s
  case applyProving => exact moves_reqApplyProving (hwrite rfl) _ _ s
  case inputSettingsPut => exact moves_reqInputSettingsPut _ _ _ s
  case restart q =>
    refine moves_reqRestart (hmay _ (.inl ?_)) s
    cases q <;> simp_all [permitted, onlyService]
  case setTime => exact moves_reqSetTime _ s
  case idleSettingsPut => exact moves_reqIdleSettingsPut _ _ s
  case enterStandby => exact moves_reqEnterStandby s
  case ackEvents => exact moves_reqAckEvents _ _ (hmay _ (by simp [mayDo, mayClearEvents])) s
  case setEventMask => exact moves_reqSetEventMask _ _ s

/-! ## Ports -/

/-- A change of a port's line, which touches neither its queue nor its events. -/
theorem moves_modPort (p : Port) {f : PortState → PortState}
    (hf : ∀ x, (f x).phase = x.phase ∧ (f x).answer = x.answer ∧ (f x).refused = x.refused ∧ (f x).pending = x.pending)
    (s : State) : Moves may s (modPort p f s) := by
  obtain ⟨hphase, hanswer, hrefused, hpending⟩ := hf (s.prt.ports.get p)
  refine (Move.port p f s (fun hok => ?_) (.inr (by rw [hpending, BitVec.and_self]))).moves
  rw [portOk, hphase, hanswer, hrefused]
  exact hok

theorem moves_countRefused {p : Port} {s : State} (hport : portReady s p = false) : Moves may s (countRefused p s) := by
  refine (Move.port p _ s (fun hok => ?_) (.inr BitVec.and_self)).moves
  have hphase : ((s.prt.ports.get p).phase == .ready) = false := hport
  have hcount : (min 255 ((s.prt.ports.get p).refused + 1) == 0) = false := beq_eq_false_iff_ne.mpr (by omega)
  simp only [portOk, satAdd, hphase, hcount, Bool.and_false, beq_self_eq_true, Bool.true_and]
  exact decide_eq_true (min_le_left _ _)

theorem moves_answer (p : Port) (r : Response) (s : State) : Moves may s (answer p r s) := by
  refine (Move.port p _ s (fun hok => ?_) (.inr BitVec.and_self)).moves
  simp only [portOk, Bool.and_eq_true, decide_eq_true_eq] at hok
  simp [portOk, hok.2]

theorem portOk_dropFirst {x : PortState} (h : portOk x = true) : portOk (dropFirst x) = true := by
  unfold dropFirst
  split
  next r hr =>
    by_cases hrefused : x.refused = 0
    · simp_all [portOk]
    · simp_all [portOk]
  next hr => simp_all [portOk]

theorem pending_dropFirst (x : PortState) : (dropFirst x).pending = x.pending := by
  unfold dropFirst
  split <;> rfl

theorem moves_readTransfer (p : Port) (count : Nat) (s : State) : Moves may s (readTransfer p count s) := by
  unfold readTransfer
  split
  · exact moves_modPort p (by intro x; exact ⟨rfl, rfl, rfl, rfl⟩) s
  next r _ =>
    have hread (sent : List Byte) (all : Bool) : Moves may s
        (modPort p (fun x => if all then dropFirst { x with sent := sent } else { x with sent := sent }) s) := by
      refine (Move.port p _ s (fun hok => ?_) (.inr ?_)).moves
      · split
        · exact portOk_dropFirst hok
        · exact hok
      · split
        · rw [pending_dropFirst, BitVec.and_self]
        · exact BitVec.and_self
    have hall := hread ((responseFrame r).take count ++
      (List.range (count - (responseFrame r).length)).map (Config.overreadByte s.fresh)) ((responseFrame r).length ≤ count)
    simp only [decide_eq_true_eq] at hall
    dsimp only
    split
    · exact hall.trans (Move.spend _).moves
    · exact hall

theorem moves_finishSending (s : State) : Moves may s (finishSending s) := by
  unfold finishSending
  split
  · exact .refl s
  next r _ =>
    refine (Move.port .service (fun x => dropFirst { x with sent := responseFrame r }) s
      (fun hok => portOk_dropFirst hok) (.inr ?_)).moves
    rw [pending_dropFirst, BitVec.and_self]

theorem moves_reloadByRequest (p : Port) (s : State) : Moves may s (reloadByRequest p s) := by
  unfold reloadByRequest
  split
  · exact moves_reloadIdle _ s
  · exact moves_reloadIdle _ s
  · exact .refl s

/-- A request is a chain of moves where its execution is. -/
theorem moves_takeRequest {k : ReqKind} {p : Port} {owner : State → State × Response}
    (howner : permitted k p = true → ∀ s, Moves may s (owner s).1) (s : State) : Moves may s (takeRequest k p owner s) := by
  rcases takeRequest_cases k p owner s with ⟨hport, e⟩ | ⟨-, -, e⟩ | ⟨-, -, -, e⟩ | ⟨-, -, hp, e⟩ <;> rw [e]
  · exact (moves_wake s).trans (moves_countRefused (by simpa using hport))
  · exact (moves_wake s).trans (moves_answer _ _ _)
  · exact (moves_wake s).trans (moves_answer _ _ _)
  · exact (((moves_wake s).trans (howner hp _)).trans (moves_reloadByRequest _ _)).trans (moves_answer _ _ _)

/-! ## Frames -/

/-- The values of a payload are those of its layout's fields. -/
theorem payloadValues_eq {slots : List Slot} {payload : List Byte} {values : List (Option Nat)}
    (h : payloadValues slots payload = some values) : ∃ present bytes, values = fieldValues present 0 slots bytes := by
  unfold payloadValues at h
  dsimp only at h
  split at h
  · obtain rfl := Option.some.inj h
    exact ⟨_, _, rfl⟩
  · simp at h

/-- The values of a request's layout name a request of its own kind and port. -/
theorem requestOf_commandOf {p : Port} {k : ReqKind} {present : Nat} {bytes : List Byte} {i : Instr}
    (h : commandOf p k (fieldValues present 0 (layout k) bytes) = some i) :
    ∃ owner, requestOf i = some (k, p, owner) := by
  cases k
  case strappingWrite => exact nomatch h
  all_goals
    obtain rfl := Option.some.inj h
    exact ⟨_, rfl⟩

/-- A payload names a request of its own kind and port. -/
theorem requestOf_payloadCommand {p : Port} {k : ReqKind} {payload : List Byte} {i : Instr}
    (h : payloadCommand p k payload = some i) : ∃ owner, requestOf i = some (k, p, owner) := by
  unfold payloadCommand at h
  split at h
  · split at h
    · obtain rfl := Option.some.inj h
      exact ⟨_, rfl⟩
    · simp at h
  · simp at h
  · obtain ⟨values, hvalues, hi⟩ := Option.bind_eq_some_iff.mp h
    obtain ⟨present, bytes, rfl⟩ := payloadValues_eq hvalues
    exact requestOf_commandOf hi

/-- A frame is turned away, counted as too early or answered with a status, or it is the request that it carries. -/
theorem takeFrame_cases (p : Port) (frame : List Byte) (s : State) :
    (portReady s p = false ∧ takeFrame p frame s = countRefused p (wake s)) ∨
    (∃ status, takeFrame p frame s = answer p (plain status) (wake s)) ∨
    ∃ i k owner, requestOf i = some (k, p, owner) ∧ permitted k p = true ∧
      takeFrame p frame s = takeRequest k p owner s := by
  unfold takeFrame takeRequest
  dsimp only
  by_cases hport : portReady s p = true
  · simp only [portReady_wake, hport, Bool.not_true, Bool.false_eq_true, if_false]
    right
    split
    · exact .inl ⟨_, rfl⟩
    · split
      · exact .inl ⟨_, rfl⟩
      next hfail =>
        unfold takeGood
        split
        · exact .inl ⟨_, rfl⟩
        next k _ =>
          split
          · exact .inl ⟨_, rfl⟩
          next hp =>
            rw [Bool.not_eq_true', Bool.not_eq_false] at hp
            split
            · exact .inl ⟨_, rfl⟩
            next owner howner =>
              obtain ⟨i, j, q, hcommand, hrequest⟩ := payloadOwner_request howner
              obtain ⟨o, ho⟩ := requestOf_payloadCommand hcommand
              obtain ⟨rfl, rfl, rfl⟩ : j = k ∧ q = p ∧ owner = o := by
                simpa using hrequest.symm.trans ho
              refine .inr ⟨i, j, owner, ho, hp, ?_⟩
              simp [hp]
  · exact .inl (by simp [hport])

/-- A frame is a chain of moves where every request is that it can carry. -/
theorem moves_takeFrame {p : Port}
    (howner : ∀ i k owner, requestOf i = some (k, p, owner) → permitted k p = true → ∀ s, Moves may s (owner s).1)
    (frame : List Byte) (s : State) : Moves may s (takeFrame p frame s) := by
  rcases takeFrame_cases p frame s with ⟨hport, e⟩ | ⟨status, e⟩ | ⟨i, k, owner, hi, hp, e⟩ <;> rw [e]
  · exact (moves_wake s).trans (moves_countRefused (by simpa using hport))
  · exact (moves_wake s).trans (moves_answer _ _ _)
  · exact moves_takeRequest (howner i k owner hi) s

theorem moves_serviceByte
    (hframe : ∀ frame s, Moves may s (takeFrame .service frame s)) (b : Byte) (s : State) :
    Moves may s (serviceByte b s) := by
  unfold serviceByte
  dsimp only
  split
  · exact (moves_modPort .service (by intro x; exact ⟨rfl, rfl, rfl, rfl⟩) s).trans (hframe _ _)
  · exact moves_modPort .service (by intro x; exact ⟨rfl, rfl, rfl, rfl⟩) s

theorem moves_receiveBytes {p : Port} (hframe : ∀ frame s, Moves may s (takeFrame p frame s)) (bytes : List Byte)
    (s : State) : Moves may s (receiveBytes p bytes s) := by
  unfold receiveBytes
  split
  · exact moves_foldl (moves_serviceByte hframe) bytes s
  · split
    · exact .refl s
    · exact hframe bytes s

theorem moves_endServiceFrame (hframe : ∀ frame s, Moves may s (takeFrame .service frame s)) (s : State) :
    Moves may s (endServiceFrame s) := by
  unfold endServiceFrame
  dsimp only
  split
  · exact .refl s
  · exact ((moves_reachTime _ s).trans (moves_modPort .service (by intro x; exact ⟨rfl, rfl, rfl, rfl⟩) _)).trans
      (hframe _ _)

/-- Bytes on a line are frames whose requests have no more powers than the bytes. -/
theorem moves_carried {c : Instr} {p : Port} (hframes : carriesFrames c = true)
    (hservice : carriesService c = (p == .service)) (frame : List Byte) (s : State) :
    Moves (mayDo c) s (takeFrame p frame s) :=
  moves_takeFrame (fun _ _ _ hi hp s => moves_owner hi hp (mayDo_of_carried hi hp hframes hservice) s) frame s

/-! ## Every command -/

/-- What a command that is no request does is a chain of moves. -/
theorem exec_moves_of_no_request {c : Instr} (hno : requestOf c = none) (s : State) :
    ∃ t, exec c s = .next t ∧ Moves (mayDo c) s t := by
  cases c <;> simp only [requestOf, reduceCtorEq] at hno
  case rejectedRequestFrame p bytes =>
    refine ⟨_, rfl, moves_receiveBytes (moves_carried rfl ?_) bytes s⟩
    cases p <;> rfl
  case busyPortFrame p =>
    refine ⟨_, rfl, ?_⟩
    split
    · exact .refl s
    next hport => exact (moves_wake s).trans (moves_countRefused (by simpa using hport))
  case responseRead p count =>
    refine ⟨_, rfl, ?_⟩
    split
    · exact .refl s
    · exact moves_readTransfer p count s
  case serviceResponseSent => exact ⟨_, rfl, moves_finishSending s⟩
  case serviceFrameGap => exact ⟨_, rfl, moves_endServiceFrame (moves_carried rfl rfl) s⟩
  case pulseArrival m ch other => exact ⟨_, rfl, moves_pulse m ch other s⟩
  case sensorFrame m bytes => exact ⟨_, rfl, moves_foldl (moves_sensorByte m) bytes s⟩
  case sensorTimeout m => exact ⟨_, rfl, moves_ageSensor m s⟩
  case probeFrame k bytes => exact ⟨_, rfl, moves_foldl (moves_probeByte k) bytes s⟩
  case probeTimeout k => exact ⟨_, rfl, moves_ageProbe k s⟩
  case sensorFrameGap line =>
    refine ⟨_, rfl, ?_⟩
    cases line with
    | sensor m => exact moves_sensorGap m s
    | probe k => exact moves_probeGap k s
  case tagFrame h bytes => exact ⟨_, rfl, moves_foldl (moves_tagByte h) bytes s⟩
  case tagFrameTruncated h => exact ⟨_, rfl, moves_truncateFrame h s⟩
  case candidateLapse h => exact ⟨_, rfl, moves_lapseCandidate h s⟩
  case presentIdentityGap h => exact ⟨_, rfl, moves_enterGrace h s⟩
  case graceTimerExpiry h => exact ⟨_, rfl, moves_loseTag h s⟩
  case armedTimeout h => exact ⟨_, rfl, moves_hoseTimeout fun t hdue => moves_returnIdle (by simpa using hdue)⟩
  case firstFlowTimeout h =>
    refine ⟨_, rfl, moves_hoseTimeout fun t hdue => moves_enterEnding _ ?_⟩
    rw [beq_iff_eq.mp hdue]
    rfl
  case noFlowTimeout h =>
    refine ⟨_, rfl, moves_hoseTimeout fun t hdue => moves_enterEnding _ ?_⟩
    rcases Bool.or_eq_true _ _ ▸ hdue with hdue | hdue <;> rw [beq_iff_eq.mp hdue] <;> rfl
  case pauseLimit h =>
    refine ⟨_, rfl, moves_hoseTimeout fun t hdue => moves_enterEnding _ ?_⟩
    rw [beq_iff_eq.mp hdue]
    rfl
  case settleEnd h => exact ⟨_, rfl, moves_hoseTimeout fun t _ => moves_closeDispense h t⟩
  case attemptTimerExpiry k => exact ⟨_, rfl, moves_attemptExpires k s⟩
  case holdTimerExpiry =>
    exact ⟨_, rfl, moves_receiptTimeout fun t hdue => moves_enterSettling _ (by rw [hdue]; rfl)⟩
  case receiptSettleEnd => exact ⟨_, rfl, moves_receiptTimeout fun t _ => moves_closeReceiptNow _ t⟩
  case idleTimerExpiry => exact ⟨_, rfl, moves_expireIdle s⟩
  case clockTick => exact ⟨_, rfl, (Move.itu _ s ⟨id, le_rfl, id⟩).moves⟩
  case rollover => exact ⟨_, rfl, moves_evalRollover s⟩
  case watchExpiry i => exact ⟨_, rfl, moves_expireWatch i s⟩
  case priceActivation k =>
    refine ⟨_, rfl, ?_⟩
    cases k with
    | c1 => exact moves_activatePrice .c1 s
    | c2 => exact moves_activatePrices s
  case deferredEntryWrite => exact ⟨_, rfl, moves_writeFirstDeferred s⟩
  case hardwareReset levels kept downtime => exact ⟨_, rfl, (Leap.reset levels kept downtime s (show isReset _ = true from rfl)).moves⟩
  all_goals exact ⟨_, rfl, moves_changeInput _ _ s⟩

/-- Every command answers a next state, to which a chain of moves leads that the command has the powers for. -/
theorem exec_moves (c : Instr) (s : State) : ∃ t, exec c s = .next t ∧ Moves (mayDo c) s t := by
  cases hc : requestOf c with
  | none => exact exec_moves_of_no_request hc s
  | some r =>
    obtain ⟨k, p, owner⟩ := r
    exact ⟨_, exec_request hc s, moves_takeRequest (fun hp s => moves_owner hc hp (fun _ h => h) s) s⟩

theorem moves_of_exec {c : Instr} {s t : State} (h : exec c s = .next t) : Moves (mayDo c) s t := by
  obtain ⟨u, hu, hmoves⟩ := exec_moves c s
  obtain rfl := Host.Outcome.next.inj (hu.symm.trans h)
  exact hmoves

/-- What every move and every start keeps, and no change of the queue touches, every step keeps. -/
theorem step_preserves {P : State → Prop} (hleap : ∀ may s t, Leap may s t → P s → P t)
    (hqueue : ∀ (s : State) (q : List Instr), P s → P { s with pending := q }) {s t : State} (h : step s = .next t)
    (hs : P s) : P t := by
  unfold step at h
  split at h
  next =>
    obtain rfl := Host.Outcome.next.inj h
    unfold idleStep
    split
    · exact hqueue _ _ hs
    · refine hqueue _ _ (Moves.preserves (may := fun _ => False) (hleap _) ?_ hs)
      exact (Move.itu _ s ⟨id, Nat.le_succ _, id⟩).moves.trans (moves_passLines _)
  next c rest _ => exact (moves_of_exec h).preserves (hleap _) (hqueue s rest hs)

/-! ## The starts -/

/-- What a start closes: the dispenses and the receipt of open shadows, and the reconciles (R123, R151, R157). -/
def closeBooks (s : State) : State :=
  startupReconciles (startupReceipt (forHoses (s.hsc.shadows.h1.opened && s.hsc.shadows.h2.opened) startupClose s))

theorem moves_setLevels (levels : BitVec 12) (s : State) : Moves may s (setLevels levels s) :=
  moves_foldl (fun i => moves_modInput i _) allInputs s

theorem moves_takeLevels (s : State) : Moves may s (takeLevels s) :=
  moves_foldl (fun i => moves_modInput i _) allInputs s

/-- What stands before the close of the books in a start: what the inputs, the rollover and the watches raise. -/
theorem moves_startUp_before (s : State) :
    Moves may s (expireWatches (evalRollover (raiseIf (inputActive s .supplyLow) .supplyLow s))) :=
  ((moves_raiseIf _ _ s).trans (moves_evalRollover _)).trans (moves_expireWatches _)

/-- What stands after it: the deferred entries, the prices, the record of a lost clock, and the idle timer. -/
theorem moves_startUp_after (clockLost : Bool) (s : State) :
    Moves may (closeBooks (expireWatches (evalRollover (raiseIf (inputActive s .supplyLow) .supplyLow s))))
      (startUp clockLost s) := by
  have hlost (t : State) : Moves may t (if clockLost then recordFault .part .clockLost false none t else t) := by
    split
    · exact moves_recordFault _ _ _ _ t
    · exact .refl t
  exact ((((moves_writeAllDeferred _).trans (moves_activatePrices _)).trans (hlost _)).trans
    (Move.itu _ _ ⟨id, le_rfl, id⟩).moves).trans (moves_startIdle _)

/-- What every move, the loss of the volatile state, the close of the books and any change of ITU keep, every leap
keeps. -/
theorem leap_preserves {P : State → Prop}
    (hmove : ∀ may' : Power → Prop, (∀ w, may' w → may w) → ∀ s t, Move may' s t → P s → P t)
    (hvolatile : ∀ s, P s → P (volatileReset s)) (hbooks : ∀ s, P s → P (closeBooks s))
    (hitu : ∀ (f : Itu → Itu) s, P s → P (modItu f s)) {s t : State} (h : Leap may s t) (hs : P s) : P t := by
  have hmoves {u v : State} (huv : Moves (fun _ => False) u v) (hu : P u) : P v := by
    refine huv.preserves (fun a b hab => ?_) hu
    cases hab with
    | move hm => exact hmove _ (fun _ => False.elim) a b hm
    | reset _ _ _ _ power => exact power.elim
    | restart _ power => exact power.elim
  have hstart (lost : Bool) {u : State} (hu : P u) : P (startUp lost u) :=
    hmoves (moves_startUp_after lost u) (hbooks _ (hmoves (moves_startUp_before u) hu))
  cases h with
  | move hm => exact hmove may (fun _ h => h) s t hm hs
  | reset levels kept downtime =>
    have hlevels := hmoves ((moves_setLevels levels _).trans (moves_takeLevels _)) (hvolatile s hs)
    exact hstart _ (hmoves (moves_raiseIf _ _ _) (hitu _ _ hlevels))
  | restart => exact hstart _ (hmoves (moves_takeLevels _) (hvolatile s hs))

end Sys2Proof.Machine
end

section
/-! PROOFS. What every move keeps of the queue, the machine table, the ring, the ports and the totals (R10, R43, R158,
R197). -/

namespace Sys2Proof.Machine

variable {may : Power → Prop} {s t : State}

/-! ## What taking up a dispense leaves -/

@[simp] theorem openDispense_frame (h : Hose) (d : Dispense) (s : State) :
    (openDispense h d s).tpi = s.tpi ∧ (openDispense h d s).mtb = s.mtb ∧ (openDispense h d s).bil = s.bil ∧
    (openDispense h d s).hsc.map = s.hsc.map ∧ (openDispense h d s).hsc.faults = s.hsc.faults ∧
    (openDispense h d s).stk = s.stk ∧ (openDispense h d s).rcp = s.rcp ∧ (openDispense h d s).jnl = s.jnl ∧
    (openDispense h d s).cal = s.cal ∧ (openDispense h d s).itu = s.itu ∧ (openDispense h d s).pending = s.pending ∧
    (openDispense h d s).mtr = (modMeter (hoseMeter h) takeOwnership s).mtr := by
  unfold openDispense
  dsimp only
  split <;> simp [modMeter, modMtr]

@[simp] theorem reserveDispense_frame (h : Hose) (d : Dispense) (record : DispenseRecord) (s : State) :
    (reserveDispense h d record s).tpi = s.tpi ∧ (reserveDispense h d record s).mtb = s.mtb ∧
    (reserveDispense h d record s).hsc.map = s.hsc.map ∧ (reserveDispense h d record s).hsc.faults = s.hsc.faults ∧
    (reserveDispense h d record s).rcp = s.rcp ∧ (reserveDispense h d record s).cal = s.cal ∧
    (reserveDispense h d record s).itu = s.itu ∧ (reserveDispense h d record s).pending = s.pending ∧
    (reserveDispense h d record s).jnl = (reserve (.dispense record) s).jnl ∧
    (reserveDispense h d record s).mtr = (modMeter (hoseMeter h) takeOwnership s).mtr := by
  unfold reserveDispense
  dsimp only
  split <;> simp [modMeter, modMtr]

/-! ## The close of a dispense in its steps (R109) -/

/-- MTB's part of a close. -/
def closeMachine (k : Closing) (standard : Nat) (s : State) : State :=
  match k.machine with
  | some (number, hours) => (machineClose number k.comp standard k.figures.gross hours s).1
  | none => s

/-- BIL's part of a close. -/
def closeBill (k : Closing) (amount : Nat) (s : State) : State :=
  match k.bill with
  | some (index, _, _) => billingClose index amount k.committedAmount s
  | none => s

@[simp] theorem closeMachine_frame (k : Closing) (standard : Nat) (s : State) :
    (closeMachine k standard s).mtr = s.mtr ∧ (closeMachine k standard s).tpi = s.tpi ∧
    (closeMachine k standard s).idu = s.idu ∧ (closeMachine k standard s).bil = s.bil ∧
    (closeMachine k standard s).hsc = s.hsc ∧ (closeMachine k standard s).stk = s.stk ∧
    (closeMachine k standard s).rcp = s.rcp ∧ (closeMachine k standard s).jnl = s.jnl ∧
    (closeMachine k standard s).cal = s.cal ∧ (closeMachine k standard s).itu = s.itu := by
  unfold closeMachine
  split <;> simp

@[simp] theorem closeBill_frame (k : Closing) (amount : Nat) (s : State) :
    (closeBill k amount s).mtr = s.mtr ∧ (closeBill k amount s).tpi = s.tpi ∧ (closeBill k amount s).idu = s.idu ∧
    (closeBill k amount s).mtb = s.mtb ∧ (closeBill k amount s).bil.prices = s.bil.prices ∧
    (closeBill k amount s).hsc = s.hsc ∧ (closeBill k amount s).stk = s.stk ∧ (closeBill k amount s).rcp = s.rcp ∧
    (closeBill k amount s).jnl = s.jnl ∧ (closeBill k amount s).cal = s.cal ∧ (closeBill k amount s).itu = s.itu ∧
    (closeBill k amount s).prt = s.prt := by
  unfold closeBill
  split <;> simp

/-- The steps of the books at a close: the machine's entry, the contractor, the compartment and the record. -/
theorem bookDispense_steps (k : Closing) (s : State) : ∃ standard amount f,
    bookDispense k s =
      closeRecord k.seq f (stockClose k.comp standard k.committedVolume k.proving
        (closeBill k amount (closeMachine k standard s))) := by
  unfold bookDispense closeMachine closeBill
  cases k.machine with
  | none => exact ⟨_, _, _, rfl⟩
  | some m => exact ⟨_, _, _, rfl⟩

/-- A hose lets go of its dispense: its shadow closes, a proving result is kept, and reader and context are empty. -/
def letGo (h : Hose) (result : Option ProvingResult) (s : State) : State :=
  let s := setShadow h { s.hsc.shadows.get h with opened := false } s
  let s :=
    match result with
    | some r => modCal (fun c => { c with results := c.results.set h (some r) }) s
    | none => s
  modHose h (fun c => { note := c.note, state := c.state }) (modReader h (fun r => { r with bound := none }) s)

@[simp] theorem letGo_frame (h : Hose) (result : Option ProvingResult) (s : State) :
    (letGo h result s).mtr = s.mtr ∧ (letGo h result s).tpi = s.tpi ∧ (letGo h result s).mtb = s.mtb ∧
    (letGo h result s).bil = s.bil ∧ (letGo h result s).hsc.faults = s.hsc.faults ∧
    (letGo h result s).hsc.map = s.hsc.map ∧ (letGo h result s).stk = s.stk ∧ (letGo h result s).rcp = s.rcp ∧
    (letGo h result s).jnl = s.jnl ∧ (letGo h result s).itu = s.itu ∧ (letGo h result s).prt = s.prt ∧
    (letGo h result s).hsc.shadows = s.hsc.shadows.set h { s.hsc.shadows.get h with opened := false } ∧
    (letGo h result s).hsc.hoses =
      s.hsc.hoses.set h { note := (hoseCtx s h).note, state := (hoseCtx s h).state } := by
  unfold letGo
  dsimp only
  split <;> simp [setShadow, modHose, hoseCtx]

/-- What a close is made from agrees with what the dispense holds. -/
structure Closing.Of (k : Closing) (d : Dispense) : Prop where
  seq : k.seq = d.seq
  comp : k.comp = d.comp
  bill : k.bill.map (·.1) = d.granted.map (·.contractor)
  amount : k.committedAmount = d.committedAmount

/-- The steps of a close: the meter, the books, the hose that lets go, and its state by the fault level. Before them a
value of the model's counter may be used up. -/
theorem closeDispense_steps {h : Hose} {d : Dispense} {s : State} (hd : (hoseCtx s h).dispense = some d) :
    ∃ k result u, k.Of d ∧ (u = s ∨ u = spend s) ∧
      closeDispense h s = raise .dispenseClosed (enterState h (restState (s.hsc.faults.get h))
        (letGo h result (bookDispense k (modMeter (hoseMeter h) closeMeter u)))) := by
  refine ⟨{ hose := h, seq := d.seq, comp := d.comp, machine := d.granted.map fun g => (g.machine, g.hours)
            bill := d.granted.map fun g => (g.contractor, g.price, g.basis)
            figures := closeFigures (s.mtr.meters.get (hoseMeter h))
            mean := meanTemp s (hoseMeter h) d.sampling.sum d.sampling.n, committedVolume := d.committedVolume
            committedAmount := d.committedAmount
            residual := residualOf d (closeFigures (s.mtr.meters.get (hoseMeter h))).gross
              (if d.grossAtEnding.isNone then spend s else s).fresh
            pauseCount := d.pauseCount, outcome := d.outcome.getD .interrupted, faultKind := d.faultKind, flags := d.flags
            proving := d.proving },
    provingResult d (s.mtr.meters.get (hoseMeter h)) (closeFigures (s.mtr.meters.get (hoseMeter h))).gross,
    if d.grossAtEnding.isNone then spend s else s, ⟨rfl, rfl, ?_, rfl⟩, ?_, ?_⟩
  · rw [Option.map_map]
    rfl
  · split
    · exact .inr rfl
    · exact .inl rfl
  · have hfaults (k : Closing) (r : Option ProvingResult) :
        (letGo h r (bookDispense k (modMeter (hoseMeter h) closeMeter
          (if d.grossAtEnding.isNone then spend s else s)))).hsc.faults = s.hsc.faults := by
      split <;> simp
    rw [← hfaults, closeDispense, hd]
    rfl

/-- The steps of a start-up close (R123): with the record of the shadow in the ring the books take its figures, and the
shadow closes. -/
theorem startupClose_steps {h : Hose} {s : State} (hopen : (s.hsc.shadows.get h).opened = true) :
    (∃ k pulses gross, k.seq = (s.hsc.shadows.get h).seq ∧ k.committedAmount = 0 ∧
      startupClose h s = raise .dispenseClosed (setShadow h { s.hsc.shadows.get h with opened := false }
        (bookDispense k (modMeter (hoseMeter h) (totalise pulses gross) s)))) ∨
    (∀ d, (findOpen s.jnl (s.hsc.shadows.get h).seq).map (·.body) ≠ some (.dispense d)) ∧
      startupClose h s = raise .dispenseClosed (setShadow h { s.hsc.shadows.get h with opened := false } s) := by
  unfold startupClose
  simp only [hopen, if_true]
  split
  · exact .inl ⟨_, _, _, rfl, rfl, rfl⟩
  next hnone => exact .inr ⟨hnone, rfl⟩

theorem startupClose_closed {h : Hose} {s : State} (hclosed : (s.hsc.shadows.get h).opened = false) :
    startupClose h s = s := by
  simp [startupClose, hclosed]

/-- What every part of the close of the books keeps, the whole keeps. -/
theorem closeBooks_preserves {P : State → Prop} (hclose : ∀ h s, P s → P (startupClose h s))
    (hspend : ∀ s, P s → P (spend s)) (hreceipt : ∀ s, P s → P (startupReceipt s))
    (hreconciles : ∀ s, P s → P (startupReconciles s)) (s : State) (hs : P s) : P (closeBooks s) :=
  hreconciles _ (hreceipt _ (forHoses_preserves _ startupClose hclose hspend s hs))

/-! ## The queue -/

/-- No move touches the queue of the commands that wait. -/
theorem Move.pending (h : Move may s t) : t.pending = s.pending := by
  cases h <;> simp

theorem Moves.pending (h : Moves may s t) : t.pending = s.pending := by
  refine h.preserves (P := fun u => u.pending = s.pending) (fun u v huv hu => ?_) rfl
  cases huv with
  | move hm => exact hm.pending.trans hu
  | reset => simpa using hu
  | restart => simpa using hu

/-- Settles O3, from the moves of every command. -/
theorem commandsCompleteAndKeepQueue : Obligations.CommandsCompleteAndKeepQueue := by
  intro c s
  obtain ⟨t, ht, hmoves⟩ := exec_moves c s
  exact ⟨t, ht, hmoves.pending⟩

/-! ## The machine table -/

theorem tableOk_of_mtb {s t : State} (h : t.mtb.machines = s.mtb.machines) (hs : tableOk s = true) : tableOk t = true := by
  rw [tableOk, h]
  exact hs

theorem tableOk_machineClose (number : Nat) (c : Comp) (standard gross : Nat) (hours : Option Nat) {s : State}
    (hs : tableOk s = true) : tableOk (machineClose number c standard gross hours s).1 = true := by
  have hentry : tableOk (modEntry number (closeEntry c standard gross s.itu.clock hours) s) = true := by
    refine (tableOk_map (f := fun e =>
      if e.number == number then closeEntry c standard gross s.itu.clock hours e else e) (fun e => ?_) rfl).trans hs
    split
    · exact closeEntry_number c standard gross s.itu.clock hours e
    · rfl
  have hdrop {u : State} (hu : tableOk u = true) : tableOk (dropRemoved number u) = true := by
    unfold dropRemoved
    split
    · split
      · simp only [tableOk, Bool.and_eq_true, decide_eq_true_eq, rising_iff, modMtb_frame] at hu ⊢
        exact ⟨(List.length_filter_le _ _).trans hu.1, hu.2.filter _⟩
      · exact hu
    · exact hu
  unfold machineClose
  dsimp only
  refine hdrop ?_
  split
  · exact tableOk_of_mtb (by simp) hentry
  · exact hentry

theorem tableOk_bookDispense (k : Closing) {s : State} (hs : tableOk s = true) : tableOk (bookDispense k s) = true := by
  obtain ⟨standard, amount, f, e⟩ := bookDispense_steps k s
  rw [e]
  refine tableOk_of_mtb (s := closeMachine k standard s) (by simp) ?_
  unfold closeMachine
  split
  · exact tableOk_machineClose _ _ _ _ _ hs
  · exact hs

/-- The books at a close, after a change of a meter. -/
theorem tableOk_bookClose (k : Closing) (m : MeterId) (f : MeterState → MeterState) {s : State} (hs : tableOk s = true) :
    tableOk (bookDispense k (modMeter m f s)) = true :=
  tableOk_bookDispense k (tableOk_of_mtb (by simp) hs)

theorem tableOk_closeDispense {h : Hose} {d : Dispense} {s : State} (hd : (hoseCtx s h).dispense = some d)
    (hs : tableOk s = true) : tableOk (closeDispense h s) = true := by
  obtain ⟨k, result, u, -, hu, e⟩ := closeDispense_steps hd
  have hu : tableOk u = true := by rcases hu with rfl | rfl <;> exact hs
  rw [e]
  exact tableOk_of_mtb (by simp) (tableOk_bookClose k (hoseMeter h) closeMeter hu)

/-- Every move keeps the machine table in order. -/
theorem Move.tableOk (h : Move may s t) (hs : tableOk s = true) : tableOk t = true := by
  cases h
  case mtb f table => exact table hs
  case closeDispense h d hd => exact tableOk_closeDispense hd hs
  all_goals exact tableOk_of_mtb (by simp) hs

theorem tableOk_startupClose (h : Hose) {s : State} (hs : Machine.tableOk s = true) :
    Machine.tableOk (startupClose h s) = true := by
  cases hopen : (s.hsc.shadows.get h).opened with
  | false => exact (startupClose_closed hopen).symm ▸ hs
  | true =>
    rcases startupClose_steps hopen with ⟨k, pulses, gross, -, -, e⟩ | ⟨-, e⟩ <;> rw [e]
    · exact tableOk_of_mtb (by simp) (tableOk_bookClose k (hoseMeter h) (totalise pulses gross) hs)
    · exact tableOk_of_mtb (by simp) hs

/-- Settles O5, from what every move keeps. -/
theorem machineTableStaysOrdered : Obligations.MachineTableStaysOrdered := by
  intro s t hs hstep
  refine step_preserves (P := fun u => tableOk u = true) (fun may u v huv hu => ?_) (fun _ _ hu => hu) hstep hs
  refine leap_preserves (P := fun u => tableOk u = true) (fun _ _ _ _ hm hu => hm.tableOk hu)
    (fun _ hu => tableOk_of_mtb (by simp) hu) (closeBooks_preserves (fun h _ => tableOk_startupClose h) (fun _ hw => hw)
      (fun _ hw => tableOk_of_mtb (by simp) hw) (fun _ hw => tableOk_of_mtb (by simp) hw))
    (fun _ _ hu => tableOk_of_mtb (by simp) hu) huv hu

end Sys2Proof.Machine
end

section
/-! PROOFS. What the moves do to the journal: it grows by a record, records close or are amended under their numbers, and
a closed front leaves it (R158 to R170). -/

namespace Sys2Proof.Machine

variable {may : Power → Prop} {s t u : State}

/-- A change of the journal. A release needs the power `free`. -/
inductive JnlMove (free : Prop) : Jnl → Jnl → Prop
  | deferred (x : PerSource (Option Deferred)) (j : Jnl) : JnlMove free j { j with deferred := x }
  | append (r : Record) (j : Jnl) (slot : j.ring.length < 1024) (seq : r.seq = j.nextSeq) :
      JnlMove free j { j with ring := j.ring ++ [r], nextSeq := nextNumber j.nextSeq }
  | amend (f : Record → Record) (j : Jnl) (seq : ∀ r, (f r).seq = r.seq) (closed : ∀ r, r.isOpen = false → f r = r) :
      JnlMove free j { j with ring := j.ring.map f }
  | release (n : Nat) (j : Jnl) (power : free) (closed : (j.ring.take n).any (·.isOpen) = false)
      (inRing : n ≤ j.ring.length) : JnlMove free j (release n j)

/-- A chain of changes of the journal. -/
def JnlMoves (free : Prop) : Jnl → Jnl → Prop := Relation.ReflTransGen (JnlMove free)

variable {free : Prop}

theorem JnlMoves.refl (j : Jnl) : JnlMoves free j j := Relation.ReflTransGen.refl

theorem JnlMoves.of_eq {j k : Jnl} (h : k = j) : JnlMoves free j k := by
  subst h
  exact .refl k

theorem JnlMove.moves {j k : Jnl} (h : JnlMove free j k) : JnlMoves free j k := Relation.ReflTransGen.single h

theorem JnlMoves.trans {i j k : Jnl} (h : JnlMoves free i j) (h' : JnlMoves free j k) : JnlMoves free i k :=
  Relation.ReflTransGen.trans h h'

/-- What every change of the journal keeps, every chain keeps. -/
theorem JnlMoves.preserves {P : Jnl → Prop} (hmove : ∀ i j, JnlMove free i j → P i → P j) {j k : Jnl}
    (h : JnlMoves free j k) (hj : P j) : P k := by
  induction h with
  | refl => exact hj
  | tail _ hlast ih => exact hmove _ _ hlast ih

/-! ## The journal's operations -/

theorem jnlMoves_takeSlot (body : Body) (openTime : Nat) (closeTime : Option Nat) (hu : u.jnl = s.jnl)
    (slot : 0 < freeSlots s.jnl) : JnlMoves free s.jnl (takeSlot body openTime closeTime u).jnl := by
  rw [takeSlot_jnl, hu]
  exact (JnlMove.append _ s.jnl (by simpa [freeSlots] using slot) rfl).moves

theorem jnlMoves_closeRecord (seq : Nat) (f : Body → Body) (hu : u.jnl = s.jnl) :
    JnlMoves free s.jnl (closeRecord seq f u).jnl := by
  rw [← hu]
  refine (JnlMove.amend (fun r =>
    if r.seq == seq && r.isOpen then { r with closeTime := some u.itu.clock, body := f r.body } else r) u.jnl
    (fun r => ?_) fun r hr => by simp [hr]).moves
  split <;> rfl

theorem jnlMoves_amendRecord (seq : Nat) (f : Body → Body) (hu : u.jnl = s.jnl) :
    JnlMoves free s.jnl (amendRecord seq f u).jnl := by
  rw [← hu]
  refine (JnlMove.amend (fun r => if r.seq == seq && r.isOpen then { r with body := f r.body } else r) u.jnl
    (fun r => ?_) fun r hr => by simp [hr]).moves
  split <;> rfl

theorem jnlMoves_recordFault (src : Source) (kind : FaultKind) (locked : Bool) (volume : Option Nat)
    (hu : u.jnl = s.jnl) : JnlMoves free s.jnl (recordFault src kind locked volume u).jnl := by
  rw [recordFault_jnl, ← hu]
  split
  next slot => exact jnlMoves_takeSlot _ _ _ rfl slot
  next => exact (JnlMove.deferred _ u.jnl).moves

/-! ## New records -/

/-- A reservation's record (R166). -/
theorem reserve_jnl (body : Body) (s : State) : (reserve body s).jnl = appended s false body := takeSlot_jnl _ _ _ s

theorem openReceiptNow_jnl (c : Comp) (supplier : Nat) (number : List Byte) (expected : Nat) (s : State) :
    (openReceiptNow c supplier number expected s).jnl =
      appended s false (.receipt { comp := c, supplier := supplier, docket := number, expected := expected }) := by
  simp [openReceiptNow, reserve_jnl, appended]

theorem startReconcile_jnl (c : Comp) (mode : ReconcileMode) (s : State) :
    (startReconcile c mode s).jnl = appended s false (.reconcile { comp := c, mode := mode }) := by
  simp [startReconcile, reserve_jnl, appended]

theorem jnlMoves_appended (closed : Bool) (body : Body) (slot : 0 < freeSlots s.jnl) :
    JnlMoves free s.jnl (appended s closed body) :=
  (JnlMove.append _ s.jnl (by simpa [freeSlots] using slot) rfl).moves

/-! ## Closes -/

theorem jnlMoves_bookDispense (k : Closing) (hu : u.jnl = s.jnl) : JnlMoves free s.jnl (bookDispense k u).jnl := by
  obtain ⟨standard, amount, f, e⟩ := bookDispense_steps k u
  rw [e]
  exact jnlMoves_closeRecord _ _ (by simp [hu])

theorem jnlMoves_closeDispense {h : Hose} {d : Dispense} (hd : (hoseCtx s h).dispense = some d) :
    JnlMoves free s.jnl (closeDispense h s).jnl := by
  obtain ⟨k, result, u, -, hu, e⟩ := closeDispense_steps hd
  have hu : (modMeter (hoseMeter h) closeMeter u).jnl = s.jnl := by rcases hu with rfl | rfl <;> rfl
  rw [e]
  simpa using jnlMoves_bookDispense (free := free) k hu

theorem jnlMoves_bookReceipt (seq : Nat) (c : Comp) (expected : Nat) (gross : Option Nat) (mean : Int)
    (level : Option Nat) (o : ReceiptOutcome) (hu : u.jnl = s.jnl) :
    JnlMoves free s.jnl (bookReceipt seq c expected gross mean level o u).jnl := by
  have hstock (standard : Nat) : (stockReceipt c standard u).jnl = s.jnl := by simp [hu]
  simpa [bookReceipt] using jnlMoves_closeRecord _ _ (hstock _)

theorem jnlMoves_closeReceiptNow (o : ReceiptOutcome) (hu : u.jnl = s.jnl) :
    JnlMoves free s.jnl (closeReceiptNow o u).jnl := by
  unfold closeReceiptNow
  split
  · exact .of_eq hu
  · dsimp only
    split
    · simpa using jnlMoves_bookReceipt (free := free) _ _ _ _ _ _ _ (u := modMeter .mi closeMeter u) (by simp [hu])
    · simpa using jnlMoves_bookReceipt (free := free) _ _ _ _ _ _ _ hu

theorem jnlMoves_setInletFault (kind : FaultKind) (locked : Bool) (volume : Option Nat) (s : State) :
    JnlMoves free s.jnl (setInletFault kind locked volume s).jnl := by
  have hset (level : FaultLevel) : JnlMoves free s.jnl
      (recordFault .inlet kind locked volume (modRcp (fun x => { x with fault := level }) s)).jnl :=
    jnlMoves_recordFault _ _ _ _ rfl
  simpa [setInletFault] using hset _

theorem jnlMoves_inletFault (kind : FaultKind) (volume : Option Nat) (s : State) :
    JnlMoves free s.jnl (inletFault kind volume s).jnl := by
  have hset (locked : Bool) := jnlMoves_setInletFault (free := free) kind locked volume s
  unfold inletFault
  split
  · simpa using hset false
  · simpa using hset false
  · split
    · exact (hset true).trans (jnlMoves_closeReceiptNow _ rfl)
    · simpa using hset false
  · exact hset _
  · exact hset _

theorem jnlMoves_startupReceipt (s : State) : JnlMoves free s.jnl (startupReceipt s).jnl := by
  unfold startupReceipt
  dsimp only
  split
  · split
    · split
      · exact jnlMoves_bookReceipt _ _ _ _ _ _ _ rfl
      · exact jnlMoves_bookReceipt _ _ _ _ _ _ _ rfl
    · exact .refl _
  · exact .refl _

theorem jnlMoves_startupReconcile (r : Record) (s : State) : JnlMoves free s.jnl (startupReconcile r s).jnl := by
  unfold startupReconcile
  split
  · simpa using jnlMoves_closeRecord (free := free) _ _ (Eq.refl s.jnl)
  · exact .refl _

theorem jnlMoves_startupReconciles (s : State) : JnlMoves free s.jnl (startupReconciles s).jnl := by
  unfold startupReconciles
  generalize s.jnl.ring = l
  induction l generalizing s with
  | nil => exact .refl _
  | cons r rest ih => exact (jnlMoves_startupReconcile r s).trans (ih _)

theorem jnlMoves_startupClose (h : Hose) (s : State) : JnlMoves free s.jnl (startupClose h s).jnl := by
  cases hopen : (s.hsc.shadows.get h).opened with
  | false => exact .of_eq (by rw [startupClose_closed hopen])
  | true =>
    rcases startupClose_steps hopen with ⟨k, pulses, gross, -, -, e⟩ | ⟨-, e⟩ <;> rw [e]
    · exact jnlMoves_bookDispense k rfl
    · exact .refl _

/-! ## Every move, and every start -/

/-- Every move changes the journal by a chain of its changes. -/
theorem Move.jnl (h : Move may s t) (hfree : may .release → free) : JnlMoves free s.jnl t.jnl := by
  cases h
  case deferred x => exact (JnlMove.deferred x s.jnl).moves
  case record slot => exact jnlMoves_takeSlot _ _ _ rfl slot
  case release n power closed inRing => exact (JnlMove.release n s.jnl (hfree power) closed inRing).moves
  case reserveDispense able =>
    simpa [reserve_jnl] using jnlMoves_appended (free := free) _ _ able.slot
  case closeDispense hd => exact jnlMoves_closeDispense hd
  case openReceipt slot =>
    exact openReceiptNow_jnl .. ▸ jnlMoves_appended _ _ slot
  case startReceipt =>
    have hmeter : (modMeter .mi takeOwnership s).jnl = s.jnl := by simp
    simpa [startReceiptNow] using jnlMoves_amendRecord (free := free) _ _ hmeter
  case closeReceipt => exact jnlMoves_closeReceiptNow _ rfl
  case inletFault => exact jnlMoves_inletFault _ _ s
  case startReconcile slot =>
    exact startReconcile_jnl .. ▸ jnlMoves_appended _ _ slot
  case endReconcile c k k' o figures high runs seq =>
    unfold Machine.endReconcile
    simpa using jnlMoves_closeRecord (free := free) k'.seq _ (Eq.refl s.jnl)
  all_goals exact .of_eq (by simp)

/-- So does every leap. -/
theorem Leap.jnl (h : Leap may s t) (hfree : may .release → free) : JnlMoves free s.jnl t.jnl := by
  refine leap_preserves (P := fun v => JnlMoves free s.jnl v.jnl) (fun may' hle _ _ hm hu => hu.trans ?_)
    (fun _ hu => hu.trans (.of_eq (by simp))) ?_ (fun _ _ hu => hu) h (.refl _)
  · exact hm.jnl fun hp => hfree (hle _ hp)
  · exact closeBooks_preserves (fun g v hv => hv.trans (jnlMoves_startupClose g v)) (fun _ hv => hv)
      (fun v hv => hv.trans (jnlMoves_startupReceipt v)) (fun v hv => hv.trans (jnlMoves_startupReconciles v))

end Sys2Proof.Machine
end

section
/-! PROOFS. The numbers of the ring, and the records that stay in it (R158, R162, R170). -/

namespace Sys2Proof.Machine

variable {may : Power → Prop} {s t : State} {free : Prop}

/-! ## Consecutive numbers -/

theorem consecutive_append {n m : Nat} {l : List Record} {r : Record} (h : consecutive n m l = true) (hr : r.seq = n) :
    consecutive (nextNumber n) m (l ++ [r]) = true := by
  induction l generalizing m with
  | nil =>
    obtain rfl : m = n := by simpa [consecutive] using h
    simp [consecutive, hr]
  | cons x rest ih =>
    simp only [consecutive, Bool.and_eq_true, List.cons_append] at h ⊢
    exact ⟨h.1, ih h.2⟩

theorem consecutive_map {f : Record → Record} (hf : ∀ r, (f r).seq = r.seq) (n m : Nat) (l : List Record) :
    consecutive n m (l.map f) = consecutive n m l := by
  induction l generalizing m with
  | nil => rfl
  | cons x rest ih => simp [consecutive, hf, ih]

theorem consecutive_drop {j : Jnl} {m : Nat} (n : Nat) {l : List Record} (h : consecutive j.nextSeq m l = true) :
    consecutive j.nextSeq (oldestNumber { j with ring := l.drop n }) (l.drop n) = true := by
  induction n generalizing m l with
  | zero =>
    cases l with
    | nil => simp [consecutive, oldestNumber]
    | cons x rest =>
      simp only [consecutive, Bool.and_eq_true, beq_iff_eq] at h
      simp [consecutive, oldestNumber, h.1, h.2]
  | succ n ih =>
    cases l with
    | nil => simp [consecutive, oldestNumber]
    | cons x rest =>
      simp only [consecutive, Bool.and_eq_true] at h
      exact ih h.2

/-- A change of the journal keeps its ring in order. -/
theorem JnlMove.ringOk {i j : Jnl} (h : JnlMove free i j) (hi : ringOk i = true) : ringOk j = true := by
  simp only [Machine.ringOk, Bool.and_eq_true, decide_eq_true_eq] at hi ⊢
  obtain ⟨⟨hlen, hcursor⟩, hnumbers⟩ := hi
  cases h with
  | deferred => exact ⟨⟨hlen, hcursor⟩, hnumbers⟩
  | append r _ slot seq =>
    refine ⟨⟨by simpa using slot, hcursor⟩, ?_⟩
    have hnew := consecutive_append hnumbers seq
    cases hring : i.ring with
    | nil => simp_all [oldestNumber]
    | cons x rest => simp_all [oldestNumber]
  | amend f _ seq closed =>
    refine ⟨⟨by simpa using hlen, hcursor⟩, ?_⟩
    cases hring : i.ring with
    | nil => simp_all [oldestNumber]
    | cons x rest =>
      simp only [oldestNumber, hring, List.map_cons, seq] at hnumbers ⊢
      rw [← List.map_cons, consecutive_map seq]
      exact hnumbers
  | release n _ _ _ inRing =>
    refine ⟨⟨(List.drop_sublist _ _).length_le.trans hlen, Nat.mod_lt _ (by norm_num)⟩, ?_⟩
    exact consecutive_drop n hnumbers

theorem ringOk_of_jnlMoves {i j : Jnl} (h : JnlMoves free i j) (hi : ringOk i = true) : ringOk j = true :=
  h.preserves (P := fun j => ringOk j = true) (fun _ _ hm => hm.ringOk) hi

theorem Leap.ringOk (h : Leap may s t) (hs : ringOk s.jnl = true) : ringOk t.jnl = true :=
  ringOk_of_jnlMoves (h.jnl (free := True) fun _ => trivial) hs

/-- The slots of a ring that is no longer than they are. -/
theorem slots_sum {j : Jnl} (h : ringOk j = true) : freeSlots j + openCount j + closedCount j = 1024 := by
  simp only [Machine.ringOk, Bool.and_eq_true, decide_eq_true_eq] at h
  have hcount := List.length_eq_countP_add_countP (fun r : Record => r.isOpen) (l := j.ring)
  simp only [Bool.not_eq_true, Bool.decide_eq_false] at hcount
  unfold freeSlots openCount closedCount
  omega

/-- Settles O6, from the changes of the journal. -/
theorem ringStaysConsecutive : Obligations.RingStaysConsecutive := by
  intro s t hs hstep
  have ht := step_preserves (P := fun u => ringOk u.jnl = true) (fun _ _ _ hm => hm.ringOk) (fun _ _ hu => hu) hstep hs
  exact ⟨ht, slots_sum ht⟩

/-! ## The records that stay -/

/-- Each OPEN record of one journal is in another under its number. -/
def KeepsOpen (i j : Jnl) : Prop := ∀ r ∈ i.ring, r.isOpen = true → ∃ r' ∈ j.ring, r'.seq = r.seq

/-- What no release touches stays under its number, and as it was when it is CLOSED. -/
theorem stays_of_jnlMoves {i j : Jnl} (h : JnlMoves False i j) :
    (∀ r ∈ i.ring, ∃ r' ∈ j.ring, r'.seq = r.seq) ∧ ∀ r ∈ i.ring, r.isOpen = false → r ∈ j.ring := by
  refine h.preserves (P := fun j => (∀ r ∈ i.ring, ∃ r' ∈ j.ring, r'.seq = r.seq) ∧
    ∀ r ∈ i.ring, r.isOpen = false → r ∈ j.ring) (fun j k hm ⟨hnumber, hclosed⟩ => ?_)
    ⟨fun r hr => ⟨r, hr, rfl⟩, fun r hr _ => hr⟩
  cases hm with
  | deferred => exact ⟨hnumber, hclosed⟩
  | append x =>
    refine ⟨fun r hr => ?_, fun r hr ho => List.mem_append_left _ (hclosed r hr ho)⟩
    obtain ⟨r', hr', hseq⟩ := hnumber r hr
    exact ⟨r', List.mem_append_left _ hr', hseq⟩
  | amend f j seq closed =>
    refine ⟨fun r hr => ?_, fun r hr ho => List.mem_map.mpr ⟨r, hclosed r hr ho, closed r ho⟩⟩
    obtain ⟨r', hr', hseq⟩ := hnumber r hr
    exact ⟨f r', List.mem_map_of_mem hr', (seq r').trans hseq⟩
  | release _ _ power => exact power.elim

theorem KeepsOpen.of_jnlMoves {i j : Jnl} (h : JnlMoves False i j) : KeepsOpen i j :=
  fun r hr _ => (stays_of_jnlMoves h).1 r hr

/-- A chain without the power of a release makes none. -/
theorem jnlMoves_of_moves (h : Moves may s t) (hno : ¬ may .release) : JnlMoves False s.jnl t.jnl :=
  h.preserves (P := fun u => JnlMoves False s.jnl u.jnl) (fun _ _ hl hu => hu.trans (hl.jnl hno)) (.refl _)

/-- A release leaves every OPEN record. -/
theorem keepsOpen_reqExportRelease (number : Nat) (s : State) : KeepsOpen s.jnl (reqExportRelease number s).1.jnl := by
  have hstay : KeepsOpen s.jnl s.jnl := .of_jnlMoves (.refl _)
  unfold reqExportRelease
  split
  · exact hstay
  · split
    · exact hstay
    · exact hstay
    next i _ =>
      split
      · exact hstay
      next hclosed =>
        intro r hr hopen
        have hdrop : r ∈ (s.jnl.ring.drop (i + 1)) := by
          rw [← List.take_append_drop (i + 1) s.jnl.ring, List.mem_append] at hr
          refine hr.resolve_left fun htake => hclosed (List.any_eq_true.mpr ⟨r, htake, hopen⟩)
        have hafter : JnlMoves False (release (i + 1) s.jnl)
            (activatePrices (writeAllDeferred (modJnl (release (i + 1)) s))).jnl :=
          jnlMoves_of_moves (may := fun _ => False) (s := modJnl (release (i + 1)) s)
            ((moves_writeAllDeferred _).trans (moves_activatePrices _)) id
        exact (stays_of_jnlMoves hafter).1 r hdrop

/-- Every request leaves every OPEN record under its number. -/
theorem keepsOpen_takeRequest {i : Instr} {k : ReqKind} {p : Port} {owner : State → State × Response}
    (hi : requestOf i = some (k, p, owner)) (s : State) : KeepsOpen s.jnl (takeRequest k p owner s).jnl := by
  obtain ⟨hframes, -, -⟩ := carriesFrames_of_request hi
  by_cases hrelease : mayRelease i = true
  · cases i <;> simp only [mayRelease, hframes, reduceCtorEq] at hrelease
    obtain ⟨rfl, rfl, rfl⟩ : k = _ ∧ p = _ ∧ owner = _ := by simpa using (Option.some.inj hi).symm
    rcases takeRequest_cases .exportRelease _ (reqExportRelease _) s with ⟨-, e⟩ | ⟨-, -, e⟩ | ⟨-, -, -, e⟩ | ⟨-, -, -, e⟩ <;>
      rw [e]
    · exact .of_jnlMoves (.of_eq (by simp))
    · exact .of_jnlMoves (.of_eq (by simp))
    · exact .of_jnlMoves (.of_eq (by simp))
    · simpa using keepsOpen_reqExportRelease _ (wake s)
  · refine .of_jnlMoves (jnlMoves_of_moves (may := mayDo i)
      (moves_takeRequest (fun hp s => moves_owner hi hp (fun _ h => h) s) s) fun h => hrelease h.1)

theorem keepsOpen_takeFrame (p : Port) (frame : List Byte) (s : State) : KeepsOpen s.jnl (takeFrame p frame s).jnl := by
  rcases takeFrame_cases p frame s with ⟨-, e⟩ | ⟨status, e⟩ | ⟨i, k, owner, hi, -, e⟩ <;> rw [e]
  · exact .of_jnlMoves (.of_eq (by simp))
  · exact .of_jnlMoves (.of_eq (by simp))
  · exact keepsOpen_takeRequest hi s

/-- Settles O16: chains without a release keep the records, and a release frees CLOSED ones alone. -/
theorem recordsLeaveOnlyByRelease : Obligations.RecordsLeaveOnlyByRelease := by
  intro c s t ht
  have hmoves := moves_of_exec ht
  refine ⟨?_, fun hno => (stays_of_jnlMoves (jnlMoves_of_moves hmoves fun h => by simp [h.1] at hno)).2⟩
  change KeepsOpen s.jnl t.jnl
  cases hc : requestOf c with
  | some r =>
    obtain rfl := Host.Outcome.next.inj ((exec_request hc s).symm.trans ht)
    exact keepsOpen_takeRequest hc s
  | none =>
    by_cases hservice : carriesService c = true
    · exact .of_jnlMoves (jnlMoves_of_moves hmoves fun h => by simp [h.2] at hservice)
    · by_cases hrelease : mayRelease c = true
      · cases c <;> simp only [requestOf, mayRelease, carriesFrames, carriesService, reduceCtorEq, not_true] at hc hrelease hservice
        next p bytes =>
          obtain rfl := Host.Outcome.next.inj ht
          unfold receiveBytes
          split
          · simp at hservice
          · split
            · exact .of_jnlMoves (.refl _)
            · exact keepsOpen_takeFrame _ _ s
      · exact .of_jnlMoves (jnlMoves_of_moves hmoves fun h => hrelease h.1)

end Sys2Proof.Machine
end

section
/-! PROOFS. What the moves do to the ports: beside the moves of a port itself they raise events and no more (R197, R200).
And what no command undoes: the latch, the time base, the clock's validity and the pending events (R188, R191, R200). -/

namespace Sys2Proof.Machine

variable {may : Power → Prop} {s t u : State}

/-! ## Ports that differ by raised events -/

/-- From one state of the ports to another they change by raised events alone. -/
def Raises (a b : Prt) : Prop :=
  ∃ set : BitVec 24, b = { a with ports := a.ports.map fun p => { p with pending := p.pending ||| set } }

theorem Raises.refl (a : Prt) : Raises a a := by
  refine ⟨0#24, ?_⟩
  simp [PerPort.map]

theorem Raises.of_eq {a b : Prt} (h : b = a) : Raises a b := by
  subst h
  exact .refl b

theorem Raises.raiseSet {a : Prt} (h : Raises a s.prt) (set : BitVec 24) : Raises a (raiseSet set s).prt := by
  obtain ⟨x, hx⟩ := h
  refine ⟨x ||| set, ?_⟩
  simp [Machine.raiseSet, PerPort.map, hx, BitVec.or_assoc]

theorem Raises.raise {a : Prt} (h : Raises a s.prt) (e : Event) : Raises a (raise e s).prt := h.raiseSet e.bit

theorem Raises.raiseIf {a : Prt} (h : Raises a s.prt) (b : Bool) (e : Event) : Raises a (raiseIf b e s).prt := by
  unfold Machine.raiseIf
  split
  · exact h.raise e
  · exact h

/-- A port after raised events is as it was but for its pending set, which has lost nothing. -/
theorem Raises.get {a b : Prt} (h : Raises a b) (p : Port) :
    ∃ set, b.ports.get p = { a.ports.get p with pending := (a.ports.get p).pending ||| set } := by
  obtain ⟨set, rfl⟩ := h
  refine ⟨set, ?_⟩
  cases p <;> rfl

theorem Raises.portOk {a b : Prt} (h : Raises a b) (p : Port) (hp : portOk (a.ports.get p) = true) :
    portOk (b.ports.get p) = true := by
  obtain ⟨set, e⟩ := h.get p
  rw [e]
  exact hp

theorem Raises.pending {a b : Prt} (h : Raises a b) (p : Port) :
    (a.ports.get p).pending &&& (b.ports.get p).pending = (a.ports.get p).pending := by
  obtain ⟨set, e⟩ := h.get p
  rw [e]
  ext i
  simp only [BitVec.getElem_and, BitVec.getElem_or]
  cases (a.ports.get p).pending[i] <;> rfl

/-! ## The operations that raise -/

section

variable {a : Prt}

theorem raises_takeSlot (body : Body) (openTime : Nat) (closeTime : Option Nat) (hs : Raises a s.prt) :
    Raises a (takeSlot body openTime closeTime s).prt :=
  Raises.raiseIf (by simpa using hs) _ _

theorem raises_recordFault (src : Source) (kind : FaultKind) (locked : Bool) (volume : Option Nat)
    (hs : Raises a s.prt) : Raises a (recordFault src kind locked volume s).prt := by
  unfold recordFault
  apply Raises.raise
  split
  · exact raises_takeSlot _ _ _ hs
  · simpa using hs

theorem raises_enterState (h : Hose) (st : HoseState) (hs : Raises a s.prt) : Raises a (enterState h st s).prt :=
  Raises.raise (by simpa using hs) _

theorem raises_enterReceipt (st : ReceiptState) (hs : Raises a s.prt) : Raises a (enterReceipt st s).prt := by
  unfold enterReceipt
  simp only [reloadIdle_frame]
  exact Raises.raise (by simpa using hs) _

theorem raises_machineClose (number : Nat) (c : Comp) (standard gross : Nat) (hours : Option Nat)
    (hs : Raises a s.prt) : Raises a (machineClose number c standard gross hours s).1.prt := by
  unfold machineClose
  simp only [dropRemoved_frame]
  split
  · exact Raises.raiseIf (by simpa using hs) _ _
  · simpa using hs

theorem raises_stockClose (c : Comp) (standard committed : Nat) (proving : Bool) (hs : Raises a s.prt) :
    Raises a (stockClose c standard committed proving s).prt := by
  have hbook (b : Bool) : Raises a
      (raiseIf b .stockNegative (modComp c (bookClose standard committed proving) s)).prt :=
    Raises.raiseIf (by simpa using hs) _ _
  unfold stockClose
  dsimp only
  split
  · simpa using hs
  · split
    · exact Raises.raise (by simpa using hbook _) _
    · exact hbook _

theorem raises_bookDispense (k : Closing) (hs : Raises a s.prt) : Raises a (bookDispense k s).prt := by
  obtain ⟨standard, amount, f, e⟩ := bookDispense_steps k s
  rw [e]
  simp only [closeRecord_frame]
  apply raises_stockClose
  simp only [closeBill_frame]
  unfold closeMachine
  split
  · exact raises_machineClose _ _ _ _ _ hs
  · exact hs

theorem raises_closeDispense {h : Hose} {d : Dispense} (hd : (hoseCtx s h).dispense = some d) (hs : Raises a s.prt) :
    Raises a (closeDispense h s).prt := by
  obtain ⟨k, result, u, -, hu, e⟩ := closeDispense_steps hd
  have hu : Raises a u.prt := by rcases hu with rfl | rfl <;> exact hs
  have hbook : Raises a (bookDispense k (modMeter (hoseMeter h) closeMeter u)).prt :=
    raises_bookDispense k (by simpa using hu)
  rw [e]
  exact (raises_enterState _ _ (by simpa using hbook)).raise _

theorem raises_bookReceipt (seq : Nat) (c : Comp) (expected : Nat) (gross : Option Nat) (mean : Int)
    (level : Option Nat) (o : ReceiptOutcome) (hs : Raises a s.prt) :
    Raises a (bookReceipt seq c expected gross mean level o s).prt :=
  (Raises.raise (by simpa using hs) _).raiseIf _ _

theorem raises_closeReceiptNow (o : ReceiptOutcome) (hs : Raises a s.prt) : Raises a (closeReceiptNow o s).prt := by
  unfold closeReceiptNow
  split
  · exact hs
  · simp only [reloadIdle_frame]
    apply Raises.raise
    simp only [modReceipt_frame]
    apply raises_bookReceipt
    split <;> simpa using hs

theorem raises_setInletFault (kind : FaultKind) (locked : Bool) (volume : Option Nat) (hs : Raises a s.prt) :
    Raises a (setInletFault kind locked volume s).prt :=
  (raises_recordFault _ _ _ _ (by simpa using hs)).raiseIf _ _

theorem raises_inletFault (kind : FaultKind) (volume : Option Nat) (hs : Raises a s.prt) :
    Raises a (inletFault kind volume s).prt := by
  have hset (locked : Bool) : Raises a (setInletFault kind locked volume s).prt := raises_setInletFault _ _ _ hs
  unfold inletFault
  split
  · exact raises_enterReceipt _ (by simpa using hset false)
  · exact raises_enterReceipt _ (by simpa using hset false)
  · split
    · exact raises_closeReceiptNow _ (hset true)
    · simpa using hset false
  · exact hset _
  · exact hset _

theorem raises_openDispense (h : Hose) (d : Dispense) (hs : Raises a s.prt) : Raises a (openDispense h d s).prt := by
  unfold openDispense
  dsimp only
  split
  · exact raises_enterState _ _ (by simpa using hs)
  · exact raises_enterState _ _ (by simpa using hs)

theorem raises_reserveDispense (h : Hose) (d : Dispense) (record : DispenseRecord) (hs : Raises a s.prt) :
    Raises a (reserveDispense h d record s).prt := by
  have hreserve : Raises a (reserve (.dispense record) s).prt := raises_takeSlot _ _ _ hs
  unfold reserveDispense
  dsimp only
  split
  · exact raises_openDispense _ _ (by simpa using hreserve)
  · exact raises_openDispense _ _ (by simpa using hreserve)

end

/-- Every move but those of a port itself raises events there and no more. -/
theorem Move.raises (h : Move may s t) :
    (∃ p f, t = modPort p f s ∧ (portOk (s.prt.ports.get p) = true → portOk (f (s.prt.ports.get p)) = true) ∧
      (may (.ack p) ∨
        (s.prt.ports.get p).pending &&& (f (s.prt.ports.get p)).pending = (s.prt.ports.get p).pending)) ∨
      Raises s.prt t.prt := by
  have hs := Raises.refl s.prt
  cases h
  case port p f queue events => exact .inl ⟨p, f, rfl, queue, events⟩
  all_goals right
  case raiseSet set => exact hs.raiseSet set
  case record => exact raises_takeSlot _ _ _ hs
  case reserveDispense => exact raises_reserveDispense _ _ _ hs
  case closeDispense hd => exact raises_closeDispense hd hs
  case clearHose => exact raises_enterState _ _ (by simpa using hs)
  case openReceipt =>
    refine raises_enterReceipt _ ?_
    simp only [saveReceiptShadow_frame, modReceipt_frame, modMtr_frame]
    exact raises_takeSlot _ _ _ (by simpa using hs)
  case startReceipt => exact raises_enterReceipt _ (by simpa using hs)
  case closeReceipt => exact raises_closeReceiptNow _ hs
  case inletFault => exact raises_inletFault _ _ hs
  case startReconcile =>
    unfold Machine.startReconcile
    simp only [modTpi_frame]
    exact raises_takeSlot _ _ _ (by simpa using hs)
  case endReconcile => exact Raises.raise (by simpa using hs) _
  all_goals exact .of_eq (by simp)

/-! ## The ports' queues -/

theorem portsOk_iff (s : State) : portsOk s = true ↔ ∀ p, portOk (s.prt.ports.get p) = true := by
  simp only [portsOk, Bool.and_eq_true]
  refine ⟨fun ⟨⟨hc, hu⟩, hv⟩ p => ?_, fun h => ⟨⟨h .console, h .uplink⟩, h .service⟩⟩
  cases p <;> assumption

theorem Move.portsOk (h : Move may s t) (hs : portsOk s = true) : portsOk t = true := by
  rw [portsOk_iff] at hs ⊢
  intro q
  rcases h.raises with ⟨p, f, rfl, queue, -⟩ | hraises
  · by_cases hq : q = p
    · subst hq
      simpa using queue (hs q)
    · simpa [hq] using hs q
  · exact hraises.portOk q (hs q)

/-! ## The start-up's events -/

theorem raises_startupReconciles {a : Prt} (hs : Raises a s.prt) : Raises a (startupReconciles s).prt := by
  have hone (r : Record) {v : State} (hv : Raises a v.prt) : Raises a (startupReconcile r v).prt := by
    unfold startupReconcile
    split
    · exact Raises.raise (by simpa using hv) _
    · exact hv
  unfold startupReconciles
  generalize s.jnl.ring = l
  induction l generalizing s with
  | nil => exact hs
  | cons r rest ih => exact ih (hone r hs)

theorem raises_startupReceipt {a : Prt} (hs : Raises a s.prt) : Raises a (startupReceipt s).prt := by
  unfold startupReceipt
  dsimp only
  split
  · split
    · split
      · exact raises_bookReceipt _ _ _ _ _ _ _ (by simpa using hs)
      · exact raises_bookReceipt _ _ _ _ _ _ _ hs
    · exact Raises.raise (by simpa using hs) _
  · exact hs

theorem raises_startupClose {a : Prt} (h : Hose) (hs : Raises a s.prt) : Raises a (startupClose h s).prt := by
  cases hopen : (s.hsc.shadows.get h).opened with
  | false => exact (startupClose_closed hopen).symm ▸ hs
  | true =>
    rcases startupClose_steps hopen with ⟨k, pulses, gross, -, -, e⟩ | ⟨-, e⟩ <;> rw [e]
    · have hbook : Raises a (bookDispense k (modMeter (hoseMeter h) (totalise pulses gross) s)).prt :=
        raises_bookDispense k (by simpa using hs)
      exact Raises.raise (by simpa using hbook) _
    · exact Raises.raise (by simpa using hs) _

theorem raises_closeBooks (s : State) : Raises s.prt (closeBooks s).prt :=
  closeBooks_preserves (P := fun v => Raises s.prt v.prt) (fun h _ hv => raises_startupClose h hv) (fun _ hv => hv)
    (fun _ hv => raises_startupReceipt hv) (fun _ hv => raises_startupReconciles hv) s (.refl _)

/-- Settles O7: the moves of a port keep its queue, and no other move touches it. -/
theorem portsStayConsistent : Obligations.PortsStayConsistent := by
  intro s t hs hstep
  refine step_preserves (P := fun u => portsOk u = true) (fun may u v huv hu => ?_) (fun _ _ hu => hu) hstep hs
  refine leap_preserves (P := fun u => portsOk u = true) (fun _ _ _ _ hm hu => hm.portsOk hu) (fun _ _ => rfl)
    (fun w hw => ?_) (fun _ _ hw => hw) huv hu
  rw [portsOk_iff] at hw ⊢
  exact fun p => (raises_closeBooks w).portOk p (hw p)

/-! ## What no command undoes -/

/-- The latch, the time base and the clock's validity stay in every move. -/
theorem Move.time (h : Move may s t) : KeepsTime s.itu t.itu := by
  cases h
  case itu f time => exact time
  all_goals exact ⟨by simp, by simp, by simp⟩

theorem Leap.time (h : Leap may s t) (hno : ¬ may .reset) : KeepsTime s.itu t.itu := by
  cases h with
  | move hm => exact hm.time
  | reset _ _ _ _ power => exact absurd power hno
  | restart => exact ⟨by simp, by simp, by simp⟩

theorem Moves.time (h : Moves may s t) (hno : ¬ may .reset) : KeepsTime s.itu t.itu :=
  h.preserves (P := fun u => KeepsTime s.itu u.itu)
    (fun _ _ hl hu => ⟨fun hs => (hl.time hno).latch (hu.latch hs), hu.mono.trans (hl.time hno).mono,
      fun hs => (hl.time hno).valid (hu.valid hs)⟩) ⟨id, le_rfl, id⟩

/-- A move without the power to acknowledge keeps what is pending at a port. -/
theorem Move.pending_port (h : Move may s t) (p : Port) (hno : ¬ may (.ack p)) :
    (s.prt.ports.get p).pending &&& (t.prt.ports.get p).pending = (s.prt.ports.get p).pending := by
  rcases h.raises with ⟨q, f, rfl, -, events⟩ | hraises
  · by_cases hq : p = q
    · subst hq
      simpa using events.resolve_left hno
    · simp [hq]
  · exact hraises.pending p

theorem and_kept_trans {a b c : BitVec 24} (hab : a &&& b = a) (hbc : b &&& c = b) : a &&& c = a := by
  rw [← hab, BitVec.and_assoc, hbc]

theorem Moves.pending_port (h : Moves may s t) (p : Port) (hreset : ¬ may .reset) (hrestart : ¬ may .restart)
    (hack : ¬ may (.ack p)) :
    (s.prt.ports.get p).pending &&& (t.prt.ports.get p).pending = (s.prt.ports.get p).pending := by
  refine h.preserves (P := fun u =>
    (s.prt.ports.get p).pending &&& (u.prt.ports.get p).pending = (s.prt.ports.get p).pending)
    (fun u v hl hu => ?_) BitVec.and_self
  cases hl with
  | move hm => exact and_kept_trans hu (hm.pending_port p hack)
  | reset _ _ _ _ power => exact absurd power hreset
  | restart _ power => exact absurd power hrestart

/-- Settles O13, from what the moves without the powers of a start and of an acknowledgement keep. -/
theorem latchTimeAndEventsStay : Obligations.LatchTimeAndEventsStay := by
  refine ⟨fun c s t hc hlatch ht => ?_, fun c s t hc ht => ?_, fun p c s t hc ht => ?_⟩
  · exact ((moves_of_exec ht).time (by simp [mayDo, hc])).latch hlatch
  · have htime := (moves_of_exec ht).time (by simp [mayDo, hc])
    exact ⟨htime.mono, htime.valid⟩
  · refine (moves_of_exec ht).pending_port p (fun h => ?_) (fun h => ?_) (by simp [mayDo, hc])
    · have hreset : isReset c = true := h
      cases c <;> simp_all [isReset, mayClearEvents]
    · cases c <;> simp_all [mayDo, carriesService, mayClearEvents, isReset, carriesFrames]

end Sys2Proof.Machine
end

section
/-! PROOFS. The totals of the meters, which no move lowers (R10), and the metrological parameters, which only a
metrological write changes (R176, R177, R183). -/

namespace Sys2Proof.Machine

variable {may : Power → Prop} {s t u : State}

/-! ## Meters -/

/-- A meter runs on: its parameters stay, its totals stay 64-bit values and do not fall. -/
structure RunsOn (x x' : MeterState) : Prop where
  params : x'.params = x.params
  totals : totalsFit x = true → totalsFit x' = true ∧ x.totalPulses ≤ x'.totalPulses ∧ x.totalGross ≤ x'.totalGross

theorem RunsOn.refl (x : MeterState) : RunsOn x x := ⟨rfl, fun h => ⟨h, le_rfl, le_rfl⟩⟩

theorem RunsOn.trans {x y z : MeterState} (h : RunsOn x y) (h' : RunsOn y z) : RunsOn x z := by
  refine ⟨h'.params.trans h.params, fun hx => ?_⟩
  obtain ⟨hy, hp, hg⟩ := h.totals hx
  obtain ⟨hz, hp', hg'⟩ := h'.totals hy
  exact ⟨hz, hp.trans hp', hg.trans hg'⟩

theorem runsOn_takeOwnership (x : MeterState) : RunsOn x (takeOwnership x) := ⟨rfl, fun h => ⟨h, le_rfl, le_rfl⟩⟩

theorem runsOn_totalise (pulses gross : Nat) (x : MeterState) : RunsOn x (totalise pulses gross x) :=
  ⟨rfl, totals_totalise pulses gross⟩

theorem runsOn_closeMeter (x : MeterState) : RunsOn x (closeMeter x) := ⟨rfl, totals_totalise _ _⟩

theorem runsOn_resetMeter (x : MeterState) : RunsOn x (resetMeter x) := ⟨rfl, fun h => ⟨h, le_rfl, le_rfl⟩⟩

/-- Every meter runs on. -/
def MetersRunOn (a b : Mtr) : Prop := ∀ m, RunsOn (a.meters.get m) (b.meters.get m)

theorem MetersRunOn.refl (a : Mtr) : MetersRunOn a a := fun _ => .refl _

theorem MetersRunOn.of_eq {a b : Mtr} (h : b = a) : MetersRunOn a b := by
  subst h
  exact .refl b

theorem MetersRunOn.trans {a b c : Mtr} (h : MetersRunOn a b) (h' : MetersRunOn b c) : MetersRunOn a c :=
  fun m => (h m).trans (h' m)

theorem metersRunOn_modMeter {a : Mtr} (m : MeterId) {f : MeterState → MeterState}
    (hf : RunsOn (s.mtr.meters.get m) (f (s.mtr.meters.get m))) (hs : MetersRunOn a s.mtr) :
    MetersRunOn a (modMeter m f s).mtr := by
  intro n
  refine (hs n).trans ?_
  simp only [modMeter, modMtr, PerMeter.get_set]
  split
  next hn => exact hn ▸ hf
  next => exact .refl _

/-- The meters of two states stand alike where their meters are equal. -/
theorem MetersRunOn.congr {a b c : Mtr} (h : MetersRunOn a b) (hc : c.meters = b.meters) : MetersRunOn a c :=
  fun m => hc ▸ h m

theorem closeDispense_meters {h : Hose} {d : Dispense} (hd : (hoseCtx s h).dispense = some d) :
    (closeDispense h s).mtr = (modMeter (hoseMeter h) closeMeter s).mtr := by
  obtain ⟨k, result, u, -, hu, e⟩ := closeDispense_steps hd
  have hu : u.mtr = s.mtr := by rcases hu with rfl | rfl <;> rfl
  rw [e]
  simp [modMeter, modMtr, hu]

theorem metersRunOn_closeReceiptNow {a : Mtr} (o : ReceiptOutcome) (hs : MetersRunOn a s.mtr) :
    MetersRunOn a (closeReceiptNow o s).mtr := by
  unfold closeReceiptNow
  split
  · exact hs
  · dsimp only
    split
    · simpa using metersRunOn_modMeter .mi (runsOn_closeMeter _) hs
    · simpa using hs

theorem metersRunOn_inletFault {a : Mtr} (kind : FaultKind) (volume : Option Nat) (hs : MetersRunOn a s.mtr) :
    MetersRunOn a (inletFault kind volume s).mtr := by
  unfold inletFault
  split
  · simpa using hs
  · simpa using hs
  · split
    · exact metersRunOn_closeReceiptNow _ (by simpa using hs)
    · simpa using hs
  · simpa using hs
  · simpa using hs

/-- In every move but a metrological write every meter runs on. -/
theorem Move.metersRunOn (h : Move may s t) :
    (∃ (m : MeterId) (f : MeterParams → MeterParams), may .writeCal ∧ t = modMeter m (fun x => { x with params := f x.params }) s) ∨ MetersRunOn s.mtr t.mtr := by
  have hs := MetersRunOn.refl s.mtr
  cases h
  case meterParams m f power => exact .inl ⟨m, f, power, rfl⟩
  all_goals right
  case meter m f keeps => exact metersRunOn_modMeter m ⟨keeps.params, keeps.totals⟩ hs
  case reserveDispense => simpa using metersRunOn_modMeter _ (runsOn_takeOwnership _) hs
  case closeDispense hd => exact closeDispense_meters hd ▸ metersRunOn_modMeter _ (runsOn_closeMeter _) hs
  case startReceipt => simpa [startReceiptNow] using metersRunOn_modMeter _ (runsOn_takeOwnership _) hs
  case closeReceipt => exact metersRunOn_closeReceiptNow _ hs
  case inletFault => exact metersRunOn_inletFault _ _ hs
  case openReceipt => exact hs.congr (by simp)
  all_goals exact .of_eq (by simp)

theorem metersRunOn_volatileReset (s : State) : MetersRunOn s.mtr (volatileReset s).mtr := by
  intro m
  cases m <;> exact runsOn_resetMeter _

theorem metersRunOn_startupClose {a : Mtr} (h : Hose) (hs : MetersRunOn a s.mtr) :
    MetersRunOn a (startupClose h s).mtr := by
  cases hopen : (s.hsc.shadows.get h).opened with
  | false => exact (startupClose_closed hopen).symm ▸ hs
  | true =>
    rcases startupClose_steps hopen with ⟨k, pulses, gross, -, -, e⟩ | ⟨-, e⟩ <;> rw [e]
    · simpa using metersRunOn_modMeter _ (runsOn_totalise pulses gross _) hs
    · simpa using hs

theorem metersRunOn_startupReceipt {a : Mtr} (hs : MetersRunOn a s.mtr) : MetersRunOn a (startupReceipt s).mtr := by
  unfold startupReceipt
  dsimp only
  split
  · split
    · split
      · simpa using metersRunOn_modMeter .mi (runsOn_totalise _ _ _) hs
      · simpa using hs
    · simpa using hs
  · exact hs

theorem metersRunOn_closeBooks {a : Mtr} (hs : MetersRunOn a s.mtr) : MetersRunOn a (closeBooks s).mtr :=
  closeBooks_preserves (P := fun v => MetersRunOn a v.mtr) (fun h _ hv => metersRunOn_startupClose h hv) (fun _ hv => hv)
    (fun _ hv => metersRunOn_startupReceipt hv) (fun _ hv => by simpa using hv) s hs

/-! ## Totals -/

theorem totalsOk_iff (s : State) : totalsOk s = true ↔ ∀ m, totalsFit (s.mtr.meters.get m) = true := by
  simp only [totalsOk, Bool.and_eq_true]
  refine ⟨fun ⟨⟨h1, h2⟩, h3⟩ m => ?_, fun h => ⟨⟨h .m1, h .m2⟩, h .mi⟩⟩
  cases m <;> assumption

/-- The totals of every meter are 64-bit values and not lower than those of a state before. -/
def TotalsFrom (a b : Mtr) : Prop :=
  ∀ m, totalsFit (b.meters.get m) = true ∧ (a.meters.get m).totalPulses ≤ (b.meters.get m).totalPulses ∧
    (a.meters.get m).totalGross ≤ (b.meters.get m).totalGross

theorem TotalsFrom.runOn {a b c : Mtr} (h : TotalsFrom a b) (hbc : MetersRunOn b c) : TotalsFrom a c := by
  intro m
  obtain ⟨hfit, hp, hg⟩ := h m
  obtain ⟨hfit', hp', hg'⟩ := (hbc m).totals hfit
  exact ⟨hfit', hp.trans hp', hg.trans hg'⟩

/-- Settles O12: every meter runs on, and a write of parameters touches no total. -/
theorem totalsNeverDecrease : Obligations.TotalsNeverDecrease := by
  intro s t hs hstep
  rw [totalsOk_iff] at hs ⊢
  suffices h : TotalsFrom s.mtr t.mtr from ⟨fun m => (h m).1, fun m => (h m).2⟩
  refine step_preserves (P := fun u => TotalsFrom s.mtr u.mtr) (fun may u v huv hu => ?_) (fun _ _ hu => hu) hstep
    fun m => ⟨hs m, le_rfl, le_rfl⟩
  refine leap_preserves (P := fun u => TotalsFrom s.mtr u.mtr) (fun _ _ w x hm hw => ?_)
    (fun w hw => hw.runOn (metersRunOn_volatileReset w)) (fun w hw => hw.runOn (metersRunOn_closeBooks (.refl _)))
    (fun _ _ hw => hw) huv hu
  rcases hm.metersRunOn with ⟨m, f, -, rfl⟩ | hrun
  · intro n
    simp only [modMeter, modMtr, PerMeter.get_set]
    split
    next hn => exact hn ▸ hw n
    next => exact hw n
  · exact hw.runOn hrun

/-! ## Metrological parameters -/

/-- The metrological parameters of two states are the same. -/
structure SameParams (s t : State) : Prop where
  meters : ∀ m, (t.mtr.meters.get m).params = (s.mtr.meters.get m).params
  map : t.hsc.map = s.hsc.map
  comps : ∀ k, (compartment t k).params = (compartment s k).params ∧
    (compartment t k).strapping = (compartment s k).strapping
  products : ∀ k, (priceRecord t k).product = (priceRecord s k).product

theorem SameParams.refl (s : State) : SameParams s s := ⟨fun _ => rfl, rfl, fun _ => ⟨rfl, rfl⟩, fun _ => rfl⟩

theorem SameParams.trans (h : SameParams s t) (h' : SameParams t u) : SameParams s u :=
  ⟨fun m => (h'.meters m).trans (h.meters m), h'.map.trans h.map,
    fun k => ⟨(h'.comps k).1.trans (h.comps k).1, (h'.comps k).2.trans (h.comps k).2⟩,
    fun k => (h'.products k).trans (h.products k)⟩

/-- A compartment's parameters and strapping table stay. -/
def SameComps (a b : Stk) : Prop :=
  ∀ k, (b.comps.get k).params = (a.comps.get k).params ∧ (b.comps.get k).strapping = (a.comps.get k).strapping

theorem SameComps.of_eq {a b : Stk} (h : b = a) : SameComps a b := by
  subst h
  exact fun _ => ⟨rfl, rfl⟩

theorem sameComps_modComp {a : Stk} (c : Comp) {f : Compartment → Compartment}
    (hf : (f (compartment s c)).params = (compartment s c).params ∧
      (f (compartment s c)).strapping = (compartment s c).strapping) (hs : SameComps a s.stk) :
    SameComps a (modComp c f s).stk := by
  intro k
  simp only [modComp, modStk, PerComp.get_set]
  split
  next hk =>
    obtain ⟨hp, hst⟩ := hs k
    rw [hk] at hp hst ⊢
    exact ⟨hf.1.trans hp, hf.2.trans hst⟩
  next => exact hs k

theorem sameComps_stockClose {a : Stk} (c : Comp) (standard committed : Nat) (proving : Bool) (hs : SameComps a s.stk) :
    SameComps a (stockClose c standard committed proving s).stk := by
  have hbook : SameComps a (modComp c (bookClose standard committed proving) s).stk :=
    sameComps_modComp c ⟨rfl, rfl⟩ hs
  unfold stockClose
  dsimp only
  split
  · exact hbook
  · split
    · simp only [raise_frame]
      exact sameComps_modComp c ⟨rfl, rfl⟩ (by simpa using hbook)
    · simpa using hbook

theorem sameComps_bookDispense {a : Stk} (k : Closing) (hs : SameComps a s.stk) : SameComps a (bookDispense k s).stk := by
  obtain ⟨standard, amount, f, e⟩ := bookDispense_steps k s
  rw [e]
  simp only [closeRecord_frame]
  exact sameComps_stockClose _ _ _ _ (by simpa using hs)

theorem sameComps_closeDispense {h : Hose} {d : Dispense} (hd : (hoseCtx s h).dispense = some d) :
    SameComps s.stk (closeDispense h s).stk := by
  obtain ⟨k, result, u, -, hu, e⟩ := closeDispense_steps hd
  have hu : u.stk = s.stk := by rcases hu with rfl | rfl <;> rfl
  rw [e]
  simpa using sameComps_bookDispense (a := s.stk) k (s := modMeter (hoseMeter h) closeMeter u) (.of_eq (by simp [hu]))

theorem sameComps_bookReceipt {a : Stk} (seq : Nat) (c : Comp) (expected : Nat) (gross : Option Nat) (mean : Int)
    (level : Option Nat) (o : ReceiptOutcome) (hs : SameComps a s.stk) :
    SameComps a (bookReceipt seq c expected gross mean level o s).stk := by
  have hstock (standard : Nat) : SameComps a (stockReceipt c standard s).stk :=
    sameComps_modComp c (evalReturn_keeps _).2 hs
  simpa [bookReceipt] using hstock _

theorem sameComps_closeReceiptNow {a : Stk} (o : ReceiptOutcome) (hs : SameComps a s.stk) :
    SameComps a (closeReceiptNow o s).stk := by
  unfold closeReceiptNow
  split
  · exact hs
  · simp only [reloadIdle_frame, raise_frame, modReceipt_frame]
    apply sameComps_bookReceipt
    split <;> simpa using hs

theorem sameComps_inletFault {a : Stk} (kind : FaultKind) (volume : Option Nat) (hs : SameComps a s.stk) :
    SameComps a (inletFault kind volume s).stk := by
  unfold inletFault
  split
  · simpa using hs
  · simpa using hs
  · split
    · exact sameComps_closeReceiptNow _ (by simpa using hs)
    · simpa using hs
  · simpa using hs
  · simpa using hs

theorem sameComps_reserveDispense (h : Hose) (d : Dispense) (record : DispenseRecord) (s : State) :
    SameComps s.stk (reserveDispense h d record s).stk := by
  have hdraw : SameComps s.stk (modComp d.comp
      (fun c => { c with committed := c.committed + d.committedVolume, op := draw c.op }) (reserve (.dispense record) s)).stk :=
    sameComps_modComp _ ⟨rfl, rfl⟩ (.of_eq (by simp))
  unfold reserveDispense
  dsimp only
  split <;> simpa using hdraw

/-- Every move but a metrological write keeps the parameters of the compartments. -/
theorem Move.sameComps (h : Move may s t) (hno : ¬ may .writeCal) : SameComps s.stk t.stk := by
  have hs : SameComps s.stk s.stk := .of_eq rfl
  cases h
  case comp c f op params strapping => exact sameComps_modComp c ⟨params, strapping⟩ hs
  case reserveDispense => exact sameComps_reserveDispense _ _ _ s
  case closeDispense hd => exact sameComps_closeDispense hd
  case openReceipt c supplier number expected _ _ _ =>
    simpa [openReceiptNow] using sameComps_modComp (a := s.stk) c (f := fun x => { x with op := .receiving }) ⟨rfl, rfl⟩ hs
  case closeReceipt => exact sameComps_closeReceiptNow _ hs
  case inletFault => exact sameComps_inletFault _ _ hs
  case startReconcile c mode _ _ =>
    simpa [Machine.startReconcile] using
      sameComps_modComp (a := s.stk) c (f := fun x => { x with op := .reconciling }) ⟨rfl, rfl⟩ hs
  case endReconcile c k k' o figures high _ _ =>
    unfold Machine.endReconcile
    simp only [raise_frame, modTpi_frame]
    exact sameComps_modComp c ⟨rfl, rfl⟩ (.of_eq (by simp))
  case compParams power => exact absurd power hno
  case strapping power => exact absurd power hno
  all_goals exact .of_eq (by simp)

/-- Every move but a metrological write keeps the hose map and the product codes. -/
theorem Move.sameProducts (h : Move may s t) (hno : ¬ may .writeCal) :
    t.hsc.map = s.hsc.map ∧ ∀ k, (priceRecord t k).product = (priceRecord s k).product := by
  cases h
  case bil f committed product => exact ⟨by simp, product⟩
  case reserveDispense h d record _ =>
    refine ⟨by simp, fun k => ?_⟩
    unfold Machine.reserveDispense
    dsimp only
    split <;> simp [priceRecord]
  case hsc f _ _ _ map => exact ⟨map, fun _ => rfl⟩
  case hoseMap power _ => exact absurd power hno
  case product power => exact absurd power hno
  all_goals exact ⟨by simp, fun k => by simp [priceRecord]⟩

theorem Move.sameParams (h : Move may s t) (hno : ¬ may .writeCal) : SameParams s t := by
  obtain ⟨hmap, hproducts⟩ := h.sameProducts hno
  refine ⟨fun m => ?_, hmap, h.sameComps hno, hproducts⟩
  rcases h.metersRunOn with ⟨_, _, power, -⟩ | hrun
  · exact absurd power hno
  · exact (hrun m).params

theorem sameParams_startupClose (h : Hose) (s : State) : SameParams s (startupClose h s) := by
  refine ⟨fun m => (metersRunOn_startupClose h (.refl s.mtr) m).params, by simp, ?_, fun k => by simp [priceRecord]⟩
  show SameComps s.stk (startupClose h s).stk
  cases hopen : (s.hsc.shadows.get h).opened with
  | false => exact .of_eq (by rw [startupClose_closed hopen])
  | true =>
    rcases startupClose_steps hopen with ⟨k, pulses, gross, -, -, e⟩ | ⟨-, e⟩ <;> rw [e]
    · exact sameComps_bookDispense k (.of_eq rfl)
    · exact .of_eq rfl

theorem sameParams_startupReceipt (s : State) : SameParams s (startupReceipt s) := by
  refine ⟨fun m => (metersRunOn_startupReceipt (.refl s.mtr) m).params, by simp, ?_, fun k => by simp [priceRecord]⟩
  show SameComps s.stk (startupReceipt s).stk
  unfold startupReceipt
  dsimp only
  split
  · split
    · split
      · exact sameComps_bookReceipt _ _ _ _ _ _ _ (.of_eq rfl)
      · exact sameComps_bookReceipt _ _ _ _ _ _ _ (.of_eq rfl)
    · exact .of_eq rfl
  · exact .of_eq rfl

theorem Leap.sameParams (h : Leap may s t) (hno : ¬ may .writeCal) : SameParams s t := by
  refine leap_preserves (P := SameParams s) (fun may' hle _ _ hm hu => hu.trans (hm.sameParams fun hw => hno (hle _ hw)))
    (fun u hu => hu.trans ?_) (closeBooks_preserves (fun h u hu => hu.trans (sameParams_startupClose h u))
      (fun _ hu => hu.trans ⟨fun _ => rfl, rfl, fun _ => ⟨rfl, rfl⟩, fun _ => rfl⟩)
      (fun u hu => hu.trans (sameParams_startupReceipt u)) (fun u hu => hu.trans ?_))
    (fun _ _ hu => hu.trans ⟨fun _ => rfl, rfl, fun _ => ⟨rfl, rfl⟩, fun _ => rfl⟩) h (.refl s)
  · refine ⟨fun m => (metersRunOn_volatileReset u m).params, by simp, fun k => ?_, fun k => by simp [priceRecord]⟩
    cases k <;> exact ⟨rfl, rfl⟩
  · exact ⟨fun m => by simp, by simp, fun k => by simp [compartment], fun k => by simp [priceRecord]⟩

theorem Moves.sameParams (h : Moves may s t) (hno : ¬ may .writeCal) : SameParams s t :=
  h.preserves (P := SameParams s) (fun _ _ hl hu => hu.trans (hl.sameParams hno)) (.refl s)

/-! ## Outside calibration mode -/

/-- With the mode off a metrological write is answered NOT_ACTIVE and does nothing. -/
theorem owner_off {i : Instr} {k : ReqKind} {p : Port} {owner : State → State × Response}
    (hi : requestOf i = some (k, p, owner)) (hw : writesCal i = true) (hoff : s.cal.on = false) : (owner s).1 = s := by
  cases i <;> simp only [writesCal, reduceCtorEq] at hw
  all_goals
    obtain ⟨rfl, rfl, rfl⟩ : k = _ ∧ p = _ ∧ owner = _ := by simpa using (Option.some.inj hi).symm
  · simp [reqCalibrationWrite, hoff]
  · simp [reqStrappingWrite, hoff]
  · simp [reqApplyProving, hoff]

/-- With the mode off no request changes a parameter. -/
theorem sameParams_takeRequest {i : Instr} {k : ReqKind} {p : Port} {owner : State → State × Response}
    (hi : requestOf i = some (k, p, owner)) (hoff : s.cal.on = false) : SameParams s (takeRequest k p owner s) := by
  obtain ⟨-, hservice, -⟩ := carriesFrames_of_request hi
  by_cases hw : writesCal i = true
  · have hturned : takeRequest k p owner s = takeRequest k p (fun v => (v, (owner v).2)) s := by
      simp only [takeRequest, owner_off (s := wake s) hi hw (by simpa using hoff)]
    rw [hturned]
    exact (moves_takeRequest (may := fun _ => False) (fun _ v => .refl v) s).sameParams id
  · exact (moves_takeRequest (fun hp v => moves_owner hi hp (fun _ h => h) v) s).sameParams (may := mayDo i)
      (by simp [mayDo, hw, hservice])

theorem portReady_modPort_answered (p : Port) {f : PortState → PortState} (hf : ∀ x, (f x).phase = .answered)
    (v : State) : portReady (modPort p f v) p = false := by
  simp [portReady, modPort, hf]

/-- A request leaves its port unready. -/
theorem portReady_takeRequest (k : ReqKind) (p : Port) (owner : State → State × Response) (v : State) :
    portReady (takeRequest k p owner v) p = false := by
  rcases takeRequest_cases k p owner v with ⟨hport, e⟩ | ⟨-, -, e⟩ | ⟨-, -, -, e⟩ | ⟨-, -, -, e⟩ <;> rw [e]
  · simpa [portReady, countRefused, modPort] using hport
  all_goals exact portReady_modPort_answered p (fun _ => rfl) _

/-- Between the bytes of the service line: the parameters are those of a state before, and calibration mode is on only
once a frame has been answered, so that no other is executed. -/
structure Sealed (a v : State) : Prop where
  params : SameParams a v
  shut : v.cal.on = true → portReady v .service = false

theorem Sealed.of_off {a v : State} (hp : SameParams a v) (hoff : v.cal.on = false) : Sealed a v :=
  ⟨hp, fun hon => absurd hon (by simp [hoff])⟩

theorem sealed_takeFrame {a v : State} (frame : List Byte) (h : Sealed a v) : Sealed a (takeFrame .service frame v) := by
  have hquiet {x : State} (hx : Moves (fun _ => False) v x) (hcal : x.cal = v.cal)
      (hready : portReady x .service = true → portReady v .service = true) : Sealed a x := by
    refine ⟨h.params.trans (hx.sameParams id), fun hon => ?_⟩
    have hv := h.shut (hcal ▸ hon)
    cases hr : portReady x .service with
    | false => rfl
    | true => exact absurd (hready hr) (by simp [hv])
  rcases takeFrame_cases .service frame v with ⟨hport, e⟩ | ⟨status, e⟩ | ⟨i, k, owner, hi, hp, e⟩ <;> rw [e]
  · exact hquiet ((moves_wake v).trans (moves_countRefused (by simpa using hport))) (by simp)
      (by simp [portReady, countRefused, modPort])
  · exact hquiet ((moves_wake v).trans (moves_answer _ _ _)) (by simp)
      (by simp [portReady, answer, modPort])
  · refine ⟨?_, fun _ => portReady_takeRequest k .service owner v⟩
    cases hon : v.cal.on with
    | false => exact h.params.trans (sameParams_takeRequest hi hon)
    | true =>
      have hport := h.shut hon
      have hcount : takeRequest k .service owner v = countRefused .service (wake v) := by simp [takeRequest, hport]
      rw [hcount]
      exact h.params.trans
        (((moves_wake v).trans (moves_countRefused (by simpa using hport))).sameParams (may := fun _ => False) id)

theorem sealed_modPort {a v : State} {f : PortState → PortState}
    (hf : ∀ x, (f x).phase = x.phase ∧ (f x).answer = x.answer ∧ (f x).refused = x.refused ∧ (f x).pending = x.pending)
    (h : Sealed a v) : Sealed a (modPort .service f v) := by
  refine ⟨h.params.trans ((moves_modPort .service hf v).sameParams (may := fun _ => False) id), fun hon => ?_⟩
  have hport := h.shut (by simpa using hon)
  simpa [portReady, modPort, (hf _).1] using hport

theorem sealed_serviceByte {a v : State} (b : Byte) (h : Sealed a v) : Sealed a (serviceByte b v) := by
  unfold serviceByte
  dsimp only
  split
  · exact sealed_takeFrame _ (sealed_modPort (by intro x; exact ⟨rfl, rfl, rfl, rfl⟩) h)
  · exact sealed_modPort (by intro x; exact ⟨rfl, rfl, rfl, rfl⟩) h

/-- What comes in on the service line while the mode is off changes no parameter. -/
theorem sameParams_of_carriesService {c : Instr} (hc : carriesService c = true) (hoff : s.cal.on = false)
    (ht : exec c s = .next t) : SameParams s t := by
  have hs : Sealed s s := .of_off (.refl s) hoff
  cases c <;> simp only [carriesService, reduceCtorEq] at hc
  case rejectedRequestFrame p bytes =>
    cases p <;> simp only [reduceCtorEq] at hc
    obtain rfl := Host.Outcome.next.inj ht
    exact (List.foldlRecOn bytes (fun v b => serviceByte b v) (motive := fun v => Sealed s v) hs
      fun v hv b _ => sealed_serviceByte b hv).params
  case serviceFrameGap =>
    obtain rfl := Host.Outcome.next.inj ht
    unfold endServiceFrame
    dsimp only
    split
    · exact .refl s
    · refine (sealed_takeFrame _ (sealed_modPort (by intro x; exact ⟨rfl, rfl, rfl, rfl⟩) (.of_off ?_ ?_))).params
      · exact (moves_reachTime _ s).sameParams (may := fun _ => False) id
      · simpa using hoff

/-- Settles O15: only a metrological write touches a parameter, and with the mode off it is turned away; on the service
line a frame that turns the mode on leaves the port unready for the next. -/
theorem parametersSealedOutsideCalibration : Obligations.ParametersSealedOutsideCalibration := by
  intro c s t hoff ht
  suffices h : SameParams s t from
    ⟨h.meters, h.map, fun k => ⟨(h.comps k).1, (h.comps k).2, h.products k⟩⟩
  cases hservice : carriesService c with
  | true => exact sameParams_of_carriesService hservice hoff ht
  | false =>
    cases hc : requestOf c with
    | some r =>
      obtain ⟨k, p, owner⟩ := r
      obtain rfl := Host.Outcome.next.inj ((exec_request hc s).symm.trans ht)
      exact sameParams_takeRequest hc hoff
    | none =>
      refine (moves_of_exec ht).sameParams ?_
      have hno : writesCal c = false := by cases c <;> simp_all [writesCal, requestOf]
      simp [mayDo, hservice, hno]

end Sys2Proof.Machine
end

section
/-! PROOFS. What the parts of a state hold of each other: dispenses, receipt and reconciles on compartments, meters,
contractors and OPEN records (R2, R58, R128, R173). The invariants are stated and proved of these holdings, whose
changes are few. -/

namespace Sys2Proof.Machine

/-! ## Holdings and their changes -/

/-- The operation whose record an OPEN record is. -/
inductive Operation where
  | hose (h : Hose) | receipt | reconcile (c : Comp)

/-- What the parts of a state hold of each other. A shadow stands here while it is open, with its number. -/
structure Holdings where
  holds : Hose → Bool
  stake : Hose → Option Stake
  owned : MeterId → Bool
  phase : ReceiptState
  docket : Option (Comp × Nat)
  started : Bool
  reconcile : Comp → Option Nat
  op : Comp → OpState
  map : Hose → Comp
  committed : Nat → Nat
  shadow : Hose → Option Nat
  receiptShadow : Option Nat
  opens : List (Nat × Option Operation)

/-- What a stake has committed of a contractor. -/
def Stake.of (k : Stake) (i : Nat) : Nat := if k.contractor = some i then k.amount else 0

namespace Holdings

open Function (update)

variable {x y : Holdings}

/-- A hose takes up a dispense with its reservations. -/
def take (x : Holdings) (h : Hose) (k : Stake) : Holdings :=
  { x with
    holds := update x.holds h true, stake := update x.stake h (some k), owned := update x.owned (hoseMeter h) true
    op := update x.op k.comp (draw (x.op k.comp)), committed := fun i => x.committed i + k.of i
    shadow := update x.shadow h (some k.seq), opens := x.opens ++ [(k.seq, some (.hose h))] }

/-- A hose lets go of a dispense. -/
def leave (x : Holdings) (h : Hose) (k : Stake) : Holdings :=
  { x with
    holds := update x.holds h false, stake := update x.stake h none, owned := update x.owned (hoseMeter h) false
    op := update x.op k.comp (endDraw (x.op k.comp)), committed := fun i => x.committed i - k.of i
    shadow := update x.shadow h none, opens := x.opens.filter fun p => p.1 != k.seq }

/-- A change of the holdings. -/
inductive Change : Holdings → Holdings → Prop
  | flow (x : Holdings) (r : ReceiptState) (before : receiptRuns x.phase = true)
      (after : receiptRuns r = true ∨ r = .settling) : Change x { x with phase := r }
  | save (x : Holdings) (h : Hose) (k : Stake) (stake : x.stake h = some k) :
      Change x { x with shadow := update x.shadow h (some k.seq) }
  | saveReceipt (x : Holdings) (d : Comp × Nat) (docket : x.docket = some d) :
      Change x { x with receiptShadow := some d.2 }
  | take (x : Holdings) (h : Hose) (k : Stake) (rests : x.holds h = false) (comp : k.comp = x.map h)
      (receiving : x.op k.comp ≠ .receiving) (reconciling : x.op k.comp ≠ .reconciling) : Change x (x.take h k)
  | leave (x : Holdings) (h : Hose) (k : Stake) (stake : x.stake h = some k) : Change x (x.leave h k)
  | openReceipt (x : Holdings) (c : Comp) (n : Nat) (idle : x.phase = .idle) (free : x.op c = .free) :
      Change x { x with
        phase := .docketed, docket := some (c, n), op := update x.op c .receiving, receiptShadow := some n
        opens := x.opens ++ [(n, some .receipt)] }
  | startReceipt (x : Holdings) (docketed : x.phase = .docketed) :
      Change x { x with phase := .receiving, started := true, owned := update x.owned .mi true }
  | closeReceipt (x : Holdings) (d : Comp × Nat) (docket : x.docket = some d) :
      Change x { x with
        phase := .idle, docket := none, started := false
        owned := if x.started then update x.owned .mi false else x.owned
        op := update x.op d.1 .free, receiptShadow := none, opens := x.opens.filter fun p => p.1 != d.2 }
  | startReconcile (x : Holdings) (c : Comp) (n : Nat) (free : x.op c = .free) :
      Change x { x with
        reconcile := update x.reconcile c (some n), op := update x.op c .reconciling
        opens := x.opens ++ [(n, some (.reconcile c))] }
  | endReconcile (x : Holdings) (c : Comp) (n : Nat) (runs : x.reconcile c = some n) :
      Change x { x with
        reconcile := update x.reconcile c none, op := update x.op c .free
        opens := x.opens.filter fun p => p.1 != n }
  | mapHose (x : Holdings) (h : Hose) (c : Comp) (rest : ∀ k, x.holds k = false) :
      Change x { x with map := update x.map h c }

/-! ## Owners (Tables 6-1 and 8-2) -/

/-- A receipt that flows or settles. -/
def flows (r : ReceiptState) : Bool := receiptRuns r || r == .settling

/-- The states of hoses, receipt and meters agree. -/
structure Owners (x : Holdings) : Prop where
  stake : ∀ h, (x.stake h).isSome = x.holds h
  owned : ∀ h, x.owned (hoseMeter h) = x.holds h
  docket : x.docket.isSome = (x.phase != .idle)
  started : x.started = flows x.phase
  inlet : x.owned .mi = flows x.phase

theorem hoseMeter_ne_mi (h : Hose) : hoseMeter h ≠ .mi := by
  cases h <;> decide

theorem hoseMeter_inj {h g : Hose} : hoseMeter g = hoseMeter h ↔ g = h := by
  cases h <;> cases g <;> decide

theorem flows_of_runs {r : ReceiptState} (h : receiptRuns r = true ∨ r = .settling) :
    flows r = true ∧ (r != .idle) = true := by
  rcases h with h | rfl
  · cases r <;> simp_all [flows, receiptRuns]
  · exact ⟨rfl, rfl⟩

/-- The hoses keep agreeing where one changes its stake, its state and its meter at once. -/
theorem Owners.of_hose (h : Owners x) (g : Hose) (k : Option Stake) (hstake : y.stake = update x.stake g k)
    (hholds : y.holds = update x.holds g k.isSome) (howned : y.owned = update x.owned (hoseMeter g) k.isSome)
    (hphase : y.phase = x.phase) (hdocket : y.docket = x.docket) (hstarted : y.started = x.started) : Owners y where
  stake g' := by
    rw [hstake, hholds]
    by_cases hg : g' = g
    · subst hg
      simp
    · simp [hg, h.stake]
  owned g' := by
    rw [howned, hholds]
    by_cases hg : g' = g
    · subst hg
      simp
    · simp [hg, hoseMeter_inj, h.owned]
  docket := by rw [hdocket, hphase, h.docket]
  started := by rw [hstarted, hphase, h.started]
  inlet := by simp [howned, hphase, (hoseMeter_ne_mi g).symm, h.inlet]

/-- The receipt keeps agreeing where it changes as a whole, and no hose with it. -/
theorem Owners.of_receipt (h : Owners x) (hstake : y.stake = x.stake) (hholds : y.holds = x.holds)
    (howned : ∀ g, y.owned (hoseMeter g) = x.owned (hoseMeter g)) (hdocket : y.docket.isSome = (y.phase != .idle))
    (hstarted : y.started = flows y.phase) (hinlet : y.owned .mi = flows y.phase) : Owners y where
  stake g := by rw [hstake, hholds, h.stake]
  owned g := by rw [howned, hholds, h.owned]
  docket := hdocket
  started := hstarted
  inlet := hinlet

/-- Every change keeps the owners. -/
theorem Owners.change (h : Owners x) (hxy : Change x y) : Owners y := by
  cases hxy
  case flow r before after =>
    obtain ⟨hflows, hidle⟩ := flows_of_runs after
    obtain ⟨hflows', hidle'⟩ := flows_of_runs (.inl before)
    exact h.of_receipt rfl rfl (fun _ => rfl) (by rw [hidle, h.docket, hidle']) (by rw [hflows, h.started, hflows'])
      (by rw [hflows, h.inlet, hflows'])
  case take g k _ _ _ _ => exact h.of_hose g (some k) rfl rfl rfl rfl rfl rfl
  case leave g k _ => exact h.of_hose g none rfl rfl rfl rfl rfl rfl
  case openReceipt c n idle free =>
    have hno : flows x.phase = false := by rw [idle]; rfl
    exact h.of_receipt rfl rfl (fun _ => rfl) rfl (h.started.trans hno) (h.inlet.trans hno)
  case startReceipt docketed =>
    exact h.of_receipt rfl rfl (fun g => by simp [hoseMeter_ne_mi g]) (by rw [h.docket, docketed]; rfl) rfl (by simp [flows, receiptRuns])
  case closeReceipt d docket =>
    refine h.of_receipt rfl rfl (fun g => ?_) rfl rfl ?_
    · dsimp only
      split <;> simp [hoseMeter_ne_mi g]
    · dsimp only
      split
      · simp [flows, receiptRuns]
      next hs => rw [h.inlet, ← h.started, Bool.eq_false_iff.mpr hs]; rfl
  all_goals exact ⟨h.stake, h.owned, h.docket, h.started, h.inlet⟩

/-! ## Claims (R128) -/

/-- Whether a hose holds a dispense that draws on a compartment. -/
def draws (x : Holdings) (c : Comp) (h : Hose) : Bool := (x.stake h).any fun k => k.comp == c

/-- How many hoses draw on a compartment. -/
def drawCount (x : Holdings) (c : Comp) : Nat := boolCode (x.draws c .h1) + boolCode (x.draws c .h2)

/-- Whether the receipt is into a compartment. -/
def receives (x : Holdings) (c : Comp) : Bool := x.docket.any fun d => d.1 == c

/-- The one kind of operation that holds a compartment, with its operation state. -/
inductive Claim (x : Holdings) (c : Comp) : Prop
  | receiving (receipt : x.receives c = true) (reconcile : x.reconcile c = none) (none : x.drawCount c = 0)
      (op : x.op c = .receiving)
  | reconciling (receipt : x.receives c = false) (reconcile : (x.reconcile c).isSome = true) (none : x.drawCount c = 0)
      (op : x.op c = .reconciling)
  | free (receipt : x.receives c = false) (reconcile : x.reconcile c = none) (none : x.drawCount c = 0)
      (op : x.op c = .free)
  | drawn (receipt : x.receives c = false) (reconcile : x.reconcile c = none) (n : Nat) (some : x.drawCount c = n + 1)
      (op : x.op c = .drawn (n + 1))

/-- The claims are exclusive, and a dispense is on the compartment that its hose is mapped to. -/
structure Claims (x : Holdings) : Prop where
  claim : ∀ c, Claim x c
  mapped : ∀ h k, x.stake h = some k → k.comp = x.map h

/-- A claim stands by what it is made of. -/
theorem Claim.congr {c : Comp} (h : Claim x c) (hreceives : y.receives c = x.receives c)
    (hreconcile : y.reconcile c = x.reconcile c) (hcount : y.drawCount c = x.drawCount c) (hop : y.op c = x.op c) :
    Claim y c := by
  cases h with
  | receiving a b d e => exact .receiving (hreceives.trans a) (hreconcile.trans b) (hcount.trans d) (hop.trans e)
  | reconciling a b d e =>
    exact .reconciling (hreceives.trans a) (hreconcile ▸ b) (hcount.trans d) (hop.trans e)
  | free a b d e => exact .free (hreceives.trans a) (hreconcile.trans b) (hcount.trans d) (hop.trans e)
  | drawn a b n d e => exact .drawn (hreceives.trans a) (hreconcile.trans b) n (hcount.trans d) (hop.trans e)

/-- A FREE compartment is held by nothing. -/
theorem Claim.of_free {c : Comp} (h : Claim x c) (hfree : x.op c = .free) :
    x.receives c = false ∧ x.reconcile c = none ∧ x.drawCount c = 0 := by
  cases h with
  | free a b d _ => exact ⟨a, b, d⟩
  | receiving _ _ _ e => simp [e] at hfree
  | reconciling _ _ _ e => simp [e] at hfree
  | drawn _ _ _ _ e => simp [e] at hfree

/-- A compartment that dispenses may draw on. -/
theorem Claim.drawable {c : Comp} (h : Claim x c) (hreceiving : x.op c ≠ .receiving) (hreconciling : x.op c ≠ .reconciling) :
    x.receives c = false ∧ x.reconcile c = none ∧ draw (x.op c) = .drawn (x.drawCount c + 1) := by
  cases h with
  | free a b d e => exact ⟨a, b, by rw [e, d]; rfl⟩
  | receiving _ _ _ e => exact absurd e hreceiving
  | reconciling _ _ _ e => exact absurd e hreconciling
  | drawn a b n d e => exact ⟨a, b, by rw [e, d]; rfl⟩

/-- A compartment that a dispense draws on. -/
theorem Claim.of_draws {c : Comp} (h : Claim x c) (hdraws : x.drawCount c ≠ 0) :
    x.receives c = false ∧ x.reconcile c = none ∧ x.op c = .drawn (x.drawCount c) := by
  cases h with
  | free _ _ d _ => exact absurd d hdraws
  | receiving _ _ d _ => exact absurd d hdraws
  | reconciling _ _ d _ => exact absurd d hdraws
  | drawn a b n d e => exact ⟨a, b, by rw [e, d]⟩

/-- A hose takes its draw to where its new stake is, and from where its old one was. -/
theorem drawCount_update (x : Holdings) (c : Comp) (g : Hose) (k : Option Stake) (hy : y.stake = update x.stake g k) :
    y.drawCount c + boolCode (x.draws c g) = x.drawCount c + boolCode (k.any fun k => k.comp == c) := by
  cases g <;> simp [drawCount, draws, hy] <;> omega

theorem boolCode_any_none (c : Comp) : boolCode ((none : Option Stake).any fun k => k.comp == c) = 0 := rfl

theorem boolCode_any_some (k : Stake) (c : Comp) :
    boolCode ((some k).any fun k => k.comp == c) = if k.comp = c then 1 else 0 := by
  by_cases h : k.comp = c <;> simp [h, boolCode]

theorem Claims.take (hx : Claims x) (howners : Owners x) {h : Hose} {k : Stake} (rests : x.holds h = false)
    (comp : k.comp = x.map h) (receiving : x.op k.comp ≠ .receiving) (reconciling : x.op k.comp ≠ .reconciling) :
    Claims (x.take h k) := by
  have hnone : x.stake h = none := Option.isNone_iff_eq_none.mp (by simp [← Option.not_isSome, howners.stake, rests])
  refine ⟨fun c => ?_, fun g j hg => ?_⟩
  · have hcount := drawCount_update (y := x.take h k) x c h (some k) rfl
    simp only [draws, hnone, boolCode_any_none, boolCode_any_some, add_zero] at hcount
    by_cases hc : k.comp = c
    · subst hc
      obtain ⟨hreceives, hreconcile, hdraw⟩ := (hx.claim k.comp).drawable receiving reconciling
      exact .drawn hreceives hreconcile _ (by simpa using hcount) (by simpa [Holdings.take] using hdraw)
    · exact (hx.claim c).congr rfl rfl (by simpa [hc] using hcount) (by simp [Holdings.take, Ne.symm hc])
  · by_cases hgh : g = h
    · subst hgh
      obtain rfl : k = j := by simpa [Holdings.take] using hg
      exact comp
    · exact hx.mapped g j (by simpa [Holdings.take, hgh] using hg)

theorem Claims.leave (hx : Claims x) {h : Hose} {k : Stake} (stake : x.stake h = some k) : Claims (x.leave h k) := by
  refine ⟨fun c => ?_, fun g j hg => ?_⟩
  · have hcount := drawCount_update (y := x.leave h k) x c h none rfl
    simp only [draws, stake, boolCode_any_none, boolCode_any_some, add_zero] at hcount
    by_cases hc : k.comp = c
    · subst hc
      simp only [if_true] at hcount
      obtain ⟨hreceives, hreconcile, hop⟩ := (hx.claim k.comp).of_draws (by omega)
      have hleave : (x.leave h k).op k.comp = endDraw (.drawn (x.drawCount k.comp)) := by
        simp [Holdings.leave, hop]
      by_cases hlast : (x.leave h k).drawCount k.comp = 0
      · exact .free hreceives hreconcile hlast (by rw [hleave, endDraw, if_pos (by omega)])
      · obtain ⟨n, hn⟩ := Nat.exists_eq_succ_of_ne_zero hlast
        refine .drawn hreceives hreconcile n hn ?_
        rw [hleave, endDraw, if_neg (by omega)]
        congr 1
        omega
    · exact (hx.claim c).congr rfl rfl (by simpa [hc] using hcount) (by simp [Holdings.leave, Ne.symm hc])
  · by_cases hgh : g = h
    · simp [Holdings.leave, hgh] at hg
    · exact hx.mapped g j (by simpa [Holdings.leave, hgh] using hg)

/-- The docket's compartment is held by the receipt. -/
theorem Claims.of_docket (hx : Claims x) {d : Comp × Nat} (hd : x.docket = some d) :
    x.reconcile d.1 = none ∧ x.drawCount d.1 = 0 := by
  have hreceives : x.receives d.1 = true := by simp [receives, hd]
  cases hx.claim d.1 with
  | receiving _ b c _ => exact ⟨b, c⟩
  | reconciling a _ _ _ => simp [hreceives] at a
  | free a _ _ _ => simp [hreceives] at a
  | drawn a _ _ _ _ => simp [hreceives] at a

/-- A compartment under a reconcile is held by it. -/
theorem Claims.of_reconcile (hx : Claims x) {c : Comp} {n : Nat} (hn : x.reconcile c = some n) :
    x.receives c = false ∧ x.drawCount c = 0 := by
  cases hx.claim c with
  | receiving _ b _ _ => simp [hn] at b
  | reconciling a _ d _ => exact ⟨a, d⟩
  | free _ b _ _ => simp [hn] at b
  | drawn _ b _ _ _ => simp [hn] at b

/-- Every change keeps the claims. -/
theorem Claims.change (hx : Claims x) (howners : Owners x) (hxy : Change x y) : Claims y := by
  cases hxy
  case take h k rests comp receiving reconciling => exact hx.take howners rests comp receiving reconciling
  case leave h k stake => exact hx.leave stake
  case openReceipt c n idle free =>
    have hnone : x.docket = none := by
      rw [← Option.not_isSome_iff_eq_none, howners.docket, idle]
      decide
    refine ⟨fun c' => ?_, hx.mapped⟩
    by_cases hc : c' = c
    · subst hc
      obtain ⟨-, hreconcile, hcount⟩ := (hx.claim c').of_free free
      exact .receiving (by simp [receives]) hreconcile hcount (by simp)
    · exact (hx.claim c').congr (by simp [receives, hnone, Ne.symm hc]) rfl rfl (by simp [hc])
  case closeReceipt d docket =>
    refine ⟨fun c => ?_, hx.mapped⟩
    by_cases hc : c = d.1
    · subst hc
      obtain ⟨hreconcile, hcount⟩ := hx.of_docket docket
      exact .free rfl hreconcile hcount (by simp)
    · exact (hx.claim c).congr (by simp [receives, docket, Ne.symm hc]) rfl rfl (by simp [hc])
  case startReconcile c n free =>
    refine ⟨fun c' => ?_, hx.mapped⟩
    by_cases hc : c' = c
    · subst hc
      obtain ⟨hreceives, -, hcount⟩ := (hx.claim c').of_free free
      exact .reconciling hreceives (by simp) hcount (by simp)
    · exact (hx.claim c').congr rfl (by simp [hc]) rfl (by simp [hc])
  case endReconcile c n runs =>
    refine ⟨fun c' => ?_, hx.mapped⟩
    by_cases hc : c' = c
    · subst hc
      obtain ⟨hreceives, hcount⟩ := hx.of_reconcile runs
      exact .free hreceives (by simp) hcount (by simp)
    · exact (hx.claim c').congr rfl (by simp [hc]) rfl (by simp [hc])
  case mapHose h c rest =>
    refine ⟨fun c => (hx.claim c).congr rfl rfl rfl rfl, fun g k hg => ?_⟩
    have hno := howners.stake g
    simp [rest, (show x.stake g = some k from hg)] at hno
  all_goals exact ⟨fun c => (hx.claim c).congr rfl rfl rfl rfl, hx.mapped⟩

/-! ## Commitments (R58) -/

/-- What the dispense of a hose has committed of a contractor. -/
def share (x : Holdings) (h : Hose) (i : Nat) : Nat := ((x.stake h).map fun k => k.of i).getD 0

/-- A contractor's committed amount is the sum of those of its open dispenses. -/
def Committed (x : Holdings) : Prop := ∀ i, x.committed i = x.share .h1 i + x.share .h2 i

/-- A hose takes its share to that of its new stake. -/
theorem share_update (x : Holdings) (g : Hose) (k : Option Stake) (i : Nat) (hy : y.stake = update x.stake g k) :
    y.share .h1 i + y.share .h2 i + x.share g i =
      x.share .h1 i + x.share .h2 i + (k.map fun k => k.of i).getD 0 := by
  cases g <;> simp [share, hy] <;> omega

/-- Every change keeps the commitments. -/
theorem Committed.change (hx : Committed x) (howners : Owners x) (hxy : Change x y) : Committed y := by
  cases hxy
  case take h k rests _ _ _ =>
    intro i
    have hnone : x.stake h = none := Option.isNone_iff_eq_none.mp (by simp [← Option.not_isSome, howners.stake, rests])
    have hshare := share_update (y := x.take h k) x h (some k) i rfl
    have hold : x.share h i = 0 := by simp [share, hnone]
    have hsum : (x.take h k).committed i = x.committed i + k.of i := rfl
    have := hx i
    simp only [Option.map_some, Option.getD_some] at hshare
    omega
  case leave h k stake =>
    intro i
    have hshare := share_update (y := x.leave h k) x h none i rfl
    have hold : x.share h i = k.of i := by simp [share, stake]
    have hsum : (x.leave h k).committed i = x.committed i - k.of i := rfl
    have := hx i
    simp only [Option.map_none, Option.getD_none] at hshare
    omega
  all_goals exact hx

/-! ## OPEN records (R173) -/

/-- The number under which a subject is in progress. -/
def number (x : Holdings) : Option Operation → Option Nat
  | some (.hose h) => x.shadow h
  | some .receipt => x.receiptShadow
  | some (.reconcile c) => x.reconcile c
  | none => none

/-- Every OPEN record belongs to what is in progress under its number, and a shadow is open exactly while its context
is. -/
structure Records (x : Holdings) : Prop where
  backed : ∀ p ∈ x.opens, x.number p.2 = some p.1
  shadow : ∀ h, x.shadow h = (x.stake h).map (·.seq)
  receiptShadow : x.receiptShadow = x.docket.map (·.2)

/-- A new OPEN record whose subject is not in progress before. -/
theorem backed_append {o : Option Operation} {n : Nat} (hx : ∀ p ∈ x.opens, x.number p.2 = some p.1)
    (hfresh : x.number o = none) (hnew : y.number o = some n) (hopens : y.opens = x.opens ++ [(n, o)])
    (hother : ∀ o', o' ≠ o → y.number o' = x.number o') : ∀ p ∈ y.opens, y.number p.2 = some p.1 := by
  intro p hp
  rw [hopens, List.mem_append, List.mem_singleton] at hp
  rcases hp with hp | rfl
  · rw [hother _ fun ho => ?_, hx p hp]
    simp [← ho, hx p hp] at hfresh
  · exact hnew

/-- The OPEN records under a number close, which is that of all of a subject. -/
theorem backed_filter {o : Option Operation} {n : Nat} (hx : ∀ p ∈ x.opens, x.number p.2 = some p.1)
    (hold : x.number o = some n) (hopens : y.opens = x.opens.filter fun p => p.1 != n)
    (hother : ∀ o', o' ≠ o → y.number o' = x.number o') : ∀ p ∈ y.opens, y.number p.2 = some p.1 := by
  intro p hp
  rw [hopens, List.mem_filter, bne_iff_ne] at hp
  obtain ⟨hp, hne⟩ := hp
  rw [hother _ fun ho => ?_, hx p hp]
  rw [← ho, hx p hp] at hold
  exact hne (Option.some.inj hold)

/-- Every change keeps the records. -/
theorem Records.change (hx : Records x) (howners : Owners x) (hclaims : Claims x) (hxy : Change x y) : Records y := by
  cases hxy
  case save h k stake =>
    have hsame : update x.shadow h (some k.seq) = x.shadow := by
      rw [Function.update_eq_self_iff, hx.shadow, stake]
      rfl
    rw [hsame]
    exact hx
  case saveReceipt d docket =>
    have hsame : some d.2 = x.receiptShadow := by rw [hx.receiptShadow, docket]; rfl
    rw [hsame]
    exact hx
  case take h k rests comp receiving reconciling =>
    have hnone : x.stake h = none := Option.isNone_iff_eq_none.mp (by simp [← Option.not_isSome, howners.stake, rests])
    refine ⟨backed_append hx.backed (o := some (.hose h)) ?_ ?_ rfl fun o ho => ?_, fun g => ?_, hx.receiptShadow⟩
    · rw [number, hx.shadow, hnone]
      rfl
    · simp [number, Holdings.take]
    · cases o with
      | none => rfl
      | some o =>
        cases o with
        | hose g =>
          have hg : g ≠ h := by rintro rfl; exact ho rfl
          simp [number, Holdings.take, hg]
        | receipt => rfl
        | reconcile c => rfl
    · by_cases hg : g = h
      · subst hg
        simp [Holdings.take]
      · simp [Holdings.take, hg, hx.shadow]
  case leave h k stake =>
    refine ⟨backed_filter hx.backed (o := some (.hose h)) ?_ rfl fun o ho => ?_, fun g => ?_, hx.receiptShadow⟩
    · rw [number, hx.shadow, stake]
      rfl
    · cases o with
      | none => rfl
      | some o =>
        cases o with
        | hose g =>
          have hg : g ≠ h := by rintro rfl; exact ho rfl
          simp [number, Holdings.leave, hg]
        | receipt => rfl
        | reconcile c => rfl
    · by_cases hg : g = h
      · subst hg
        simp [Holdings.leave]
      · simp [Holdings.leave, hg, hx.shadow]
  case openReceipt c n idle free =>
    have hnone : x.docket = none := by
      rw [← Option.not_isSome_iff_eq_none, howners.docket, idle]
      decide
    refine ⟨backed_append hx.backed (o := some .receipt) ?_ rfl rfl fun o ho => ?_, hx.shadow, rfl⟩
    · rw [number, hx.receiptShadow, hnone]
      rfl
    · match o with
      | none | some (.hose _) | some (.reconcile _) => rfl
      | some .receipt => exact absurd rfl ho
  case closeReceipt d docket =>
    refine ⟨backed_filter hx.backed (o := some .receipt) ?_ rfl fun o ho => ?_, hx.shadow, rfl⟩
    · rw [number, hx.receiptShadow, docket]
      rfl
    · match o with
      | none | some (.hose _) | some (.reconcile _) => rfl
      | some .receipt => exact absurd rfl ho
  case startReconcile c n free =>
    refine ⟨backed_append hx.backed (o := some (.reconcile c)) ((hclaims.claim c).of_free free).2.1 (by simp [number]) rfl
      fun o ho => ?_, hx.shadow, hx.receiptShadow⟩
    match o with
    | none | some (.hose _) | some .receipt => rfl
    | some (.reconcile c') =>
      have hc : c' ≠ c := by rintro rfl; exact ho rfl
      simp [number, hc]
  case endReconcile c n runs =>
    refine ⟨backed_filter hx.backed (o := some (.reconcile c)) runs rfl fun o ho => ?_, hx.shadow, hx.receiptShadow⟩
    match o with
    | none | some (.hose _) | some .receipt => rfl
    | some (.reconcile c') =>
      have hc : c' ≠ c := by rintro rfl; exact ho rfl
      simp [number, hc]
  all_goals exact ⟨hx.backed, hx.shadow, hx.receiptShadow⟩

/-! ## Chains of changes, and a part without operations -/

/-- A chain of changes. -/
def Changes : Holdings → Holdings → Prop := Relation.ReflTransGen Change

theorem Changes.of_eq (h : y = x) : Changes x y := by
  subst h
  exact Relation.ReflTransGen.refl

theorem Change.changes (h : Change x y) : Changes x y := Relation.ReflTransGen.single h

theorem Changes.trans {z : Holdings} (h : Changes x y) (h' : Changes y z) : Changes x z := Relation.ReflTransGen.trans h h'

theorem Changes.preserves {P : Holdings → Prop} (hchange : ∀ x y, Change x y → P x → P y) (h : Changes x y) (hx : P x) :
    P y := by
  induction h with
  | refl => exact hx
  | tail _ hlast ih => exact hchange _ _ hlast ih

theorem Owners.changes (hx : Owners x) (h : Changes x y) : Owners y :=
  h.preserves (P := Owners) (fun _ _ hc hx => hx.change hc) hx

theorem Claims.changes (hx : Claims x) (ho : Owners x) (h : Changes x y) : Claims y :=
  (h.preserves (P := fun x => Owners x ∧ Claims x) (fun _ _ hc hx => ⟨hx.1.change hc, hx.2.change hx.1 hc⟩) ⟨ho, hx⟩).2

theorem Committed.changes (hx : Committed x) (ho : Owners x) (h : Changes x y) : Committed y :=
  (h.preserves (P := fun x => Owners x ∧ Committed x) (fun _ _ hc hx => ⟨hx.1.change hc, hx.2.change hx.1 hc⟩) ⟨ho, hx⟩).2

theorem Records.changes (hx : Records x) (ho : Owners x) (hk : Claims x) (h : Changes x y) : Records y :=
  (h.preserves (P := fun x => Owners x ∧ Claims x ∧ Records x)
    (fun _ _ hc ⟨ho, hk, hx⟩ => ⟨ho.change hc, hk.change ho hc, hx.change ho hk hc⟩) ⟨ho, hk, hx⟩).2.2

/-- Nothing is in progress, as after a start. -/
structure Vacant (x : Holdings) : Prop where
  holds : ∀ h, x.holds h = false
  stake : ∀ h, x.stake h = none
  owned : ∀ m, x.owned m = false
  phase : x.phase = .idle
  docket : x.docket = none
  started : x.started = false
  reconcile : ∀ c, x.reconcile c = none
  op : ∀ c, x.op c = .free
  committed : ∀ i, x.committed i = 0

theorem Vacant.owners (hx : Vacant x) : Owners x where
  stake h := by rw [hx.stake, hx.holds]; rfl
  owned h := by rw [hx.owned, hx.holds]
  docket := by rw [hx.docket, hx.phase]; rfl
  started := by rw [hx.started, hx.phase]; rfl
  inlet := by rw [hx.owned, hx.phase]; rfl

theorem Vacant.claims (hx : Vacant x) : Claims x where
  claim c := .free (by simp [receives, hx.docket]) (hx.reconcile c) (by simp [drawCount, draws, hx.stake, boolCode])
    (hx.op c)
  mapped h k hk := by simp [hx.stake] at hk

theorem Vacant.committed_shares (hx : Vacant x) : Committed x := fun i => by simp [share, hx.stake, hx.committed]

theorem Vacant.records (hx : Vacant x) (hopens : x.opens = []) (hshadow : ∀ h, x.shadow h = none)
    (hreceipt : x.receiptShadow = none) : Records x where
  backed p hp := by simp [hopens] at hp
  shadow h := by rw [hshadow, hx.stake]; rfl
  receiptShadow := by rw [hreceipt, hx.docket]; rfl

end Holdings
end Sys2Proof.Machine
end

section
/-! PROOFS. The holdings of a state, and what every move does to them. -/

namespace Sys2Proof.Machine

open Holdings
open Function (update)

variable {may : Power → Prop} {s t u : State}

/-! ## The holdings of a state -/

/-- The operation that a record's body is of. -/
def Body.operation : Body → Option Operation
  | .dispense d => some (.hose d.hose)
  | .receipt _ => some .receipt
  | .reconcile x => some (.reconcile x.comp)
  | .adjust _ | .fault _ => none

/-- The OPEN records of the journal, by number and operation. -/
def openRecords (j : Jnl) : List (Nat × Option Operation) :=
  (j.ring.filter (·.isOpen)).map fun r => (r.seq, r.body.operation)

/-- What the parts of a state hold of each other. -/
def holdings (s : State) : Holdings where
  holds h := hasDispense (hoseCtx s h).state
  stake h := (hoseCtx s h).dispense.map Dispense.stake
  owned m := (s.mtr.meters.get m).owned
  phase := s.rcp.receipt.state
  docket := s.rcp.receipt.docket.map fun d => (d.comp, d.seq)
  started := s.rcp.receipt.started.isSome
  reconcile c := (s.tpi.reconciles.get c).map (·.seq)
  op c := (s.stk.comps.get c).op
  map h := s.hsc.map.get h
  committed i := (contractorOf s i).committed
  shadow h := if (s.hsc.shadows.get h).opened then some (s.hsc.shadows.get h).seq else none
  receiptShadow := if s.rcp.shadow.opened then some s.rcp.shadow.seq else none
  opens := openRecords s.jnl

theorem ownersOk_iff (s : State) : ownersOk s = true ↔ Owners (holdings s) := by
  have hhose (h : Hose) : hoseOk s h = true ↔
      ((holdings s).stake h).isSome = (holdings s).holds h ∧ (holdings s).owned (hoseMeter h) = (holdings s).holds h := by
    simp [hoseOk, holdings]
  have hreceipt : receiptOk s = true ↔
      ((holdings s).docket.isSome = ((holdings s).phase != .idle) ∧ (holdings s).started = flows (holdings s).phase) ∧
        (holdings s).owned .mi = flows (holdings s).phase := by
    simp [receiptOk, holdings, flows]
  simp only [ownersOk, Bool.and_eq_true, hhose, hreceipt]
  constructor
  · rintro ⟨⟨⟨h1, o1⟩, h2, o2⟩, ⟨hd, hs⟩, hi⟩
    exact ⟨fun h => by cases h <;> assumption, fun h => by cases h <;> assumption, hd, hs, hi⟩
  · rintro ⟨hstake, howned, hd, hs, hi⟩
    exact ⟨⟨⟨hstake .h1, howned .h1⟩, hstake .h2, howned .h2⟩, ⟨hd, hs⟩, hi⟩

theorem drawCount_holdings (s : State) (c : Comp) : (holdings s).drawCount c = drawCount s c := by
  have hdraws (h : Hose) : (holdings s).draws c h = drawsOn s h c := by
    cases hd : (hoseCtx s h).dispense <;> simp [draws, drawsOn, holdings, hd, Dispense.stake]
  simp [Holdings.drawCount, Machine.drawCount, hdraws]

theorem claimOk_iff (s : State) (c : Comp) : claimOk s c = true ↔ Claim (holdings s) c := by
  have hreceives : (s.rcp.receipt.docket.map fun d => d.comp == c).getD false = (holdings s).receives c := by
    cases hd : s.rcp.receipt.docket <;> simp [receives, holdings, hd]
  have hreconcile : (s.tpi.reconciles.get c).isSome = ((holdings s).reconcile c).isSome := by simp [holdings]
  have hop : (compartment s c).op = (holdings s).op c := rfl
  simp only [claimOk, hreceives, hreconcile, hop, ← drawCount_holdings]
  constructor
  · intro h
    split at h
    next hr =>
      simp only [Bool.and_eq_true, beq_iff_eq, Bool.not_eq_true', Option.isSome_eq_false_iff, Option.isNone_iff_eq_none] at h
      exact .receiving hr h.1.2 h.2 h.1.1
    next hr =>
      split at h
      next hk =>
        simp only [Bool.and_eq_true, beq_iff_eq] at h
        exact .reconciling (Bool.eq_false_iff.mpr hr) hk h.2 h.1
      next hk =>
        have hnone := Option.not_isSome_iff_eq_none.mp hk
        rw [beq_iff_eq] at h
        by_cases hzero : (holdings s).drawCount c = 0
        · exact .free (Bool.eq_false_iff.mpr hr) hnone hzero (by rw [h, if_pos hzero])
        · obtain ⟨n, hn⟩ := Nat.exists_eq_succ_of_ne_zero hzero
          exact .drawn (Bool.eq_false_iff.mpr hr) hnone n hn (by rw [h, if_neg hzero, hn])
  · intro h
    cases h with
    | receiving a b d e => simp [a, b, d, e]
    | reconciling a b d e => simp [a, b, d, e]
    | free a b d e => simp [a, b, d, e]
    | drawn a b n d e => simp [a, b, d, e]

theorem claimsOk_iff (s : State) : claimsOk s = true ↔ Claims (holdings s) := by
  have hmapped (h : Hose) : mappedOk s h = true ↔ ∀ k, (holdings s).stake h = some k → k.comp = (holdings s).map h := by
    cases hd : (hoseCtx s h).dispense <;> simp [mappedOk, holdings, hd, Dispense.stake, hoseComp]
  simp only [claimsOk, Bool.and_eq_true, claimOk_iff, hmapped]
  constructor
  · rintro ⟨⟨⟨h1, h2⟩, m1⟩, m2⟩
    exact ⟨fun c => by cases c <;> assumption, fun h => by cases h <;> assumption⟩
  · rintro ⟨hclaim, hmap⟩
    exact ⟨⟨⟨hclaim .c1, hclaim .c2⟩, hmap .h1⟩, hmap .h2⟩

theorem contractorOk_iff (s : State) : (∀ i, contractorOk s i) ↔ Committed (holdings s) := by
  have hshare (h : Hose) (i : Nat) : (holdings s).share h i = committedBy s h i := by
    cases hd : (hoseCtx s h).dispense <;> simp [share, holdings, committedBy, hd, Dispense.stake, Stake.of]
  simp only [contractorOk, Committed, hshare]
  rfl

theorem openRecordOk_iff (s : State) (r : Record) :
    openRecordOk s r = true ↔ (r.isOpen = true → (holdings s).number r.body.operation = some r.seq) := by
  cases hopen : r.isOpen with
  | false => simp [openRecordOk, hopen]
  | true =>
    cases hb : r.body with
    | dispense d => simp [openRecordOk, hopen, hb, Body.operation, number, holdings]
    | receipt d => simp [openRecordOk, hopen, hb, Body.operation, number, holdings]
    | reconcile d => simp [openRecordOk, hopen, hb, Body.operation, number, holdings, Option.any_eq_true]
    | adjust d => simp [openRecordOk, hopen, hb, Body.operation, number]
    | fault d => simp [openRecordOk, hopen, hb, Body.operation, number]

theorem recordsOk_iff (s : State) : recordsOk s = true ↔ Records (holdings s) := by
  have hbacked : s.jnl.ring.all (openRecordOk s) = true ↔
      ∀ p ∈ (holdings s).opens, (holdings s).number p.2 = some p.1 := by
    simp only [List.all_eq_true, openRecordOk_iff, holdings, openRecords, List.forall_mem_map, List.mem_filter, and_imp]
  have hshadow (h : Hose) : shadowOk s h = true ↔ (holdings s).shadow h = ((holdings s).stake h).map (·.seq) := by
    cases hd : (hoseCtx s h).dispense <;> simp [shadowOk, holdings, hd, Dispense.stake]
  have hreceipt : receiptShadowOk s = true ↔ (holdings s).receiptShadow = (holdings s).docket.map (·.2) := by
    cases hd : s.rcp.receipt.docket <;> simp [receiptShadowOk, holdings, hd]
  simp only [recordsOk, Bool.and_eq_true, hbacked, hshadow, hreceipt]
  constructor
  · rintro ⟨⟨⟨hb, h1⟩, h2⟩, hr⟩
    exact ⟨hb, fun h => by cases h <;> assumption, hr⟩
  · rintro ⟨hb, hs, hr⟩
    exact ⟨⟨⟨hb, hs .h1⟩, hs .h2⟩, hr⟩

/-! ## What the journal's operations do to the OPEN records -/

theorem openRecords_append (j : Jnl) (r : Record) (n : Nat) :
    openRecords { j with ring := j.ring ++ [r], nextSeq := n } =
      openRecords j ++ if r.isOpen then [(r.seq, r.body.operation)] else [] := by
  cases hr : r.isOpen <;> simp [openRecords, List.filter_append, hr]

theorem openRecords_appended (s : State) (body : Body) :
    openRecords (appended s false body) = openRecords s.jnl ++ [(s.jnl.nextSeq, body.operation)] := by
  rw [appended, openRecords_append]
  rfl

theorem openRecords_takeSlot_closed (body : Body) (openTime closeTime : Nat) (s : State) :
    openRecords (takeSlot body openTime (some closeTime) s).jnl = openRecords s.jnl := by
  rw [takeSlot_jnl, openRecords_append]
  exact List.append_nil _

/-- A change of records under their numbers and operations that closes those of one number. -/
theorem openRecords_map {j : Jnl} {f : Record → Record} {keep : Nat → Bool}
    (hopen : ∀ r, r.isOpen = true → ((f r).isOpen = keep r.seq ∧
      (keep r.seq = true → (f r).seq = r.seq ∧ (f r).body.operation = r.body.operation)))
    (hclosed : ∀ r, r.isOpen = false → f r = r) :
    openRecords { j with ring := j.ring.map f } = (openRecords j).filter fun p => keep p.1 := by
  simp only [openRecords]
  induction j.ring with
  | nil => rfl
  | cons r rest ih =>
    cases hr : r.isOpen with
    | false => simpa [hclosed r hr, hr] using ih
    | true =>
      obtain ⟨hkeep, hsame⟩ := hopen r hr
      cases hk : keep r.seq with
      | false => simpa [hkeep, hk, hr] using ih
      | true =>
        obtain ⟨hseq, hop⟩ := hsame hk
        simpa [hkeep, hk, hr, hseq, hop] using ih

theorem openRecords_closeRecord (seq : Nat) (f : Body → Body) (s : State) :
    openRecords (closeRecord seq f s).jnl = (openRecords s.jnl).filter fun p => p.1 != seq := by
  refine openRecords_map (keep := fun n => n != seq) (fun r hr => ?_) fun r hr => by simp [hr]
  by_cases hseq : r.seq = seq
  · simp only [hr, hseq, beq_self_eq_true, Bool.and_self, if_true]
    simp [Record.isOpen]
  · simp [hseq, hr]

theorem openRecords_amendRecord (seq : Nat) {f : Body → Body} (hf : ∀ b, (f b).operation = b.operation) (s : State) :
    openRecords (amendRecord seq f s).jnl = openRecords s.jnl := by
  refine (openRecords_map (keep := fun _ => true) (fun r hr => ?_) fun r hr => by simp [hr]).trans
    (List.filter_eq_self.mpr fun _ _ => rfl)
  by_cases hseq : r.seq = seq
  · rw [Record.isOpen] at hr
    simp [hr, hseq, Record.isOpen, hf]
  · simp [hseq, hr]

theorem openRecords_release (n : Nat) {j : Jnl} (closed : (j.ring.take n).any (·.isOpen) = false) :
    openRecords (release n j) = openRecords j := by
  have hfront : (j.ring.take n).filter (·.isOpen) = [] :=
    List.filter_eq_nil_iff.mpr fun r hr hopen => by
      rw [List.any_eq_false] at closed
      exact closed r hr hopen
  have hsplit : j.ring.filter (·.isOpen) = (j.ring.drop n).filter (·.isOpen) := by
    conv_lhs => rw [← List.take_append_drop n j.ring, List.filter_append, hfront, List.nil_append]
  rw [openRecords, openRecords, hsplit]
  rfl

theorem openRecords_recordFault (src : Source) (kind : FaultKind) (locked : Bool) (volume : Option Nat) (s : State) :
    openRecords (recordFault src kind locked volume s).jnl = openRecords s.jnl := by
  rw [recordFault_jnl]
  split
  · exact openRecords_takeSlot_closed _ _ _ s
  · rfl

/-! ## What each part of an operation does to the holdings -/

theorem apply_setHose {α β : Type} (g : α → β) (x : PerHose α) (h : Hose) (v : α) :
    (fun k => g ((x.set h v).get k)) = update (fun k => g (x.get k)) h (g v) := by
  funext k
  by_cases hk : k = h <;> simp [hk]

theorem apply_setMeter {α β : Type} (g : α → β) (x : PerMeter α) (m : MeterId) (v : α) :
    (fun k => g ((x.set m v).get k)) = update (fun k => g (x.get k)) m (g v) := by
  funext k
  by_cases hk : k = m <;> simp [hk]

theorem apply_setComp {α β : Type} (g : α → β) (x : PerComp α) (c : Comp) (v : α) :
    (fun k => g ((x.set c v).get k)) = update (fun k => g (x.get k)) c (g v) := by
  funext k
  by_cases hk : k = c <;> simp [hk]

/-- The holdings stand where the parts that they are of stand. -/
theorem holdings_congr (hmtr : ∀ m, (t.mtr.meters.get m).owned = (s.mtr.meters.get m).owned)
    (htpi : ∀ c, (t.tpi.reconciles.get c).map (·.seq) = (s.tpi.reconciles.get c).map (·.seq))
    (hbil : ∀ i, (contractorOf t i).committed = (contractorOf s i).committed)
    (hhoses : ∀ h, hasDispense (hoseCtx t h).state = hasDispense (hoseCtx s h).state ∧
      (hoseCtx t h).dispense.map Dispense.stake = (hoseCtx s h).dispense.map Dispense.stake)
    (hshadows : t.hsc.shadows = s.hsc.shadows) (hmap : t.hsc.map = s.hsc.map)
    (hstk : ∀ c, (t.stk.comps.get c).op = (s.stk.comps.get c).op)
    (hreceipt : t.rcp.receipt = s.rcp.receipt) (hshadow : t.rcp.shadow = s.rcp.shadow)
    (hopens : openRecords t.jnl = openRecords s.jnl) : holdings t = holdings s := by
  simp only [holdings, hmtr, htpi, hbil, hhoses, hshadows, hmap, hstk, hreceipt, hshadow, hopens]

theorem holdings_modHose (h : Hose) (f : HoseCtx → HoseCtx) (s : State) :
    holdings (modHose h f s) = { holdings s with
      holds := update (holdings s).holds h (hasDispense (f (hoseCtx s h)).state)
      stake := update (holdings s).stake h ((f (hoseCtx s h)).dispense.map Dispense.stake) } := by
  have hholds := apply_setHose (fun c : HoseCtx => hasDispense c.state) s.hsc.hoses h
    (f (s.hsc.hoses.get h))
  have hstake := apply_setHose (fun c : HoseCtx => c.dispense.map Dispense.stake) s.hsc.hoses h
    (f (s.hsc.hoses.get h))
  simp only [holdings, hoseCtx, ← hholds, ← hstake]
  rfl

theorem update_holds_self (h : Hose) (s : State) :
    update (holdings s).holds h (hasDispense (hoseCtx s h).state) = (holdings s).holds := Function.update_eq_self h _

theorem update_stake_self (h : Hose) (s : State) :
    update (holdings s).stake h ((hoseCtx s h).dispense.map Dispense.stake) = (holdings s).stake :=
  Function.update_eq_self h _

theorem holdings_modMeter (m : MeterId) (f : MeterState → MeterState) (s : State) :
    holdings (modMeter m f s) = { holdings s with
      owned := update (holdings s).owned m (f (s.mtr.meters.get m)).owned } := by
  simp only [holdings, ← apply_setMeter (fun x : MeterState => x.owned)]
  rfl

theorem holdings_modComp (c : Comp) (f : Compartment → Compartment) (s : State) :
    holdings (modComp c f s) = { holdings s with op := update (holdings s).op c (f (compartment s c)).op } := by
  simp only [holdings, ← apply_setComp (fun x : Compartment => x.op)]
  rfl

theorem holdings_setShadow (h : Hose) (w : Shadow) (s : State) :
    holdings (setShadow h w s) = { holdings s with
      shadow := update (holdings s).shadow h (if w.opened then some w.seq else none) } := by
  simp only [holdings, ← apply_setHose (fun w : Shadow => if w.opened then some w.seq else none)]
  rfl

theorem holdings_modReconciles (c : Comp) (k : Option ReconcileCtx) (f : Tpi → Tpi) (s : State)
    (hf : (f s.tpi).reconciles = s.tpi.reconciles.set c k) :
    holdings (modTpi f s) = { holdings s with
      reconcile := update (holdings s).reconcile c (k.map (·.seq)) } := by
  simp only [holdings, ← apply_setComp (fun k : Option ReconcileCtx => k.map (·.seq)), ← hf]
  rfl

theorem holdings_raise (e : Event) (s : State) : holdings (raise e s) = holdings s := rfl

theorem holdings_raiseIf (b : Bool) (e : Event) (s : State) : holdings (raiseIf b e s) = holdings s := by
  unfold raiseIf
  split <;> rfl

theorem holdings_modIdu (f : Idu → Idu) (s : State) : holdings (modIdu f s) = holdings s := rfl

theorem holdings_modReader (h : Hose) (f : Reader → Reader) (s : State) : holdings (modReader h f s) = holdings s := rfl

theorem holdings_modCal (f : Cal → Cal) (s : State) : holdings (modCal f s) = holdings s := rfl

theorem holdings_modMtb (f : Mtb → Mtb) (s : State) : holdings (modMtb f s) = holdings s := rfl

theorem holdings_refreshReader (h : Hose) (s : State) : holdings (refreshReader h s) = holdings s := by
  unfold refreshReader
  split <;> rfl

theorem holdings_reloadIdle (src : IdleSource) (s : State) : holdings (reloadIdle src s) = holdings s :=
  holdings_congr (by simp) (by simp) (by simp [contractorOf]) (by simp [hoseCtx]) (by simp) (by simp) (by simp) (by simp)
    (by simp) (by simp)

theorem holdings_reserve (body : Body) (s : State) :
    holdings (reserve body s) = { holdings s with
      opens := (holdings s).opens ++ [(s.jnl.nextSeq, body.operation)] } := by
  have hopens := openRecords_appended s body
  rw [← reserve_jnl] at hopens
  simp [holdings, hopens, hoseCtx, contractorOf]

theorem holdings_closeRecord (seq : Nat) (f : Body → Body) (s : State) :
    holdings (closeRecord seq f s) = { holdings s with opens := (holdings s).opens.filter fun p => p.1 != seq } := by
  simp [holdings, openRecords_closeRecord, hoseCtx, contractorOf]

/-- A hose's shadow is saved, if at all, under the number of its dispense. -/
theorem changes_saveShadow (powerFail : Bool) (h : Hose) (s : State) :
    Changes (holdings s) (holdings (saveShadow powerFail h s)) := by
  unfold saveShadow
  split
  next d hd =>
    rw [holdings_setShadow]
    exact (Change.save (holdings s) h d.stake (by simp [holdings, hd])).changes
  next => exact .of_eq rfl

theorem changes_touchShadow (h : Hose) (s : State) : Changes (holdings s) (holdings (touchShadow h s)) := by
  unfold touchShadow
  split
  · exact changes_saveShadow _ h s
  · exact .of_eq rfl

/-- A hose that enters a state holds a dispense as the state has it, and its shadow may be saved. -/
theorem changes_enterState (h : Hose) (st : HoseState) (s : State) :
    Changes { holdings s with holds := update (holdings s).holds h (hasDispense st) } (holdings (enterState h st s)) := by
  have hctx : holdings (refreshReader h (modHose h (fun c => { c with state := st }) s)) =
      { holdings s with holds := update (holdings s).holds h (hasDispense st) } := by
    rw [holdings_refreshReader, holdings_modHose]
    dsimp only
    rw [update_stake_self]
  rw [← hctx]
  exact changes_touchShadow h _

theorem changes_saveReceiptShadow (powerFail : Bool) (s : State) :
    Changes (holdings s) (holdings (saveReceiptShadow powerFail s)) := by
  unfold saveReceiptShadow
  split
  next d hd => exact (Change.saveReceipt (holdings s) (d.comp, d.seq) (by simp [holdings, hd])).changes
  next => exact .of_eq rfl

theorem changes_enterReceipt (st : ReceiptState) (s : State) :
    Changes { holdings s with phase := st } (holdings (enterReceipt st s)) := by
  unfold enterReceipt
  rw [holdings_reloadIdle, holdings_raise]
  unfold touchReceiptShadow
  split
  · exact changes_saveReceiptShadow _ (modReceipt (fun r => { r with state := st }) s)
  · exact .of_eq rfl

/-! ## The operations as a whole -/

theorem holdings_commitAmount {i : Nat} (amount : Nat) (hi : s.bil.contractors[i]?.isSome = true) :
    holdings (commitAmount i amount s) = { holdings s with
      committed := fun j => (holdings s).committed j + if some i = some j then amount else 0 } := by
  have hlt : i < s.bil.contractors.length := by simpa using hi
  have hcommitted (j : Nat) : (contractorOf (commitAmount i amount s) j).committed =
      (contractorOf s j).committed + if some i = some j then amount else 0 := by
    rw [commitAmount, contractorOf_modContractor]
    by_cases hj : j = i
    · simp [hj, hlt]
    · simp [hj, Ne.symm hj]
  simp [holdings, hcommitted, hoseCtx]

theorem holdings_billingClose (i amount committed : Nat) (s : State) :
    holdings (billingClose i amount committed s) = { holdings s with
      committed := fun j => (holdings s).committed j - if some i = some j then committed else 0 } := by
  have hcommitted (j : Nat) : (contractorOf (billingClose i amount committed s) j).committed =
      (contractorOf s j).committed - if some i = some j then committed else 0 := by
    rw [billingClose, contractorOf_modContractor]
    by_cases hj : j = i
    · subst hj
      by_cases hlt : j < s.bil.contractors.length
      · simp [hlt]
      · simp [hlt, contractorOf]
    · simp [hj, Ne.symm hj]
  simp [holdings, hcommitted, hoseCtx]

theorem changes_openDispense (h : Hose) (d : Dispense) (s : State) :
    Changes { holdings s with
        holds := update (holdings s).holds h true, stake := update (holdings s).stake h (some d.stake)
        owned := update (holdings s).owned (hoseMeter h) true, shadow := update (holdings s).shadow h (some d.seq) }
      (holdings (openDispense h d s)) := by
  have hhose := holdings_modHose h (fun c => { c with dispense := some d, timer := none }) s
  have hsave : holdings (saveShadow false h (modMeter (hoseMeter h) takeOwnership
      (modHose h (fun c => { c with dispense := some d, timer := none }) s))) = { holdings s with
        stake := update (holdings s).stake h (some d.stake), owned := update (holdings s).owned (hoseMeter h) true
        shadow := update (holdings s).shadow h (some d.seq) } := by
    have hd : (hoseCtx (modMeter (hoseMeter h) takeOwnership
        (modHose h (fun c => { c with dispense := some d, timer := none }) s)) h).dispense = some d := by
      simp [hoseCtx, modHose]
    rw [saveShadow, hd]
    simp only [holdings_setShadow, holdings_modMeter, holdings_modHose]
    rw [update_holds_self]
    rfl
  unfold openDispense
  dsimp only
  split
  · refine Changes.trans (.of_eq ?_) (changes_enterState h .priming _)
    rw [holdings_modReader, hsave]
    rfl
  · refine Changes.trans (.of_eq ?_) (changes_enterState h .priming _)
    rw [hsave]
    rfl

theorem changes_reserveDispense {h : Hose} {d : Dispense} {record : DispenseRecord} (able : Reservable h d record s) :
    Changes (holdings s) (holdings (reserveDispense h d record s)) := by
  have htake : Changes (holdings s) ((holdings s).take h d.stake) :=
    (Change.take (holdings s) h d.stake able.rests able.comp able.receiving able.reconciling).changes
  have hdraw := holdings_modComp d.comp
    (fun c => { c with committed := c.committed + d.committedVolume, op := draw c.op }) (reserve (.dispense record) s)
  have hreserve := holdings_reserve (.dispense record) s
  unfold reserveDispense
  dsimp only
  split
  next g hg =>
    refine htake.trans (.trans (.of_eq ?_) (changes_openDispense h d _))
    have hcontractor := able.contractor g hg
    rw [holdings_commitAmount d.committedAmount (by simpa using hcontractor), hdraw, hreserve]
    simp [Holdings.take, Stake.of, Dispense.stake, hg, able.seq, able.hose, Body.operation, holdings, compartment]
  next hg =>
    refine htake.trans (.trans (.of_eq ?_) (changes_openDispense h d _))
    rw [hdraw, hreserve]
    simp [Holdings.take, Stake.of, Dispense.stake, hg, able.seq, able.hose, Body.operation, holdings, compartment]

theorem holdings_stockClose (c : Comp) (standard committed : Nat) (proving : Bool) (s : State) :
    holdings (stockClose c standard committed proving s) = { holdings s with
      op := update (holdings s).op c (endDraw ((holdings s).op c)) } := by
  have hbook : holdings (modComp c (bookClose standard committed proving) s) = { holdings s with
      op := update (holdings s).op c (endDraw ((holdings s).op c)) } := holdings_modComp _ _ _
  have hnotify (v : State) : holdings (modComp c (fun x => { x with notified := true }) v) = holdings v := by
    rw [holdings_modComp]
    exact congrArg (fun op => { holdings v with op := op }) (Function.update_eq_self c (holdings v).op)
  unfold stockClose
  dsimp only
  split
  · exact hbook
  · split
    · rw [holdings_raise, hnotify, holdings_raiseIf, hbook]
    · rw [holdings_raiseIf, hbook]

/-- The books at a close (R109): the draw ends, the commitment goes, and the records under the number close. -/
theorem holdings_bookDispense (k : Closing) (s : State) :
    holdings (bookDispense k s) = { holdings s with
      op := update (holdings s).op k.comp (endDraw ((holdings s).op k.comp))
      committed := fun j => (holdings s).committed j - if k.bill.map (·.1) = some j then k.committedAmount else 0
      opens := (holdings s).opens.filter fun p => p.1 != k.seq } := by
  obtain ⟨standard, amount, f, e⟩ := bookDispense_steps k s
  have hmachine : holdings (closeMachine k standard s) = holdings s :=
    holdings_congr (by simp) (by simp) (by simp [contractorOf]) (by simp [hoseCtx]) (by simp) (by simp) (by simp)
      (by simp) (by simp) (by simp)
  have hbill : holdings (closeBill k amount (closeMachine k standard s)) = { holdings s with
      committed := fun j => (holdings s).committed j - if k.bill.map (·.1) = some j then k.committedAmount else 0 } := by
    unfold closeBill
    split
    next i _ _ hb => rw [holdings_billingClose, hmachine, hb]; rfl
    next hb => rw [hmachine, hb]; rfl
  rw [e, holdings_closeRecord, holdings_stockClose, hbill]

theorem holdings_letGo (h : Hose) (result : Option ProvingResult) (s : State) :
    holdings (letGo h result s) = { holdings s with
      stake := update (holdings s).stake h none, shadow := update (holdings s).shadow h none } := by
  unfold letGo
  dsimp only
  split
  all_goals
    simp only [holdings_modHose, holdings_modReader, holdings_modCal, holdings_setShadow]
    exact congrArg (fun holds => { holdings s with
        holds := holds, stake := update (holdings s).stake h none, shadow := update (holdings s).shadow h none })
      (Function.update_eq_self h (holdings s).holds)

theorem hasDispense_restState (l : FaultLevel) : hasDispense (restState l) = false := by
  cases l <;> rfl

theorem changes_closeDispense {h : Hose} {d : Dispense} (hd : (hoseCtx s h).dispense = some d) :
    Changes (holdings s) (holdings (closeDispense h s)) := by
  obtain ⟨k, result, u, hk, hu, e⟩ := closeDispense_steps hd
  have hu : holdings u = holdings s := by rcases hu with rfl | rfl <;> rfl
  have hleave : Changes (holdings s) ((holdings s).leave h d.stake) :=
    (Change.leave (holdings s) h d.stake (by simp [holdings, hd])).changes
  rw [e, holdings_raise]
  refine hleave.trans (.trans (.of_eq ?_) (changes_enterState h _ _))
  rw [holdings_letGo, holdings_bookDispense, holdings_modMeter, hu, hasDispense_restState, hk.seq, hk.comp, hk.bill,
    hk.amount]
  rfl

theorem holdings_bookReceipt (seq : Nat) (c : Comp) (expected : Nat) (gross : Option Nat) (mean : Int)
    (level : Option Nat) (o : ReceiptOutcome) (s : State) :
    holdings (bookReceipt seq c expected gross mean level o s) = { holdings s with
      op := update (holdings s).op c .free, receiptShadow := none
      opens := (holdings s).opens.filter fun p => p.1 != seq } := by
  have hstock (standard : Nat) : holdings (stockReceipt c standard s) = { holdings s with
      op := update (holdings s).op c .free } := by
    rw [stockReceipt, holdings_modComp, evalReturn_op]
    rfl
  have hshut (v : State) : holdings (modRcp (fun x => { x with shadow := { x.shadow with opened := false } }) v) =
      { holdings v with receiptShadow := none } := rfl
  simp only [bookReceipt, holdings_raiseIf, holdings_raise, hshut, holdings_closeRecord, hstock]

theorem changes_closeReceiptNow (o : ReceiptOutcome) {d : Docket} (hd : s.rcp.receipt.docket = some d) :
    Changes (holdings s) (holdings (closeReceiptNow o s)) := by
  refine .trans (Change.closeReceipt (holdings s) (d.comp, d.seq) (by simp [holdings, hd])).changes (.of_eq ?_)
  have hempty (v : State) : holdings (modReceipt (fun _ => {}) v) =
      { holdings v with phase := .idle, docket := none, started := false } := rfl
  rw [closeReceiptNow, hd]
  simp only [holdings_reloadIdle, holdings_raise, hempty, holdings_bookReceipt]
  split
  next hs =>
    have hs : (holdings s).started = true := hs
    rw [holdings_modMeter, if_pos hs]
    rfl
  next hs =>
    have hs : ¬ (holdings s).started = true := hs
    rw [if_neg hs]

theorem changes_closeReceiptNow_any (o : ReceiptOutcome) (s : State) :
    Changes (holdings s) (holdings (closeReceiptNow o s)) := by
  cases hd : s.rcp.receipt.docket with
  | none => exact .of_eq (by simp [closeReceiptNow, hd])
  | some d => exact changes_closeReceiptNow o hd

theorem holdings_setInletFault (kind : FaultKind) (locked : Bool) (volume : Option Nat) (s : State) :
    holdings (setInletFault kind locked volume s) = holdings s := by
  have hrecord (level : FaultLevel) : openRecords
      (recordFault .inlet kind locked volume (modRcp (fun x => { x with fault := level }) s)).jnl = openRecords s.jnl :=
    openRecords_recordFault _ _ _ _ _
  refine holdings_congr (by simp) (by simp) (by simp [contractorOf]) (by simp [hoseCtx]) (by simp) (by simp) (by simp)
    (by simp) (by simp) ?_
  simpa [setInletFault] using hrecord _

theorem changes_enterSettling (o : ReceiptOutcome) (hruns : receiptRuns s.rcp.receipt.state = true) :
    Changes (holdings s) (holdings (enterSettling o s)) := by
  have htimer (v : State) : holdings (receiptTimer 20000 v) = holdings v := rfl
  have houtcome : holdings (modReceipt (fun r => { r with outcome := some o }) s) = holdings s := rfl
  have henter := changes_enterReceipt .settling (receiptTimer 20000 (modReceipt (fun r => { r with outcome := some o }) s))
  rw [htimer, houtcome] at henter
  exact .trans (Change.flow (holdings s) .settling hruns (.inr rfl)).changes henter

theorem changes_inletFault (kind : FaultKind) (volume : Option Nat) (s : State) :
    Changes (holdings s) (holdings (inletFault kind volume s)) := by
  have hset (locked : Bool) : Changes (holdings s) (holdings (setInletFault kind locked volume s)) :=
    .of_eq (holdings_setInletFault _ _ _ s)
  unfold inletFault
  split
  next hr => exact (hset false).trans (changes_enterSettling _ (by simp [hr, receiptRuns]))
  next hr => exact (hset false).trans (changes_enterSettling _ (by simp [hr, receiptRuns]))
  · split
    · exact (hset true).trans (changes_closeReceiptNow_any _ _)
    · exact hset false
  · exact hset _
  · exact hset _

theorem changes_openReceiptNow {c : Comp} (supplier : Nat) (number : List Byte) (expected : Nat)
    (idle : s.rcp.receipt.state = .idle) (free : (compartment s c).op = .free) :
    Changes (holdings s) (holdings (openReceiptNow c supplier number expected s)) := by
  refine .trans (Change.openReceipt (holdings s) c s.jnl.nextSeq idle free).changes ?_
  unfold openReceiptNow
  refine .trans (.of_eq ?_) (changes_enterReceipt .docketed _)
  have hsave (v : State) {d : Docket} (hd : v.rcp.receipt.docket = some d) :
      holdings (saveReceiptShadow false v) = { holdings v with receiptShadow := some d.seq } := by
    rw [saveReceiptShadow, hd]
    rfl
  have hdocket (f : Receipt → Receipt) (d : Docket) (hf : ∀ r, f r = { r with docket := some d }) (v : State) :
      holdings (modReceipt f v) = { holdings v with docket := some (d.comp, d.seq) } := by
    obtain rfl : f = fun r => { r with docket := some d } := funext hf
    rfl
  have hinlet (v : State) : holdings (modMtr (fun m => { m with inletComp := c }) v) = holdings v := rfl
  rw [hsave _ rfl, hdocket _ _ fun r => rfl, hinlet, holdings_reserve, holdings_modComp]
  rfl

end Sys2Proof.Machine
end

section
/-! PROOFS. Every move changes the holdings by a chain of their changes, and a start leaves them vacant: owners, claims,
commitments and OPEN records stay in order (R2, R58, R128, R173). -/

namespace Sys2Proof.Machine

open Holdings
open Function (update)

variable {may : Power → Prop} {s t u : State}

/-! ## The remaining operations -/

theorem changes_startReceiptNow (d : Docket) (x : Started) (docketed : s.rcp.receipt.state = .docketed) :
    Changes (holdings s) (holdings (startReceiptNow d x s)) := by
  refine .trans (Change.startReceipt (holdings s) docketed).changes ?_
  unfold startReceiptNow
  refine .trans (.of_eq ?_) (changes_enterReceipt .receiving _)
  have hstarted (f : Receipt → Receipt) (v : State)
      (hf : ∀ r, (f r).state = r.state ∧ (f r).docket = r.docket ∧ (f r).started.isSome = true) :
      holdings (modReceipt f v) = { holdings v with started := true } := by
    obtain ⟨hstate, hdocket, hisSome⟩ := hf v.rcp.receipt
    simp [holdings, modReceipt, hstate, hdocket, hisSome, hoseCtx, contractorOf]
  have hamend (f : Body → Body) (hf : ∀ b, (f b).operation = b.operation) (v : State) :
      holdings (amendRecord d.seq f v) = holdings v :=
    holdings_congr (by simp) (by simp) (by simp [contractorOf]) (by simp [hoseCtx]) (by simp) (by simp) (by simp)
      (by simp) (by simp) (openRecords_amendRecord d.seq hf v)
  rw [hstarted _ _ (by intro r; exact ⟨rfl, rfl, rfl⟩), hamend _ (fun b => by cases b <;> rfl), holdings_modMeter]
  rfl

theorem changes_startReconcile {c : Comp} (mode : ReconcileMode) (free : (compartment s c).op = .free) :
    Changes (holdings s) (holdings (startReconcile c mode s)) := by
  refine .trans (Change.startReconcile (holdings s) c s.jnl.nextSeq free).changes (.of_eq ?_)
  unfold startReconcile
  dsimp only
  rw [holdings_modReconciles c _ _ _ rfl, holdings_reserve, holdings_modComp]
  rfl

theorem changes_endReconcile {c : Comp} {k k' : ReconcileCtx} (o : ReconcileOutcome) (figures : Option DipFigures)
    (high : Bool) (runs : s.tpi.reconciles.get c = some k) (seq : k'.seq = k.seq) :
    Changes (holdings s) (holdings (endReconcile c k' o figures high s)) := by
  refine .trans (Change.endReconcile (holdings s) c k.seq (by simp [holdings, runs])).changes (.of_eq ?_)
  unfold endReconcile
  dsimp only
  rw [holdings_raise, holdings_modReconciles c none _ _ rfl, holdings_modComp, holdings_closeRecord, seq]
  rfl

theorem changes_clearHose {h : Hose} (rests : hasDispense (hoseCtx s h).state = false) :
    Changes (holdings s) (holdings (clearHose h s)) := by
  unfold clearHose
  refine .trans (.of_eq ?_) (changes_enterState h .idle _)
  have hsame (f : Pump → Pump) : holdings (setFault h .clear (modPump (hoseComp s h) f s)) = holdings s := rfl
  have hidle : update (holdings s).holds h (hasDispense .idle) = (holdings s).holds := by
    rw [← update_holds_self h s, rests]
    exact Function.update_idem _ _ _
  dsimp only
  rw [hsame, hidle]

/-- A receipt that keeps its docket and START changes its phase at most, and only as it flows. -/
theorem changes_modReceipt {f : Receipt → Receipt} (keeps : KeepsDocket s.rcp.receipt (f s.rcp.receipt)) :
    Changes (holdings s) (holdings (modReceipt f s)) := by
  have hphase : holdings (modReceipt f s) = { holdings s with phase := (f s.rcp.receipt).state } := by
    simp [holdings, modReceipt, keeps.docket, keeps.started, hoseCtx, contractorOf]
  rw [hphase]
  rcases keeps.state with hstate | ⟨hruns, hnext⟩
  · exact .of_eq (by rw [hstate]; rfl)
  · exact (Change.flow (holdings s) _ hruns hnext).changes

/-! ## Every move -/

/-- Every move changes the holdings by a chain of their changes. -/
theorem Move.holdings (h : Move may s t) : Changes (holdings s) (holdings t) := by
  cases h
  case tpi f seqs =>
    exact .of_eq (holdings_congr (by simp) seqs (by simp [contractorOf]) (by simp [hoseCtx]) (by simp) (by simp)
      (by simp) (by simp) (by simp) (by simp))
  case bil f committed product =>
    exact .of_eq (holdings_congr (by simp) (by simp) committed (by simp [hoseCtx]) (by simp) (by simp) (by simp)
      (by simp) (by simp) (by simp))
  case hose h f keeps =>
    rw [holdings_modHose, keeps.held, keeps.stake, update_holds_self, update_stake_self]
    exact .of_eq rfl
  case shadow h d w opened seq dispense =>
    rw [holdings_setShadow, opened, seq]
    exact (Change.save (Machine.holdings s) h d.stake (by simp [Machine.holdings, dispense])).changes
  case hsc f hoses faults shadows map =>
    exact .of_eq (holdings_congr (by simp) (by simp) (by simp [contractorOf]) (by simp [hoseCtx, hoses]) shadows map
      (by simp) (by simp) (by simp) (by simp))
  case meter m f keeps =>
    rw [holdings_modMeter, keeps.owned]
    exact .of_eq (congrArg (fun owned => { Machine.holdings s with owned := owned }) (Function.update_eq_self m _))
  case comp c f op params strapping =>
    rw [holdings_modComp, op]
    exact .of_eq (congrArg (fun op => { Machine.holdings s with op := op }) (Function.update_eq_self c _))
  case receipt f keeps => exact changes_modReceipt keeps
  case receiptShadow d w opened seq docket =>
    have hsave : Machine.holdings (modRcp (fun x => { x with shadow := w }) s) =
        { Machine.holdings s with receiptShadow := if w.opened then some w.seq else none } := rfl
    rw [hsave, opened, seq]
    exact (Change.saveReceipt (Machine.holdings s) (d.comp, d.seq) (by simp [Machine.holdings, docket])).changes
  case record body openTime closeTime slot =>
    exact .of_eq (holdings_congr (by simp) (by simp) (by simp [contractorOf]) (by simp [hoseCtx]) (by simp) (by simp)
      (by simp) (by simp) (by simp) (openRecords_takeSlot_closed _ _ _ s))
  case release n power closed inRing =>
    exact .of_eq (holdings_congr (by simp) (by simp) (by simp [contractorOf]) (by simp [hoseCtx]) (by simp) (by simp)
      (by simp) (by simp) (by simp) (openRecords_release n closed))
  case reserveDispense able => exact changes_reserveDispense able
  case closeDispense dispense => exact changes_closeDispense dispense
  case clearHose rests power => exact changes_clearHose rests
  case openReceipt idle free slot => exact changes_openReceiptNow _ _ _ idle free
  case startReceipt docketed docket sound => exact changes_startReceiptNow _ _ docketed
  case closeReceipt docket => exact changes_closeReceiptNow _ docket
  case inletFault => exact changes_inletFault _ _ s
  case startReconcile free slot => exact changes_startReconcile _ free
  case endReconcile seq runs => exact changes_endReconcile _ _ _ runs seq
  case meterParams m f power =>
    rw [holdings_modMeter]
    exact .of_eq (congrArg (fun owned => { Machine.holdings s with owned := owned }) (Function.update_eq_self m _))
  case hoseMap h c power rest =>
    refine .trans (Change.mapHose (Machine.holdings s) h c rest).changes (.of_eq ?_)
    simp only [Machine.holdings, ← apply_setHose (fun c : Comp => c)]
    rfl
  case compParams c f power =>
    rw [holdings_modComp]
    exact .of_eq (congrArg (fun op => { Machine.holdings s with op := op }) (Function.update_eq_self c _))
  case strapping c points power =>
    rw [holdings_modComp]
    exact .of_eq (congrArg (fun op => { Machine.holdings s with op := op }) (Function.update_eq_self c _))
  all_goals exact .of_eq rfl

/-! ## The starts -/

theorem vacant_volatileReset (s : State) : Vacant (holdings (volatileReset s)) where
  holds h := by cases h <;> exact hasDispense_restState _
  stake h := by cases h <;> rfl
  owned m := by cases m <;> rfl
  phase := rfl
  docket := rfl
  started := rfl
  reconcile c := by cases c <;> rfl
  op c := by cases c <;> rfl
  committed i := by
    simp only [Machine.holdings, contractorOf, volatileReset, List.getElem?_map]
    cases s.bil.contractors[i]? <;> rfl

/-- The close of the books takes nothing up. -/
theorem vacant_bookDispense {k : Closing} (hs : Vacant (holdings s)) : Vacant (holdings (bookDispense k s)) := by
  rw [holdings_bookDispense]
  refine { hs with op := fun c => ?_, committed := fun i => by simp [hs.committed] }
  by_cases hc : c = k.comp
  · subst hc
    simp [hs.op, endDraw]
  · simp [hc, hs.op]

theorem vacant_bookReceipt {seq : Nat} {c : Comp} {expected : Nat} {gross : Option Nat} {mean : Int} {level : Option Nat}
    {o : ReceiptOutcome} (hs : Vacant (holdings s)) :
    Vacant (holdings (bookReceipt seq c expected gross mean level o s)) := by
  rw [holdings_bookReceipt]
  refine { hs with op := fun k => ?_ }
  by_cases hk : k = c <;> simp [hk, hs.op]

theorem holdings_totalise (m : MeterId) (pulses gross : Nat) (s : State) :
    holdings (modMeter m (totalise pulses gross) s) = holdings s := by
  rw [holdings_modMeter]
  exact congrArg (fun owned => { Machine.holdings s with owned := owned }) (Function.update_eq_self m _)

theorem vacant_startupClose (h : Hose) (hs : Vacant (holdings s)) : Vacant (holdings (startupClose h s)) := by
  have hshut {v : State} (w : Shadow) (hv : Vacant (holdings v)) : Vacant (holdings (setShadow h w v)) := { hv with }
  cases hopen : (s.hsc.shadows.get h).opened with
  | false => exact (startupClose_closed hopen).symm ▸ hs
  | true =>
    rcases startupClose_steps hopen with ⟨k, pulses, gross, -, -, e⟩ | ⟨-, e⟩ <;> rw [e, holdings_raise]
    · exact hshut _ (vacant_bookDispense ((holdings_totalise _ pulses gross s).symm ▸ hs))
    · exact hshut _ hs

theorem vacant_startupReceipt (hs : Vacant (holdings s)) : Vacant (holdings (startupReceipt s)) := by
  unfold startupReceipt
  dsimp only
  split
  · split
    · split
      · exact vacant_bookReceipt ((holdings_totalise .mi _ _ s).symm ▸ hs)
      · exact vacant_bookReceipt hs
    · exact { hs with }
  · exact hs

/-- What of the holdings no close of a record touches. -/
theorem vacant_closeRecord (seq : Nat) (f : Body → Body) (hs : Vacant (holdings s)) :
    Vacant (holdings (closeRecord seq f s)) := by
  rw [holdings_closeRecord]
  exact { hs with }

theorem vacant_startupReconcile (r : Record) (hs : Vacant (holdings s)) : Vacant (holdings (startupReconcile r s)) := by
  unfold startupReconcile
  split
  · rw [holdings_raise]
    exact vacant_closeRecord _ _ hs
  · exact hs

theorem vacant_startupReconciles (hs : Vacant (holdings s)) : Vacant (holdings (startupReconciles s)) :=
  List.foldlRecOn s.jnl.ring (fun v r => startupReconcile r v) (motive := fun v => Vacant (holdings v)) hs
    fun _ hv r _ => vacant_startupReconcile r hv

/-- What stands before the close of the books in a start. -/
def beforeBooks (s : State) : State := expireWatches (evalRollover (raiseIf (inputActive s .supplyLow) .supplyLow s))

theorem beforeBooks_jnl (s : State) : (beforeBooks s).jnl = s.jnl := by simp [beforeBooks]

/-- It touches no holdings. -/
theorem holdings_beforeBooks (s : State) : holdings (beforeBooks s) = holdings s :=
  holdings_congr (by simp [beforeBooks]) (by simp [beforeBooks]) (by simp [beforeBooks, contractorOf])
    (by simp [beforeBooks, hoseCtx]) (by simp [beforeBooks]) (by simp [beforeBooks]) (by simp [beforeBooks])
    (by simp [beforeBooks]) (by simp [beforeBooks]) (by simp [beforeBooks])

theorem Moves.changes (h : Moves (fun _ => False) s t) : Changes (holdings s) (holdings t) := by
  refine h.preserves (P := fun u => Changes (holdings s) (holdings u)) (fun u v huv hu => ?_) (.of_eq rfl)
  cases huv with
  | move hm => exact hu.trans hm.holdings
  | reset _ _ _ _ power => exact power.elim
  | restart _ power => exact power.elim

/-- A start leaves the holdings vacant at the close of the books. -/
theorem vacant_closeBooks (hs : Vacant (holdings s)) : Vacant (holdings (closeBooks (beforeBooks s))) :=
  closeBooks_preserves (P := fun v => Vacant (holdings v)) (fun h _ => vacant_startupClose h) (fun _ hv => hv)
    (fun _ => vacant_startupReceipt) (fun _ => vacant_startupReconciles) _ ((holdings_beforeBooks s).symm ▸ hs)

/-- After it a start only changes the holdings. -/
theorem changes_startUp (lost : Bool) (s : State) :
    Changes (holdings (closeBooks (beforeBooks s))) (holdings (startUp lost s)) :=
  (moves_startUp_after lost s).changes

/-- The state that a start goes out from, with nothing in progress, and the journal and the shadows as they were. -/
structure Stopped (s u : State) : Prop where
  vacant : Vacant (holdings u)
  jnl : u.jnl = s.jnl
  shadows : u.hsc.shadows = s.hsc.shadows
  receiptShadow : u.rcp.shadow = s.rcp.shadow

theorem Stopped.of_frame (hmtr : u.mtr = (volatileReset s).mtr) (htpi : u.tpi = (volatileReset s).tpi)
    (hbil : u.bil = (volatileReset s).bil) (hhsc : u.hsc = (volatileReset s).hsc) (hstk : u.stk = (volatileReset s).stk)
    (hrcp : u.rcp = (volatileReset s).rcp) (hjnl : u.jnl = (volatileReset s).jnl) : Stopped s u where
  vacant := by
    have hsame : holdings u = holdings (volatileReset s) := by
      simp only [Machine.holdings, hoseCtx, contractorOf, hmtr, htpi, hbil, hhsc, hstk, hrcp, hjnl]
    exact hsame ▸ vacant_volatileReset s
  jnl := hjnl
  shadows := by rw [hhsc]; rfl
  receiptShadow := by rw [hrcp]; rfl

/-- A leap is a move, or a start from a state in which all has stopped. -/
theorem Leap.stopped (h : Leap may s t) : Move may s t ∨ ∃ lost u, Stopped s u ∧ t = startUp lost u := by
  cases h with
  | move hm => exact .inl hm
  | restart => exact .inr ⟨false, _, .of_frame (by simp) (by simp) (by simp) (by simp) (by simp) (by simp) (by simp), rfl⟩
  | reset levels kept downtime =>
    exact .inr ⟨!kept, _, .of_frame (by simp) (by simp) (by simp) (by simp) (by simp) (by simp) (by simp), rfl⟩

/-! ## Owners, claims and commitments -/

/-- What every change keeps and every vacant part has, every leap keeps. -/
theorem Leap.holdings_keep {P : Holdings → Prop} (hchanges : ∀ x y, Changes x y → P x → P y) (hvacant : ∀ x, Vacant x → P x)
    (h : Leap may s t) (hs : P (holdings s)) : P (holdings t) := by
  rcases h.stopped with hm | ⟨lost, u, hu, rfl⟩
  · exact hchanges _ _ hm.holdings hs
  · exact hchanges _ _ (changes_startUp lost u) (hvacant _ (vacant_closeBooks hu.vacant))

theorem step_holdings_keep {P : Holdings → Prop} (hchanges : ∀ x y, Changes x y → P x → P y)
    (hvacant : ∀ x, Vacant x → P x) (h : step s = .next t) (hs : P (holdings s)) : P (holdings t) :=
  step_preserves (P := fun u => P (holdings u)) (fun _ _ _ hl => hl.holdings_keep hchanges hvacant) (fun _ _ hu => hu) h hs

/-- Settles O8, from the changes of the holdings. -/
theorem ownersStayConsistent : Obligations.OwnersStayConsistent := by
  intro s t hs hstep
  rw [ownersOk_iff] at hs ⊢
  exact step_holdings_keep (fun _ _ hc hx => hx.changes hc) (fun _ hx => hx.owners) hstep hs

/-- A claimed compartment has no hose mapped to it that holds a dispense. -/
theorem rests_of_claimed {c : Comp} {h : Hose} (ho : Owners (holdings s)) (hk : Claims (holdings s))
    (hclaimed : (compartment s c).op = .receiving ∨ (compartment s c).op = .reconciling) (hmap : hoseComp s h = c) :
    hasDispense (hoseCtx s h).state = false := by
  have hzero : (holdings s).drawCount c = 0 := by
    have hop : (holdings s).op c = .receiving ∨ (holdings s).op c = .reconciling := hclaimed
    cases hk.claim c with
    | receiving _ _ hzero _ => exact hzero
    | reconciling _ _ hzero _ => exact hzero
    | free _ _ hzero _ => exact hzero
    | drawn _ _ n _ e => simp [e] at hop
  have hnone : (holdings s).draws c h = false := by
    cases hd : (holdings s).draws c h with
    | false => rfl
    | true => cases h <;> simp [Holdings.drawCount, hd, boolCode] at hzero
  have hstake := ho.stake h
  cases hd : (holdings s).stake h with
  | none => exact (hd ▸ hstake).symm
  | some k =>
    have hcomp : k.comp = c := (hk.mapped h k hd).trans hmap
    simp [draws, hd, hcomp] at hnone

/-- Settles O9, from the changes of the holdings. -/
theorem claimsStayExclusive : Obligations.ClaimsStayExclusive := by
  refine ⟨fun s t ho hs hstep => ?_, fun s c h ho hs hclaimed hmap => ?_⟩
  · rw [ownersOk_iff] at ho
    rw [claimsOk_iff] at hs ⊢
    exact (step_holdings_keep (P := fun x => Owners x ∧ Claims x)
      (fun _ _ hc hx => ⟨hx.1.changes hc, hx.2.changes hx.1 hc⟩) (fun _ hx => ⟨hx.owners, hx.claims⟩) hstep ⟨ho, hs⟩).2
  · exact rests_of_claimed ((ownersOk_iff s).mp ho) ((claimsOk_iff s).mp hs) hclaimed hmap

/-- Settles O10, from the changes of the holdings. -/
theorem commitmentsStaySummed : Obligations.CommitmentsStaySummed := by
  intro s t ho hs hstep
  rw [ownersOk_iff] at ho
  rw [contractorOk_iff] at hs ⊢
  exact (step_holdings_keep (P := fun x => Owners x ∧ Committed x)
    (fun _ _ hc hx => ⟨hx.1.changes hc, hx.2.changes hx.1 hc⟩) (fun _ hx => ⟨hx.owners, hx.committed_shares⟩) hstep
    ⟨ho, hs⟩).2

end Sys2Proof.Machine
end

section
/-! PROOFS. A start closes every OPEN record (R123, R151, R157), so that OPEN records keep their shadows and reconciles
(R173). -/

namespace Sys2Proof.Machine

open Holdings
open Function (update)

variable {may : Power → Prop} {s t u : State}

/-! ## The numbers of the ring -/

/-- The number `d` places behind a number (R159). -/
def numberAhead (n d : Nat) : Nat := if n ≤ max32 ∧ max32 < n + d then n + d - max32 else n + d

theorem numberAhead_next {n d : Nat} (hd : d ≤ 1024) : numberAhead (nextNumber n) d = numberAhead n (d + 1) := by
  have hmax : max32 = 4294967295 := rfl
  unfold numberAhead nextNumber
  split_ifs <;> omega

theorem numberAhead_ne {n d : Nat} (hpos : 0 < d) (hd : d ≤ 1024) : numberAhead n d ≠ n := by
  have hmax : max32 = 4294967295 := rfl
  unfold numberAhead
  split_ifs <;> omega

theorem exists_numberAhead {next n : Nat} {l : List Record} (h : consecutive next n l = true) (hl : l.length ≤ 1024) :
    ∀ r ∈ l, ∃ d < l.length, r.seq = numberAhead n d := by
  induction l generalizing n with
  | nil => simp
  | cons x rest ih =>
    simp only [consecutive, Bool.and_eq_true, beq_iff_eq] at h
    simp only [List.length_cons] at hl ⊢
    intro r hr
    rcases List.mem_cons.mp hr with rfl | hr
    · exact ⟨0, by omega, by simp [h.1, numberAhead]⟩
    · obtain ⟨d, hd, e⟩ := ih h.2 (by omega) r hr
      exact ⟨d + 1, by omega, by rw [e, numberAhead_next (by omega)]⟩

theorem pairwise_seq_of_consecutive {next n : Nat} {l : List Record} (h : consecutive next n l = true)
    (hl : l.length ≤ 1024) : l.Pairwise fun r r' => r'.seq ≠ r.seq := by
  induction l generalizing n with
  | nil => exact .nil
  | cons x rest ih =>
    simp only [consecutive, Bool.and_eq_true, beq_iff_eq] at h
    simp only [List.length_cons] at hl
    refine .cons (fun r hr => ?_) (ih h.2 (by omega))
    obtain ⟨d, hd, e⟩ := exists_numberAhead h.2 (by omega) r hr
    rw [e, h.1, numberAhead_next (by omega)]
    exact numberAhead_ne (by omega) (by omega)

/-- No two records of the ring have the same number (R158). -/
theorem eq_of_seq_eq {j : Jnl} (hj : ringOk j = true) {r r' : Record} (hr : r ∈ j.ring) (hr' : r' ∈ j.ring)
    (hseq : r.seq = r'.seq) : r = r' := by
  simp only [ringOk, Bool.and_eq_true, decide_eq_true_eq] at hj
  by_contra hne
  have : Std.Symm fun a b : Record => b.seq ≠ a.seq := ⟨fun _ _ h => h.symm⟩
  exact (pairwise_seq_of_consecutive hj.2 hj.1.1).forall hr hr' hne hseq.symm

/-- An OPEN record is found by its number. -/
theorem findOpen_eq {j : Jnl} (hj : ringOk j = true) {r : Record} (hr : r ∈ j.ring) (hopen : r.isOpen = true) :
    findOpen j r.seq = some r := by
  cases hf : findOpen j r.seq with
  | none => simpa [hopen] using List.find?_eq_none.mp hf r hr
  | some r' =>
    have hseq : r'.seq = r.seq := by
      have := List.find?_some hf
      simp only [Bool.and_eq_true, beq_iff_eq] at this
      exact this.1
    rw [eq_of_seq_eq hj (List.mem_of_find?_eq_some hf) hr hseq]

/-- An entry of the OPEN records is that of a record, found by its number. -/
theorem findOpen_of_mem_openRecords {j : Jnl} (hj : ringOk j = true) {p : Nat × Option Operation}
    (hp : p ∈ openRecords j) : ∃ r, findOpen j p.1 = some r ∧ r.body.operation = p.2 := by
  obtain ⟨r, hr, rfl⟩ := List.mem_map.mp hp
  obtain ⟨hr, hopen⟩ := List.mem_filter.mp hr
  exact ⟨r, findOpen_eq hj hr hopen, rfl⟩

theorem exists_dispense_of_operation {b : Body} {h : Hose} (hb : b.operation = some (.hose h)) : ∃ d, b = .dispense d := by
  cases b <;> simp_all [Body.operation]

theorem exists_receipt_of_operation {b : Body} (hb : b.operation = some .receipt) : ∃ r, b = .receipt r := by
  cases b <;> simp_all [Body.operation]

/-! ## The close of the books -/

/-- An entry of the OPEN records is that of a reconcile. -/
def IsReconcile (p : Nat × Option Operation) : Prop := ∃ c, p.2 = some (.reconcile c)

/-- While a start closes the books: every OPEN record but those of reconciles has its shadow open still. -/
def Backed (x : Holdings) : Prop := ∀ p ∈ x.opens, IsReconcile p ∨ x.number p.2 = some p.1

/-- Where the records of one operation are gone and its shadow is closed, the others are backed as before. -/
theorem Backed.close {x y : Holdings} {o : Operation} (hx : Backed x) (hsub : ∀ p ∈ y.opens, p ∈ x.opens)
    (hgone : ∀ p ∈ y.opens, p.2 ≠ some o) (hother : ∀ o', o' ≠ some o → y.number o' = x.number o') : Backed y := by
  intro p hp
  rcases hx p (hsub p hp) with hr | hn
  · exact .inl hr
  · exact .inr ((hother _ (hgone p hp)).trans hn)

/-- With the shadows of one operation closed, its records are gone where all under the shadow's number close. -/
theorem gone_of_filter {x y : Holdings} {o : Operation} {n : Nat} (hx : Backed x) (ho : ∀ c, o ≠ .reconcile c)
    (hn : x.number (some o) = some n) (hopens : y.opens = x.opens.filter fun p => p.1 != n) :
    ∀ p ∈ y.opens, p.2 ≠ some o := by
  intro p hp hpo
  rw [hopens, List.mem_filter, bne_iff_ne] at hp
  rcases hx p hp.1 with ⟨c, hc⟩ | hnum
  · exact ho c (Option.some.inj (hpo.symm.trans hc))
  · rw [hpo, hn] at hnum
    exact hp.2 (Option.some.inj hnum).symm

theorem number_setHose {x y : Holdings} {h : Hose} (hshadow : y.shadow = update x.shadow h none)
    (hreceipt : y.receiptShadow = x.receiptShadow) (hreconcile : y.reconcile = x.reconcile) (o : Option Operation)
    (ho : o ≠ some (.hose h)) : y.number o = x.number o := by
  match o with
  | none => rfl
  | some (.hose g) =>
    have hg : g ≠ h := by rintro rfl; exact ho rfl
    simp [number, hshadow, hg]
  | some .receipt => exact hreceipt
  | some (.reconcile c) => exact congrFun hreconcile c

theorem shadow_holdings (h : Hose) (s : State) :
    (holdings s).shadow h = if (s.hsc.shadows.get h).opened then some (s.hsc.shadows.get h).seq else none := rfl

/-- The close of a hose's open shadow leaves no OPEN record of it. -/
theorem startupClose_closes (h : Hose) (hring : ringOk s.jnl = true) (hs : Backed (holdings s)) :
    Backed (holdings (startupClose h s)) ∧
      (holdings (startupClose h s)).shadow = update (holdings s).shadow h none ∧
      (holdings (startupClose h s)).receiptShadow = (holdings s).receiptShadow := by
  cases hopen : (s.hsc.shadows.get h).opened with
  | false =>
    rw [startupClose_closed hopen]
    refine ⟨hs, ?_, rfl⟩
    rw [eq_comm, Function.update_eq_self_iff, shadow_holdings, hopen]
    rfl
  | true =>
    have hn : (holdings s).number (some (.hose h)) = some (s.hsc.shadows.get h).seq := by
      simp [number, shadow_holdings, hopen]
    have hshut (v : State) : holdings (setShadow h { s.hsc.shadows.get h with opened := false } v) =
        { holdings v with shadow := update (holdings v).shadow h none } := holdings_setShadow h _ v
    rcases startupClose_steps hopen with ⟨k, pulses, gross, hseq, -, e⟩ | ⟨hnone, e⟩ <;>
      rw [e, holdings_raise, hshut]
    · rw [holdings_bookDispense, holdings_totalise, hseq]
      refine ⟨hs.close (fun p hp => (List.mem_filter.mp hp).1)
        (gone_of_filter hs (o := .hose h) (fun _ => by simp) hn rfl) (number_setHose rfl rfl rfl), rfl, rfl⟩
    · refine ⟨hs.close (fun p hp => hp) (fun p hp hpo => ?_) (number_setHose rfl rfl rfl), rfl, rfl⟩
      obtain ⟨r, hr, hop⟩ := findOpen_of_mem_openRecords hring hp
      obtain ⟨d, hd⟩ := exists_dispense_of_operation (hop.trans hpo)
      have hp1 : p.1 = (s.hsc.shadows.get h).seq := by
        rcases hs p hp with ⟨c, hc⟩ | hnum
        · simp [hpo] at hc
        · rw [hpo, hn] at hnum
          exact (Option.some.inj hnum).symm
      exact hnone d (by rw [← hp1, hr, Option.map_some, hd])

theorem number_setReceipt {x y : Holdings} (hshadow : y.shadow = x.shadow) (hreconcile : y.reconcile = x.reconcile)
    (o : Option Operation) (ho : o ≠ some .receipt) : y.number o = x.number o := by
  match o with
  | none => rfl
  | some (.hose g) => exact congrFun hshadow g
  | some .receipt => exact absurd rfl ho
  | some (.reconcile c) => exact congrFun hreconcile c

/-- The close of an open receipt shadow leaves no OPEN record of a receipt. -/
theorem startupReceipt_closes (hring : ringOk s.jnl = true) (hs : Backed (holdings s)) :
    Backed (holdings (startupReceipt s)) ∧ (holdings (startupReceipt s)).shadow = (holdings s).shadow ∧
      (holdings (startupReceipt s)).receiptShadow = none := by
  have hnumber (v : State) : (holdings v).number (some .receipt) =
      if v.rcp.shadow.opened then some v.rcp.shadow.seq else none := rfl
  have hbook {v : State} (hv : holdings v = holdings s) (hopen : s.rcp.shadow.opened = true) {c : Comp} {e : Nat}
      {gross : Option Nat} {mean : Int} {level : Option Nat} {o : ReceiptOutcome} :
      Backed (holdings (bookReceipt s.rcp.shadow.seq c e gross mean level o v)) ∧
        (holdings (bookReceipt s.rcp.shadow.seq c e gross mean level o v)).shadow = (holdings s).shadow ∧
        (holdings (bookReceipt s.rcp.shadow.seq c e gross mean level o v)).receiptShadow = none := by
    rw [holdings_bookReceipt, hv]
    exact ⟨hs.close (fun p hp => (List.mem_filter.mp hp).1)
      (gone_of_filter hs (o := .receipt) (fun _ => by simp) (by rw [hnumber, hopen]; rfl) rfl)
      (number_setReceipt rfl rfl), rfl, rfl⟩
  unfold startupReceipt
  dsimp only
  split
  next hopen =>
    split
    · split
      · exact hbook (holdings_totalise _ _ _ s) hopen
      · exact hbook rfl hopen
    next hnone =>
      have hshut : holdings (raise .receiptClosed (modRcp (fun x => { x with shadow := { x.shadow with opened := false } }) s)) =
          { holdings s with receiptShadow := none } := rfl
      rw [hshut]
      refine ⟨hs.close (fun p hp => hp) (fun p hp hpo => ?_) (number_setReceipt rfl rfl), rfl, rfl⟩
      obtain ⟨r, hr, hop⟩ := findOpen_of_mem_openRecords hring hp
      obtain ⟨d, hd⟩ := exists_receipt_of_operation (hop.trans hpo)
      have hp1 : p.1 = s.rcp.shadow.seq := by
        rcases hs p hp with ⟨c, hc⟩ | hnum
        · simp [hpo] at hc
        · rw [hpo, hnumber, hopen] at hnum
          exact (Option.some.inj hnum).symm
      exact hnone d (by rw [← hp1, hr, Option.map_some, hd])
  next hopen => exact ⟨hs, rfl, by rw [holdings]; simp [hopen]⟩

/-- The close of the reconciles leaves no OPEN record of one. -/
theorem mem_openRecords_reconciles (l : List Record) (s : State) {p : Nat × Option Operation}
    (hp : p ∈ openRecords (l.foldl (fun v r => startupReconcile r v) s).jnl) :
    p ∈ openRecords s.jnl ∧ ∀ r ∈ l, r.isOpen = true → (∃ c, r.body.operation = some (.reconcile c)) → p.1 ≠ r.seq := by
  induction l generalizing s with
  | nil => exact ⟨hp, by simp⟩
  | cons x rest ih =>
    obtain ⟨hx, hrest⟩ := ih (startupReconcile x s) hp
    have hone : p ∈ openRecords s.jnl ∧ (x.isOpen = true → (∃ c, x.body.operation = some (.reconcile c)) → p.1 ≠ x.seq) := by
      unfold startupReconcile at hx
      split at hx
      · simp only [raise_frame, openRecords_closeRecord, List.mem_filter, bne_iff_ne] at hx
        exact ⟨hx.1, fun _ _ => hx.2⟩
      next hno =>
        refine ⟨hx, fun hopen ⟨c, hc⟩ => ?_⟩
        cases hb : x.body with
        | reconcile r => exact absurd hb (hno r hopen)
        | dispense d => simp [hb, Body.operation] at hc
        | receipt d => simp [hb, Body.operation] at hc
        | adjust d => simp [hb, Body.operation] at hc
        | fault d => simp [hb, Body.operation] at hc
    refine ⟨hone.1, fun r hr => ?_⟩
    rcases List.mem_cons.mp hr with rfl | hr
    · exact hone.2
    · exact hrest r hr

theorem holdings_startupReconciles_shadows (s : State) :
    (holdings (startupReconciles s)).shadow = (holdings s).shadow ∧
      (holdings (startupReconciles s)).receiptShadow = (holdings s).receiptShadow := by
  simp [holdings]

/-- A start closes every OPEN record and every shadow. -/
theorem closeBooks_closes (hring : ringOk s.jnl = true) (hs : Backed (holdings s)) :
    (holdings (closeBooks s)).opens = [] ∧ (∀ h, (holdings (closeBooks s)).shadow h = none) ∧
      (holdings (closeBooks s)).receiptShadow = none := by
  have hclose {v : State} (h : Hose) (hv : ringOk v.jnl = true) : ringOk (startupClose h v).jnl = true :=
    ringOk_of_jnlMoves (free := False) (jnlMoves_startupClose h v) hv
  have htwo (g h : Hose) (hgh : ∀ k, k = g ∨ k = h) : ringOk (startupClose h (startupClose g s)).jnl = true ∧
      Backed (holdings (startupClose h (startupClose g s))) ∧
      (holdings (startupClose h (startupClose g s))).shadow = fun _ => none := by
    obtain ⟨hb, hsh, -⟩ := startupClose_closes g hring hs
    obtain ⟨hb', hsh', -⟩ := startupClose_closes h (hclose g hring) hb
    refine ⟨hclose h (hclose g hring), hb', ?_⟩
    rw [hsh', hsh]
    funext k
    by_cases hk : k = h
    · simp [hk]
    · obtain rfl := (hgh k).resolve_right hk
      simp [hk]
  have hhoses (both : Bool) : ringOk (forHoses both startupClose s).jnl = true ∧
      Backed (holdings (forHoses both startupClose s)) ∧ (holdings (forHoses both startupClose s)).shadow = fun _ => none := by
    unfold forHoses
    split
    · exact htwo .h2 .h1 fun k => by cases k <;> simp
    · split
      · exact htwo .h1 .h2 fun k => by cases k <;> simp
      · exact htwo .h1 .h2 fun k => by cases k <;> simp
  obtain ⟨hring', hb, hsh⟩ := hhoses (s.hsc.shadows.h1.opened && s.hsc.shadows.h2.opened)
  obtain ⟨hb', hsh', hrs⟩ := startupReceipt_closes hring' hb
  obtain ⟨hsh'', hrs'⟩ := holdings_startupReconciles_shadows
    (startupReceipt (forHoses (s.hsc.shadows.h1.opened && s.hsc.shadows.h2.opened) startupClose s))
  have hnone (h : Hose) : (holdings (closeBooks s)).shadow h = none := by
    rw [closeBooks, hsh'', hsh', hsh]
  refine ⟨?_, hnone, hrs'.trans hrs⟩
  refine List.eq_nil_iff_forall_not_mem.mpr fun p hp => ?_
  obtain ⟨hp, hgone⟩ := mem_openRecords_reconciles _ _ hp
  have hrec : IsReconcile p := by
    rcases hb' p hp with hr | hnum
    · exact hr
    · match ho : p.2 with
      | none => simp [ho, number] at hnum
      | some (.hose h) => simp [ho, number, hsh', hsh] at hnum
      | some .receipt => simp [ho, number, hrs] at hnum
      | some (.reconcile c) => exact ⟨c, ho⟩
  obtain ⟨r, hr, rfl⟩ := List.mem_map.mp hp
  obtain ⟨hr, hopen⟩ := List.mem_filter.mp hr
  exact hgone r hr hopen hrec rfl

/-! ## OPEN records -/

/-- What has stopped leaves its OPEN records with the shadows that they had. -/
theorem backed_of_stopped (hu : Stopped s u) (hs : Records (holdings s)) : Backed (holdings u) := by
  have hopens : (holdings u).opens = (holdings s).opens := congrArg openRecords hu.jnl
  have hshadow (h : Hose) : (holdings u).shadow h = (holdings s).shadow h := by
    rw [shadow_holdings, shadow_holdings, hu.shadows]
  have hreceipt : (holdings u).receiptShadow = (holdings s).receiptShadow := by
    simp only [holdings, hu.receiptShadow]
  intro p hp
  have hnum := hs.backed p (hopens ▸ hp)
  match ho : p.2 with
  | none => simp [ho, number] at hnum
  | some (.hose h) => exact .inr (by rw [ho] at hnum; exact (hshadow h).trans hnum)
  | some .receipt => exact .inr (by rw [ho] at hnum; exact hreceipt.trans hnum)
  | some (.reconcile c) => exact .inl ⟨c, ho⟩

/-- A start leaves no OPEN record behind. -/
theorem records_startUp (lost : Bool) (hu : Stopped s u) (hring : ringOk s.jnl = true) (hs : Records (holdings s)) :
    Records (holdings (startUp lost u)) := by
  have hv := vacant_closeBooks hu.vacant
  have hbacked : Backed (holdings (beforeBooks u)) := (holdings_beforeBooks u).symm ▸ backed_of_stopped hu hs
  obtain ⟨hopens, hshadow, hreceipt⟩ := closeBooks_closes (by rw [beforeBooks_jnl, hu.jnl]; exact hring) hbacked
  exact (hv.records hopens hshadow hreceipt).changes hv.owners hv.claims (changes_startUp lost u)

/-- Settles O11: moves change the holdings by chains of their changes, and a start closes every OPEN record. -/
theorem openRecordsKeepShadows : Obligations.OpenRecordsKeepShadows := by
  intro s t hring ho hk hs hstep
  rw [ownersOk_iff] at ho
  rw [claimsOk_iff] at hk
  rw [recordsOk_iff] at hs ⊢
  refine (step_preserves (P := fun u => ringOk u.jnl = true ∧ Owners (holdings u) ∧ Claims (holdings u) ∧ Records (holdings u))
    (fun may u v huv ⟨hr, ho, hk, hs⟩ => ?_) (fun _ _ hu => hu) hstep ⟨hring, ho, hk, hs⟩).2.2.2
  refine ⟨huv.ringOk hr, huv.holdings_keep (fun _ _ hc hx => hx.changes hc) (fun _ hx => hx.owners) ho,
    (huv.holdings_keep (P := fun x => Owners x ∧ Claims x) (fun _ _ hc hx => ⟨hx.1.changes hc, hx.2.changes hx.1 hc⟩)
      (fun _ hx => ⟨hx.owners, hx.claims⟩) ⟨ho, hk⟩).2, ?_⟩
  rcases huv.stopped with hm | ⟨lost, w, hw, rfl⟩
  · exact hs.changes ho hk hm.holdings
  · exact records_startUp lost hw hr hs

end Sys2Proof.Machine
end

section
/-! PROOFS. LOCKED levels of hoses and inlet stay but for their clear requests (R118, R142, R148, R149). -/

namespace Sys2Proof.Machine

open Holdings

variable {may : Power → Prop} {s t u : State}

/-! ## Hoses -/

/-- A hose is LOCKED, in its state and in its level. -/
structure HoseLocked (s : State) (h : Hose) : Prop where
  state : (hoseCtx s h).state = .locked
  level : (s.hsc.faults.get h).code = 2

theorem HoseLocked.of_eq {h : Hose} (hs : HoseLocked s h) (hctx : t.hsc.hoses.get h = s.hsc.hoses.get h)
    (hlevel : t.hsc.faults = s.hsc.faults) : HoseLocked t h :=
  ⟨by rw [hoseCtx, hctx]; exact hs.state, by rw [hlevel]; exact hs.level⟩

theorem restState_of_code {l : FaultLevel} (h : l.code = 2) : restState l = .locked := by
  cases l <;> simp_all [FaultLevel.code, restState]

theorem enterState_hoses (h : Hose) (st : HoseState) (s : State) :
    (enterState h st s).hsc.hoses = s.hsc.hoses.set h { hoseCtx s h with state := st } := by
  simp [enterState, modHose, hoseCtx]

/-- A hose other than the one that takes up a dispense stays as it is. -/
theorem openDispense_other {g h : Hose} (hgh : h ≠ g) (d : Dispense) (s : State) :
    (openDispense g d s).hsc.hoses.get h = s.hsc.hoses.get h := by
  unfold openDispense
  dsimp only
  split <;> simp [enterState_hoses, hgh, modHose]

theorem reserveDispense_other {g h : Hose} (hgh : h ≠ g) (d : Dispense) (record : DispenseRecord) (s : State) :
    (reserveDispense g d record s).hsc.hoses.get h = s.hsc.hoses.get h := by
  unfold reserveDispense
  dsimp only
  split <;> simp [openDispense_other hgh]

theorem closeDispense_hoses {g : Hose} {d : Dispense} (hd : (hoseCtx s g).dispense = some d) :
    ∃ c : HoseCtx, c.state = restState (s.hsc.faults.get g) ∧ (closeDispense g s).hsc.hoses = s.hsc.hoses.set g c := by
  obtain ⟨k, result, u, -, hu, e⟩ := closeDispense_steps hd
  have hu : u.hsc = s.hsc := by rcases hu with rfl | rfl <;> rfl
  have hset (x : PerHose HoseCtx) (a b : HoseCtx) : (x.set g a).set g b = x.set g b := by cases g <;> rfl
  refine ⟨{ hoseCtx (letGo g result (bookDispense k (modMeter (hoseMeter g) closeMeter u))) g with
    state := restState (s.hsc.faults.get g) }, rfl, ?_⟩
  simp only [e, raise_frame, enterState_hoses, letGo_frame, bookDispense_frame, modMeter_frame, hu, hset]

theorem clearHose_other {g h : Hose} (hgh : h ≠ g) (s : State) :
    (clearHose g s).hsc.hoses.get h = s.hsc.hoses.get h ∧ (clearHose g s).hsc.faults.get h = s.hsc.faults.get h := by
  simp [clearHose, enterState_hoses, hgh, setFault]

/-- Every move but a clear of the hose keeps a LOCKED hose. -/
theorem Move.hoseLocked {h : Hose} (hm : Move may s t) (hno : ¬ may (.clearLock h)) (hs : HoseLocked s h) :
    HoseLocked t h := by
  cases hm
  case hose g f keeps =>
    refine ⟨?_, by simpa using hs.level⟩
    by_cases hg : h = g
    · subst hg
      simpa [hoseCtx, modHose] using keeps.locked hs.state
    · simpa [hoseCtx, modHose, hg] using hs.state
  case fault g l locked =>
    refine ⟨hs.state, ?_⟩
    by_cases hg : h = g
    · subst hg
      simpa [setFault] using locked hs.state
    · simpa [setFault, hg] using hs.level
  case hsc f hoses faults shadows map => exact hs.of_eq (by simp [hoses]) faults
  case reserveDispense g d record able =>
    have hg : h ≠ g := by
      rintro rfl
      exact able.unlocked hs.state
    exact hs.of_eq (reserveDispense_other hg d record s) (by simp)
  case closeDispense g d hd =>
    obtain ⟨c, hstate, hc⟩ := closeDispense_hoses hd
    by_cases hg : h = g
    · subst hg
      exact ⟨by simp [hoseCtx, hc, hstate, restState_of_code hs.level], by simpa using hs.level⟩
    · exact hs.of_eq (by simp [hc, hg]) (by simp)
  case clearHose g rests power =>
    have hg : h ≠ g := by
      rintro rfl
      exact power.elim hno fun hp => hp hs.state
    obtain ⟨hctx, hlevel⟩ := clearHose_other hg s
    exact ⟨by rw [hoseCtx, hctx]; exact hs.state, by rw [hlevel]; exact hs.level⟩
  all_goals exact hs.of_eq (by simp) (by simp)

/-- So does every start. -/
theorem Leap.hoseLocked {h : Hose} (hl : Leap may s t) (hno : ¬ may (.clearLock h)) (hs : HoseLocked s h) :
    HoseLocked t h := by
  have hstart {v : State} (hctx : (hoseCtx v h).state = restState (s.hsc.faults.get h))
      (hlevel : v.hsc.faults = s.hsc.faults) : HoseLocked v h :=
    ⟨by rw [hctx, restState_of_code hs.level], by rw [hlevel]; exact hs.level⟩
  have hreset : ((volatileReset s).hsc.hoses.get h).state = restState (s.hsc.faults.get h) := by cases h <;> rfl
  cases hl with
  | move hm => exact hm.hoseLocked hno hs
  | restart => exact hstart (by simpa [hoseCtx, restartNow] using hreset) (by simp)
  | reset levels kept downtime => exact hstart (by simpa [hoseCtx, hardwareReset] using hreset) (by simp)

/-! ## The inlet -/

/-- A change of the receipt's state with the inlet's level. -/
inductive InletMove (may : Power → Prop) : ReceiptState → FaultLevel → ReceiptState → FaultLevel → Prop
  | keep (r : ReceiptState) (l : FaultLevel) : InletMove may r l r l
  | flow (r r' : ReceiptState) (l : FaultLevel) (before : receiptRuns r = true)
      (after : receiptRuns r' = true ∨ r' = .settling) : InletMove may r l r' l
  | docketed (l : FaultLevel) : InletMove may .idle l .docketed l
  | receiving (l : FaultLevel) (sound : l.code = 0) : InletMove may .docketed l .receiving l
  | idle (r : ReceiptState) (l : FaultLevel) : InletMove may r l .idle l
  | faultFlows (r : ReceiptState) (l : FaultLevel) (kind : FaultKind) (flows : flows r = true) :
      InletMove may r l .settling (.halted kind)
  | faultCloses (l : FaultLevel) (kind : FaultKind) : InletMove may .settling l .idle (.locked kind)
  | faultRests (r : ReceiptState) (l : FaultLevel) (kind : FaultKind) (rests : flows r = false) :
      InletMove may r l r (if l.code != 0 then .locked kind else .halted kind)
  | clear (r : ReceiptState) (l : FaultLevel) (power : may .clearInletLock ∨ l.code ≠ 2) : InletMove may r l r .clear

theorem setInletFault_level (kind : FaultKind) (locked : Bool) (volume : Option Nat) (s : State) :
    (setInletFault kind locked volume s).rcp.fault = if locked then .locked kind else .halted kind := by
  simp [setInletFault]

theorem enterReceipt_state (st : ReceiptState) (s : State) :
    (enterReceipt st s).rcp.receipt.state = st ∧ (enterReceipt st s).rcp.fault = s.rcp.fault := by
  simp [enterReceipt, modReceipt]

theorem closeReceiptNow_state (o : ReceiptOutcome) {d : Docket} (hd : s.rcp.receipt.docket = some d) :
    (closeReceiptNow o s).rcp.receipt.state = .idle := by
  rw [closeReceiptNow, hd]
  simp [modReceipt]

/-- A fault of the inlet, by the receipt's state; a settling receipt has a docket. -/
theorem inletFault_inlet (may : Power → Prop) (kind : FaultKind) (volume : Option Nat)
    (hdocket : s.rcp.receipt.state = .settling → s.rcp.receipt.docket.isSome = true) :
    InletMove may s.rcp.receipt.state s.rcp.fault (inletFault kind volume s).rcp.receipt.state
      (inletFault kind volume s).rcp.fault := by
  have hflows (hr : flows s.rcp.receipt.state = true) : InletMove may s.rcp.receipt.state s.rcp.fault
      (enterSettling .fault (setInletFault kind false volume s)).rcp.receipt.state
      (enterSettling .fault (setInletFault kind false volume s)).rcp.fault := by
    obtain ⟨hstate, hlevel⟩ := enterReceipt_state .settling
      (receiptTimer 20000 (modReceipt (fun r => { r with outcome := some .fault }) (setInletFault kind false volume s)))
    rw [enterSettling, hstate, hlevel]
    simpa [receiptTimer, setInletFault_level] using InletMove.faultFlows _ s.rcp.fault kind hr
  unfold inletFault
  split
  next hr => exact hr ▸ hflows (by simp [hr, flows, receiptRuns])
  next hr => exact hr ▸ hflows (by simp [hr, flows, receiptRuns])
  next hr =>
    split
    · obtain ⟨d, hd⟩ := Option.isSome_iff_exists.mp (hdocket hr)
      have hstate : (closeSettled (setInletFault kind true volume s)).rcp.receipt.state = .idle :=
        closeReceiptNow_state _ (d := d) (by simpa using hd)
      rw [hstate]
      simpa [setInletFault_level, hr] using InletMove.faultCloses s.rcp.fault kind
    · simpa [modReceipt, setInletFault_level, hr] using InletMove.faultFlows .settling s.rcp.fault kind rfl
  next hr => simpa [setInletFault_level, hr] using InletMove.faultRests .idle s.rcp.fault kind rfl
  next hr => simpa [setInletFault_level, hr] using InletMove.faultRests .docketed s.rcp.fault kind rfl

/-- Every move changes the receipt's state and the inlet's level together. -/
theorem Move.inlet (hm : Move may s t)
    (hdocket : s.rcp.receipt.state = .settling → s.rcp.receipt.docket.isSome = true) :
    InletMove may s.rcp.receipt.state s.rcp.fault t.rcp.receipt.state t.rcp.fault := by
  have hkeep {v : State} (hstate : v.rcp.receipt.state = s.rcp.receipt.state) (hlevel : v.rcp.fault = s.rcp.fault) :
      InletMove may s.rcp.receipt.state s.rcp.fault v.rcp.receipt.state v.rcp.fault := by
    rw [hstate, hlevel]
    exact .keep _ _
  cases hm
  case receipt f keeps =>
    rcases keeps.state with hstate | ⟨hruns, hnext⟩
    · exact hkeep (by simpa [modReceipt] using hstate) (by simp)
    · exact .flow _ _ _ hruns hnext
  case openReceipt c supplier number expected idle free slot =>
    have hstate : (openReceiptNow c supplier number expected s).rcp.receipt.state = .docketed :=
      (enterReceipt_state .docketed _).1
    rw [hstate, idle]
    simpa using InletMove.docketed s.rcp.fault
  case startReceipt d x docketed docket sound =>
    have hstate : (startReceiptNow d x s).rcp.receipt.state = .receiving := (enterReceipt_state .receiving _).1
    rw [hstate, docketed]
    simpa using InletMove.receiving s.rcp.fault sound
  case closeReceipt o d docket =>
    rw [closeReceiptNow_state o docket]
    simpa using InletMove.idle s.rcp.receipt.state s.rcp.fault
  case inletFault kind volume => exact inletFault_inlet may kind volume hdocket
  case clearInlet power => exact .clear _ _ power
  all_goals exact hkeep (by simp) (by simp)

/-! ## Settles the locks -/

theorem start_inlet (hl : Leap may s t) :
    Move may s t ∨ t.rcp.receipt.state = .idle ∧ t.rcp.fault = s.rcp.fault := by
  cases hl with
  | move hm => exact .inl hm
  | restart => exact .inr ⟨by simp [restartNow, volatileReset], by simp⟩
  | reset levels kept downtime => exact .inr ⟨by simp [hardwareReset, volatileReset], by simp⟩

/-- What the inlet's level is, by the receipt's state. -/
def inletFits (r : ReceiptState) (l : FaultLevel) : Bool :=
  match r with
  | .receiving | .held => l == .clear
  | .settling => l.code != 2
  | .idle | .docketed => true

theorem InletMove.fits {r r' : ReceiptState} {l l' : FaultLevel} (h : InletMove may r l r' l')
    (hr : inletFits r l = true) : inletFits r' l' = true := by
  cases h with
  | keep => exact hr
  | flow r r' l before after =>
    have hclear : l = .clear := by cases r <;> simp_all [receiptRuns, inletFits]
    subst hclear
    cases r' <;> rfl
  | docketed => rfl
  | receiving l sound => cases l <;> simp_all [FaultLevel.code, inletFits]
  | idle => rfl
  | faultFlows => rfl
  | faultCloses => rfl
  | faultRests r l kind rests => cases r <;> simp_all [flows, receiptRuns, inletFits]
  | clear => cases r <;> rfl

/-- A LOCKED inlet, with no receipt that flows or settles. -/
def inletLocked (r : ReceiptState) (l : FaultLevel) : Prop := l.code = 2 ∧ flows r = false

theorem InletMove.locked {r r' : ReceiptState} {l l' : FaultLevel} (h : InletMove may r l r' l')
    (hno : ¬ may .clearInletLock) (hr : inletLocked r l) : inletLocked r' l' := by
  obtain ⟨hcode, hflows⟩ := hr
  cases h with
  | keep => exact ⟨hcode, hflows⟩
  | flow r r' l before after => simp [flows, before] at hflows
  | docketed => exact ⟨hcode, rfl⟩
  | receiving l sound => simp [sound] at hcode
  | idle => exact ⟨hcode, rfl⟩
  | faultFlows r l kind hf => simp [hf] at hflows
  | faultCloses => simp [flows] at hflows
  | faultRests r l kind rests => exact ⟨by rw [hcode]; rfl, rests⟩
  | clear r l power => exact (power.elim hno fun h => h hcode).elim

theorem inletLocked_of_fits {r : ReceiptState} {l : FaultLevel} (hr : inletFits r l = true) (hl : l.code = 2) :
    inletLocked r l := by
  refine ⟨hl, ?_⟩
  cases r <;> cases l <;> simp_all [inletFits, FaultLevel.code, flows, receiptRuns]

theorem inletOk_eq (s : State) : inletOk s = inletFits s.rcp.receipt.state s.rcp.fault := rfl

/-- A settling receipt of consistent owners has its docket. -/
theorem docket_of_settling (ho : Owners (holdings s)) (hstate : s.rcp.receipt.state = .settling) :
    s.rcp.receipt.docket.isSome = true := by
  have hd := ho.docket
  simp only [holdings, Option.isSome_map, hstate] at hd
  exact hd

theorem Leap.inletOk (hl : Leap may s t) (ho : Owners (holdings s)) (hs : inletOk s = true) : inletOk t = true := by
  rcases start_inlet hl with hm | ⟨hstate, -⟩
  · exact (hm.inlet (docket_of_settling ho)).fits hs
  · rw [inletOk_eq, hstate]
    rfl

theorem Leap.inletLocked (hl : Leap may s t) (hno : ¬ may .clearInletLock)
    (hs : inletLocked s.rcp.receipt.state s.rcp.fault) : inletLocked t.rcp.receipt.state t.rcp.fault := by
  rcases start_inlet hl with hm | ⟨hstate, hlevel⟩
  · exact (hm.inlet fun hset => by simp [hset, Machine.inletLocked, flows] at hs).locked hno hs
  · rw [hstate, hlevel]
    exact ⟨hs.1, rfl⟩

/-- Settles O14: no move but a clear takes a LOCKED level away. -/
theorem lockedLevelsStayLocked : Obligations.LockedLevelsStayLocked := by
  refine ⟨fun h c s t hservice hclear hstate hlevel ht => ?_, fun s t ho hs hstep => ?_, fun c s t hservice hclear hs hlevel ht => ?_⟩
  · have hno : ¬ mayDo c (.clearLock h) := by simp [mayDo, hservice, hclear]
    have hlocked := (moves_of_exec ht).preserves (P := fun u => HoseLocked u h) (fun _ _ hl => hl.hoseLocked hno)
      ⟨hstate, hlevel⟩
    exact ⟨hlocked.state, hlocked.level⟩
  · rw [ownersOk_iff] at ho
    exact (step_preserves (P := fun u => Owners (holdings u) ∧ inletOk u = true)
      (fun _ _ _ hl hu => ⟨hl.holdings_keep (fun _ _ hc hx => hx.changes hc) (fun _ hx => hx.owners) hu.1, hl.inletOk hu.1 hu.2⟩)
      (fun _ _ hu => hu) hstep ⟨ho, hs⟩).2
  · have hno : ¬ mayDo c .clearInletLock := by simp [mayDo, hservice, hclear]
    exact ((moves_of_exec ht).preserves (P := fun u => inletLocked u.rcp.receipt.state u.rcp.fault)
      (fun _ _ hl => hl.inletLocked hno) (inletLocked_of_fits hs hlevel)).1

end Sys2Proof.Machine
end

section
/-! PROOFS. The queue and the reset, the outputs, and requests and frames that are turned away or answered (R95, R140,
R196 to R199). -/

namespace Sys2Proof.Machine

variable {s t u : State}

/-! ## The queue and the reset -/

/-- Settles O1. -/
theorem stepRunsFrontCommand : Obligations.StepRunsFrontCommand := by
  intro c rest s h
  rw [step, h]

theorem contractorOf_reset (i : Nat) : contractorOf State.reset i = {} := by
  show ((List.replicate 32 ({} : Contractor))[i]?).getD {} = {}
  rw [List.getElem?_replicate]
  split <;> rfl

/-- Settles O4: every invariant of the reset state by evaluation, but for the contractors, which are all empty. -/
theorem resetStateIsSound : Obligations.ResetStateIsSound := by
  refine ⟨by decide, by decide, by decide, by decide, fun i => ?_⟩
  rw [contractorOk, contractorOf_reset]
  rfl

/-! ## Outputs (R95, R110, R140) -/

theorem mainValve_iff (s : State) (h : Hose) :
    mainValve s h = true ↔ outputsOff s = false ∧ ((hoseCtx s h).state = .ready ∨ (hoseCtx s h).state = .flowing) := by
  cases hst : (hoseCtx s h).state <;> simp [mainValve, hst]

theorem slowValve_iff (s : State) (h : Hose) :
    slowValve s h = true ↔ outputsOff s = false ∧
      ((hoseCtx s h).state = .ready ∨ (hoseCtx s h).state = .flowing ∨ (hoseCtx s h).state = .slowing) := by
  cases hst : (hoseCtx s h).state <;> simp [slowValve, hst]

theorem inletValve_iff (s : State) :
    inletValve s = true ↔ outputsOff s = false ∧ s.rcp.receipt.state = .receiving := by
  simp [inletValve]

theorem pumpRequest_iff (s : State) (c : Comp) :
    pumpRequest s c = true ↔ outputsOff s = false ∧
      ((s.hsc.pumps.get c).state = .running ∨ ∃ r d, (s.hsc.pumps.get c).state = .starting r d) := by
  cases hst : (s.hsc.pumps.get c).state <;> simp [pumpRequest, pumpAsks, hst]

theorem outputsOff_iff (s : State) : outputsOff s = true ↔ s.itu.latch = true ∨ powerFail s = true := by
  simp [outputsOff]

/-- Settles O45, from what turns each output on. -/
theorem outputsFollowStates : Obligations.OutputsFollowStates := by
  intro s
  refine ⟨fun h hv => ((mainValve_iff s h).mp hv).2, fun h hv => ((slowValve_iff s h).mp hv).2, fun hoff => ?_,
    fun hlatch hfail => ?_⟩
  · have hoff := (outputsOff_iff s).mpr hoff
    refine ⟨fun h => ⟨?_, ?_⟩, ?_, fun c => ?_⟩ <;> rw [Bool.eq_false_iff]
    · simp [mainValve_iff, hoff]
    · simp [slowValve_iff, hoff]
    · simp [inletValve_iff, hoff]
    · simp [pumpRequest_iff, hoff]
  · have hon : outputsOff s = false := by simp [outputsOff, hlatch, hfail]
    refine ⟨fun h hst => ⟨(mainValve_iff s h).mpr ⟨hon, hst⟩, (slowValve_iff s h).mpr ⟨hon, ?_⟩⟩, fun h hst => ⟨?_, ?_⟩, ?_,
      fun c => ?_⟩
    · rcases hst with hst | hst
      · exact .inl hst
      · exact .inr (.inl hst)
    · rw [Bool.eq_false_iff]
      simp [mainValve_iff, hst]
    · exact (slowValve_iff s h).mpr ⟨hon, .inr (.inr hst)⟩
    · simp [inletValve_iff, hon]
    · simp [pumpRequest_iff, hon]

/-! ## Requests that are turned away -/

/-- What can be sent as a frame is a request of its kind on its port. -/
theorem requestOf_of_asRequest {i : Instr} {p : Port} {k : ReqKind} {payload : List Byte}
    (h : asRequest i = some (p, k, payload)) : ∃ owner, requestOf i = some (k, p, owner) := by
  cases i <;> simp only [asRequest, Option.some.injEq, Prod.mk.injEq, reduceCtorEq] at h
  all_goals
    obtain ⟨rfl, rfl, -⟩ := h
    exact ⟨_, rfl⟩

/-- Settles O20: the checks that come before a request's owner. -/
theorem requestsTurnedAway : Obligations.RequestsTurnedAway := by
  intro i p k payload s h
  obtain ⟨owner, hi⟩ := requestOf_of_asRequest h
  rw [exec_request hi]
  refine ⟨fun hr => ?_, fun hr hp => ?_, fun ht hk => ?_⟩
  · simp [takeRequest, hr]
  · simp [takeRequest, hr, hp]
  · obtain ⟨hr, hp⟩ : portReady s p = true ∧ powerFail s = false := by simpa [takes] using ht
    simp [takeRequest, hr, hp, hk]

/-! ## Frames that are turned away -/

/-- A frame at a port that is not READY is counted, and not examined (R197). -/
theorem takeFrame_busy {p : Port} (frame : List Byte) (hr : portReady s p = false) :
    takeFrame p frame s = countRefused p (wake s) := by
  simp [takeFrame, hr]

theorem takeFrame_bad {p : Port} {frame : List Byte} (hr : portReady s p = true) (hok : frameOk frame = false) :
    takeFrame p frame s = answer p (plain .frameError) (wake s) := by
  simp [takeFrame, hr, hok]

theorem takeFrame_powerFail {p : Port} {frame : List Byte} (hr : portReady s p = true) (hok : frameOk frame = true)
    (hp : powerFail s = true) : takeFrame p frame s = answer p (plain .powerFail) (wake s) := by
  simp [takeFrame, hr, hok, hp]

/-- A good frame is examined (R198). -/
theorem takeFrame_good {p : Port} {frame : List Byte} (ht : takes s p = true) (hok : frameOk frame = true) :
    takeFrame p frame s = takeGood p frame (wake s) := by
  obtain ⟨hr, hp⟩ : portReady s p = true ∧ powerFail s = false := by simpa [takes] using ht
  simp [takeFrame, hr, hok, hp]

theorem payloadOwner_none {p : Port} {k : ReqKind} {payload : List Byte} (h : payloadCommand p k payload = none) :
    payloadOwner p k payload = none := by
  simp [payloadOwner, h]

theorem ne_nil_of_frameOk {frame : List Byte} (h : frameOk frame = true) : frame ≠ [] := by
  rintro rfl
  simp [frameOk] at h

/-- A write transfer on the console or the uplink is a frame, unless it is empty (R196). -/
theorem exec_frame {p : Port} (hp : p ≠ .service) (bytes : List Byte) (s : State) :
    exec (.rejectedRequestFrame p bytes) s = .next (if bytes = [] then s else takeFrame p bytes s) := by
  cases p
  case service => exact absurd rfl hp
  all_goals rfl

theorem transfersTurnedAway (p : Port) (bytes : List Byte) (s : State) (hp : p ≠ .service) :
    exec (.rejectedRequestFrame p []) s = .next s ∧
    (bytes ≠ [] → portReady s p = false → exec (.rejectedRequestFrame p bytes) s = .next (countRefused p (wake s))) ∧
    (bytes ≠ [] → portReady s p = true → frameOk bytes = false →
      exec (.rejectedRequestFrame p bytes) s = .next (answer p (plain .frameError) (wake s))) ∧
    (portReady s p = true → frameOk bytes = true → powerFail s = true →
      exec (.rejectedRequestFrame p bytes) s = .next (answer p (plain .powerFail) (wake s))) ∧
    (takes s p = true → frameOk bytes = true → frameKind bytes = none →
      exec (.rejectedRequestFrame p bytes) s = .next (answer p (plain .badRequest) (wake s))) ∧
    (∀ k, takes s p = true → frameOk bytes = true → frameKind bytes = some k → permitted k p = false →
      exec (.rejectedRequestFrame p bytes) s = .next (answer p (plain .notPermitted) (wake s))) ∧
    (∀ k, takes s p = true → frameOk bytes = true → frameKind bytes = some k → permitted k p = true →
      payloadCommand p k (framePayload bytes) = none →
      exec (.rejectedRequestFrame p bytes) s = .next (answer p (plain .badRequest) (wake s))) := by
  have hexec (hne : bytes ≠ []) : exec (.rejectedRequestFrame p bytes) s = .next (takeFrame p bytes s) := by
    rw [exec_frame hp, if_neg hne]
  refine ⟨exec_frame hp [] s, fun hne hr => ?_, fun hne hr hok => ?_, fun hr hok hf => ?_, fun ht hok hk => ?_,
    fun k ht hok hk hperm => ?_, fun k ht hok hk hperm hpay => ?_⟩
  · rw [hexec hne, takeFrame_busy bytes hr]
  · rw [hexec hne, takeFrame_bad hr hok]
  · rw [hexec (ne_nil_of_frameOk hok), takeFrame_powerFail hr hok hf]
  · rw [hexec (ne_nil_of_frameOk hok), takeFrame_good ht hok]
    simp [takeGood, hk]
  · rw [hexec (ne_nil_of_frameOk hok), takeFrame_good ht hok]
    simp [takeGood, hk, hperm]
  · rw [hexec (ne_nil_of_frameOk hok), takeFrame_good ht hok]
    simp [takeGood, hk, hperm, payloadOwner_none hpay]

/-- A frame too early counts in its port, and wakes the part (R194, R197). -/
theorem countRefused_wake (p : Port) (s : State) :
    (countRefused p (wake s)).prt.ports = s.prt.ports.set p
      { s.prt.ports.get p with refused := min 255 ((s.prt.ports.get p).refused + 1) } ∧
    { countRefused p (wake s) with prt := s.prt, itu := s.itu } = s ∧ (countRefused p (wake s)).itu.standby = false := by
  refine ⟨by simp [countRefused, modPort, satAdd], ?_, ?_⟩
  · unfold wake
    split <;> rfl
  · simp [countRefused, wake_standby]

/-- Settles O21: each check of a frame in its order. -/
theorem framesTurnedAway : Obligations.FramesTurnedAway := by
  refine ⟨transfersTurnedAway, fun p s hr => ?_, fun p s hr => ?_, fun s hrx => ?_, fun s hrx hok hr => ?_⟩
  · have hexec : exec (.busyPortFrame p) s = .next (countRefused p (wake s)) := by
      simp [exec, execBusyPortFrame, hr]
    exact ⟨_, hexec, countRefused_wake p s⟩
  · simp [exec, execBusyPortFrame, hr]
  · simp [exec, execServiceFrameGap, endServiceFrame, hrx]
  · have hready : portReady (modPort .service (fun x => { x with rx := [] })
        (reachTime ((s.prt.ports.get .service).rxTime + 101) s)) .service = true := by
      simpa [portReady, modPort] using hr
    have hexec : exec .serviceFrameGap s = .next (takeFrame .service (s.prt.ports.get .service).rx
        (modPort .service (fun x => { x with rx := [] }) (reachTime ((s.prt.ports.get .service).rxTime + 101) s))) := by
      simp [exec, execServiceFrameGap, endServiceFrame, hrx]
    rw [hexec, takeFrame_bad hready hok]

/-! ## Responses that leave -/

/-- A read transfer on the console or the uplink (R196). -/
theorem exec_responseRead {p : Port} (hp : p ≠ .service) (n : Nat) (s : State) :
    exec (.responseRead p n) s = .next (readTransfer p n s) := by
  cases p
  case service => exact absurd rfl hp
  all_goals rfl

theorem firstResponse_of_answer {x : PortState} {r : Response} (h : x.answer = some r) : firstResponse x = some r := by
  simp [firstResponse, h]

/-- A port that has sent its answer is READY, or answers BUSY_PORT with the count of the frames that it refused; with the
count sent it is READY (R197). -/
theorem firstResponse_dropFirst {x : PortState} (ha : x.answer.isSome = true) (hr : x.refused ≠ 0) :
    firstResponse (dropFirst x) = some { status := .busyPort, payload := [.nat 1 x.refused] } := by
  obtain ⟨r, hx⟩ := Option.isSome_iff_exists.mp ha
  simp [firstResponse, dropFirst, hx, hr]

theorem phase_dropFirst {x : PortState} (h : x.answer = none ∨ x.refused = 0) : (dropFirst x).phase = .ready := by
  unfold dropFirst
  split
  next r hx => simp [h.resolve_left (by simp [hx])]
  next => rfl

theorem sent_dropFirst (x : PortState) : (dropFirst x).sent = x.sent := by
  unfold dropFirst
  split <;> rfl

/-- A read of the whole of a response: what lies past it is the model's value (log entry 34). -/
theorem readTransfer_whole {p : Port} {n : Nat} {r : Response} (hr : firstResponse (s.prt.ports.get p) = some r)
    (hn : (responseFrame r).length ≤ n) :
    ∃ past fresh, past.length = n - (responseFrame r).length ∧
      readTransfer p n s =
        { modPort p (fun x => dropFirst { x with sent := responseFrame r ++ past }) s with fresh := fresh } := by
  have hpast : ((List.range (n - (responseFrame r).length)).map (Config.overreadByte s.fresh)).length =
      n - (responseFrame r).length := by simp
  unfold readTransfer
  rw [hr]
  simp only [hn, if_true, List.take_of_length_le hn]
  split
  · exact ⟨_, _, hpast, rfl⟩
  · exact ⟨_, s.fresh, hpast, rfl⟩

theorem wholeResponseRead (p : Port) (n : Nat) (r : Response) (s : State) (hp : p ≠ .service)
    (hr : firstResponse (s.prt.ports.get p) = some r) (hn : (responseFrame r).length ≤ n) :
    ∃ t, exec (.responseRead p n) s = .next t ∧ (t.prt.ports.get p).sent.take (responseFrame r).length = responseFrame r ∧
      (t.prt.ports.get p).sent.length = n ∧
      ((s.prt.ports.get p).answer.isSome = true ∧ (s.prt.ports.get p).refused ≠ 0 →
        firstResponse (t.prt.ports.get p) = some { status := .busyPort, payload := [.nat 1 (s.prt.ports.get p).refused] }) ∧
      ((s.prt.ports.get p).answer = none ∨ (s.prt.ports.get p).refused = 0 → portReady t p = true) ∧
      { t with prt := s.prt, fresh := s.fresh } = s := by
  obtain ⟨past, fresh, hpast, e⟩ := readTransfer_whole hr hn
  have hport : (readTransfer p n s).prt.ports.get p =
      dropFirst { s.prt.ports.get p with sent := responseFrame r ++ past } := by
    simp [e, modPort]
  refine ⟨_, exec_responseRead hp n s, ?_, ?_, fun ⟨ha, hb⟩ => ?_, fun h => ?_, ?_⟩
  · rw [hport, sent_dropFirst, List.take_left]
  · rw [hport, sent_dropFirst, List.length_append, hpast, Nat.add_sub_cancel' hn]
  · rw [hport]
    exact firstResponse_dropFirst (x := { s.prt.ports.get p with sent := responseFrame r ++ past }) ha hb
  · have hphase := phase_dropFirst (x := { s.prt.ports.get p with sent := responseFrame r ++ past }) h
    rw [portReady, hport, hphase]
    rfl
  · rw [e]
    rfl

/-- Settles O22: by the first response and the number of bytes read. -/
theorem responsesLeaveWhenRead : Obligations.ResponsesLeaveWhenRead := by
  refine ⟨fun p n s hp hr => ?_, fun p n r s hp hr hn => ?_, fun p n r s hp _ hr hn => wholeResponseRead p n r s hp hr hn,
    fun r s hr => ?_⟩
  · simp [exec_responseRead hp, readTransfer, hr]
  · rw [exec_responseRead hp, readTransfer, hr]
    simp [not_le.mpr hn, not_lt.mpr hn.le, Nat.sub_eq_zero_of_le hn.le]
  · simp [exec, execServiceResponseSent, finishSending, hr]

end Sys2Proof.Machine
end

section
/-! PROOFS. Requests on meters, tags and tables (R21, R22, R28, R40, R44 to R47, R52 to R55, R59). -/

namespace Sys2Proof.Machine

variable {s t u : State}

/-- A request that only reads answers what it reads, and changes nothing beside the wake. -/
theorem exec_eq_read {i : Instr} {k : ReqKind} {p : Port} {f : State → Response}
    (hi : requestOf i = some (k, p, reads f)) (hk : permitted k p = true) (ht : takes s p = true) :
    exec i s = answered p (f (wake s)) (wake s) := exec_eq_answered hi hk ht

/-- The wake touches standby and the idle timer alone (R194). -/
theorem wake_eq (s : State) : ∃ standby deadline,
    wake s = { s with itu := { s.itu with standby := standby, idleDeadline := deadline } } := by
  unfold wake
  split
  · exact ⟨_, _, rfl⟩
  · exact ⟨_, _, rfl⟩

theorem not_onlyService {p : Port} (hp : p ≠ .service) : (!onlyService p) = true := by
  cases p
  case service => exact absurd rfl hp
  all_goals rfl

/-! ## Meters and sensors -/

theorem meterOf_meterCode (m : MeterId) : meterOf (meterCode m) = some m := by cases m <;> rfl

theorem meterOf_eq_none {n : Nat} (hn : 2 < n) : meterOf n = none := by
  match n, hn with
  | _ + 3, _ => rfl

theorem currentTemp_wake (s : State) (m : MeterId) : currentTemp (wake s) m = currentTemp s m := by
  have hcomp : meterComp (wake s) m = meterComp s m := by cases m <;> simp [meterComp, hoseComp]
  simp [currentTemp, compartment, hcomp]

/-- Settles O23. -/
theorem meterAndSensorReads : Obligations.MeterAndSensorReads := by
  intro p s ht
  refine ⟨fun m => ?_, fun n hn => ?_, ?_⟩
  · rw [exec_eq_read (f := fun s => _) rfl rfl ht, meterOf_meterCode]
  · rw [exec_eq_read (f := fun s => _) rfl rfl ht, meterOf_eq_none hn]
  · rw [exec_eq_read (f := fun s => _) rfl rfl ht]
    simp [temperatureFields, currentTemp_wake, compartment, PerComp.get]

/-! ## Templates -/

theorem templateRefused_of_index {i : Nat} (t : Template) (hi : 7 < i) : templateRefused i t = true := by
  simp [templateRefused, hi]

theorem templateAccepted {i : Nat} {t : Template} (hi : i ≤ 7) (hmin : 8 ≤ t.minLen) (hlen : t.minLen ≤ t.maxLen)
    (hmax : t.maxLen ≤ 64) (hne : t.offsets ≠ []) (hcount : t.offsets.length ≤ 16) (hnodup : t.offsets.Nodup)
    (hoff : ∀ o ∈ t.offsets, o ≤ 63) (hcheck : t.check ≤ 65535) (hid : 2 ≤ t.idLength) (hid' : t.idLength ≤ 6)
    (hend : t.idOffset + t.idLength ≤ t.minLen) (hhours : ∀ o ∈ t.hoursOffset, o + 3 ≤ t.minLen) :
    templateRefused i t = false := by
  have hoffsets : t.offsets.any (63 < ·) = false := by simpa using hoff
  have hhour : ((t.hoursOffset.map fun o => decide (t.minLen < o + 3)).getD false) = false := by
    cases ho : t.hoursOffset with
    | none => rfl
    | some o => simpa using hhours o (by simp [ho])
  simp only [templateRefused, hoffsets, hhour, Bool.or_eq_false_iff, decide_eq_false_iff_not, List.isEmpty_eq_false_iff,
    Bool.not_eq_false', decide_eq_true_eq]
  refine ⟨⟨⟨⟨⟨⟨⟨⟨⟨⟨⟨⟨⟨⟨?_, ?_⟩, ?_⟩, ?_⟩, ?_⟩, ?_⟩, hne⟩, ?_⟩, hnodup⟩, trivial⟩, ?_⟩, ?_⟩, ?_⟩, ?_⟩, trivial⟩ <;> omega

/-- Settles O24. -/
theorem templateRequests : Obligations.TemplateRequests := by
  refine ⟨fun i t s ht hi hmin hlen hmax hne hcount hnodup hoff hcheck hid hid' hend hhours => ?_, fun i s ht hi => ?_,
    fun i t s ht hi => ⟨?_, ?_⟩, fun p i s ht => ⟨fun t hget => ?_, fun hget => ?_⟩⟩
  · rw [exec_eq_answered rfl rfl ht]
    have hok := templateAccepted hi hmin hlen hmax hne hcount hnodup hoff hcheck hid hid' hend hhours
    simp [reqTemplatePut, hok, modIdu]
  · rw [exec_eq_answered rfl rfl ht]
    simp [reqTemplateClear, not_lt.mpr hi, modIdu]
  · rw [exec_eq_answered rfl rfl ht]
    simp [reqTemplateClear, hi]
  · rw [exec_eq_answered rfl rfl ht]
    simp [reqTemplatePut, templateRefused_of_index _ hi]
  · rw [exec_eq_answered rfl rfl ht]
    simp [reqTemplateRead, reads, hget]
  · rw [exec_eq_answered rfl rfl ht]
    simp [reqTemplateRead, reads, hget]

/-! ## Codes of fields -/

theorem yesNoOf_of_le {n : Nat} (hn : n ≤ 1) : yesNoOf n = some (n == 1) := by
  interval_cases n <;> rfl

theorem yesNoOf_eq_none {n : Nat} (hn : 1 < n) : yesNoOf n = none := by
  match n, hn with
  | _ + 2, _ => rfl

theorem compSetOf_of {n : Nat} (hn : n = 1 ∨ n = 2 ∨ n = 3) : compSetOf n = some ⟨n.testBit 0, n.testBit 1⟩ := by
  rcases hn with rfl | rfl | rfl <;> rfl

theorem compSetOf_eq_none {n : Nat} (hn : ¬(n = 1 ∨ n = 2 ∨ n = 3)) : compSetOf n = none := by
  match n, hn with
  | 0, _ => rfl
  | 1, h => simp at h
  | 2, h => simp at h
  | 3, h => simp at h
  | _ + 4, _ => rfl

theorem badCapacity_eq_false_iff (v : Option Nat) : badCapacity v = false ↔ ∀ n ∈ v, n ≠ 0 ∧ n ≤ 99999999 := by
  cases v <;> simp [badCapacity]

theorem badAllowance_eq_false_iff (v : Option Nat) : badAllowance v = false ↔ ∀ n ∈ v, n ≤ 4294967295 := by
  cases v with
  | none => simp [badAllowance]
  | some n => simp [badAllowance, show max32 = 4294967295 from rfl, decide_eq_false_iff_not]

/-! ## The machine table -/

theorem lookup_wake (s : State) (n : Nat) : lookup (wake s).mtb.machines n = lookup s.mtb.machines n := by simp

/-- The fields of MACHINE PUT in their ranges (R44). -/
def MachineFields.InRange (f : MachineFields) : Prop :=
  f.number ≠ 0 ∧ f.number ≤ 281474976710655 ∧ f.contractor ≤ 31 ∧ (f.comps = 1 ∨ f.comps = 2 ∨ f.comps = 3) ∧
    f.manual ≤ 1 ∧ f.tagRequired ≤ 1 ∧ f.status ≤ 1 ∧ (∀ v ∈ f.capacity.c1, v ≠ 0 ∧ v ≤ 99999999) ∧
    (∀ v ∈ f.capacity.c2, v ≠ 0 ∧ v ≤ 99999999) ∧ (∀ v ∈ f.allowance.c1, v ≤ 4294967295) ∧
    ∀ v ∈ f.allowance.c2, v ≤ 4294967295

/-- The entry that MACHINE PUT makes of its fields. -/
def MachineFields.entry (f : MachineFields) : MachineEntry :=
  { number := f.number, status := if f.status = 0 then .active else .barred, origin := .listed
    contractor := f.contractor, comps := ⟨f.comps.testBit 0, f.comps.testBit 1⟩, capacity := f.capacity
    allowance := f.allowance, manual := f.manual == 1, tagRequired := f.tagRequired == 1 }

theorem putStatusOf_of_le {n : Nat} (hn : n ≤ 1) : putStatusOf n = some (if n = 0 then .active else .barred) := by
  interval_cases n <;> rfl

theorem putStatusOf_eq_none {n : Nat} (hn : 1 < n) : putStatusOf n = none := by
  match n, hn with
  | _ + 2, _ => rfl

theorem machineEntryOf_of_inRange {f : MachineFields} (h : f.InRange) : machineEntryOf f = some f.entry := by
  obtain ⟨hpos, hnum, hcon, hcomps, hman, htag, hst, hc1, hc2, ha1, ha2⟩ := h
  rw [← badCapacity_eq_false_iff] at hc1 hc2
  rw [← badAllowance_eq_false_iff] at ha1 ha2
  rw [machineEntryOf, putStatusOf_of_le hst, compSetOf_of hcomps, yesNoOf_of_le hman, yesNoOf_of_le htag]
  simp [hpos, maxMachine, not_lt.mpr hnum, not_lt.mpr hcon, hc1, hc2, ha1, ha2, MachineFields.entry]

theorem machineEntryOf_of_not_inRange {f : MachineFields} (h : ¬ f.InRange) : machineEntryOf f = none := by
  by_contra hne
  obtain ⟨e, he⟩ := Option.ne_none_iff_exists'.mp hne
  refine h ?_
  unfold machineEntryOf at he
  split at he
  next st cs m t hst hcs hm ht =>
    split at he
    · simp at he
    next hok =>
      simp only [not_or, Bool.not_eq_true, badCapacity_eq_false_iff, badAllowance_eq_false_iff, not_lt, maxMachine] at hok
      obtain ⟨hpos, hnum, hcon, hc1, hc2, ha1, ha2⟩ := hok
      refine ⟨hpos, hnum, hcon, ?_, ?_, ?_, ?_, hc1, hc2, ha1, ha2⟩
      · by_contra hno
        simp [compSetOf_eq_none hno] at hcs
      · by_contra hno
        simp [yesNoOf_eq_none (not_le.mp hno)] at hm
      · by_contra hno
        simp [yesNoOf_eq_none (not_le.mp hno)] at ht
      · by_contra hno
        simp [putStatusOf_eq_none (not_le.mp hno)] at hst
  next => simp at he

theorem length_insertEntry_new {e : MachineEntry} {l : List MachineEntry} (h : lookup l e.number = none) :
    (insertEntry e l).length = l.length + 1 := by
  induction l with
  | nil => rfl
  | cons x rest ih =>
    simp only [lookup, List.find?_cons] at h
    cases hx : x.number == e.number with
    | true => simp [hx] at h
    | false =>
      rw [beq_eq_false_iff_ne] at hx
      simp only [beq_eq_false_iff_ne.mpr hx] at h
      unfold insertEntry
      split
      · rfl
      · rw [if_neg (Ne.symm hx), List.length_cons, ih h, List.length_cons]

/-- Settles O27: the refusals of MACHINE PUT in their order, and the entry. -/
theorem machinePutWritesEntry : Obligations.MachinePutWritesEntry := by
  intro n st k cs mn tg c1 a1 c2 a2 s ht
  dsimp only
  rw [exec_eq_answered rfl rfl ht]
  have inRange (h : _) : MachineFields.InRange ⟨n, st, k, cs, ⟨c1, c2⟩, ⟨a1, a2⟩, mn, tg⟩ := h
  have hout {f : MachineFields} (hf : f.InRange) : f.status ≠ 2 := fun h => by
    have := hf.2.2.2.2.2.2.1
    omega
  refine ⟨fun hst => ?_, fun hst hno => ?_, fun hin hnone hfull => ?_, fun hin hnone hroom => ?_, fun old hin hold => ?_⟩
  · simp [reqMachinePut, hst]
  · rw [reqMachinePut, if_neg hst, machineEntryOf_of_not_inRange (f := ⟨n, st, k, cs, ⟨c1, c2⟩, ⟨a1, a2⟩, mn, tg⟩) hno]
  · rw [reqMachinePut, if_neg (hout (inRange hin)), machineEntryOf_of_inRange (inRange hin)]
    simp [hnone, hfull]
  · rw [reqMachinePut, if_neg (hout (inRange hin)), machineEntryOf_of_inRange (inRange hin)]
    have hlen := length_insertEntry_new (e := MachineFields.entry ⟨n, st, k, cs, ⟨c1, c2⟩, ⟨a1, a2⟩, mn, tg⟩) hnone
    simp only [wake_frame, hnone, if_neg (not_le.mpr hroom), modMtb, hlen]
    rfl
  · rw [reqMachinePut, if_neg (hout (inRange hin)), machineEntryOf_of_inRange (inRange hin)]
    simp [hold, modMtb, MachineFields.entry, replaceEntry]

/-- Settles O28. -/
theorem machineRemoveAndReads : Obligations.MachineRemoveAndReads := by
  refine ⟨fun n s ht => ?_, fun p n s ht hp => ?_⟩
  · rw [exec_eq_answered rfl rfl ht]
    refine ⟨fun hnone => ?_, fun e he hst => ?_, fun e he hst hmark => ?_, fun e he hst hmark => ?_⟩
    · simp [reqMachineRemove, hnone]
    · simp [reqMachineRemove, he, hst]
    · have hmarker : hasMarker e = true := by simpa [hasMarker] using hmark
      simp [reqMachineRemove, he, hst, hmarker, modEntry, modMtb]
    · have hmarker : hasMarker e = false := by simp [hasMarker, hmark]
      simp [reqMachineRemove, he, hst, hmarker, removeEntry, modMtb, bne, beq_eq_decide]
  · refine ⟨fun hnone => ?_, fun e he => ?_, ?_⟩
    · rw [exec_eq_answered (i := .machineRead p n) rfl (not_onlyService hp) ht]
      simp [reqMachineRead, reads, hnone]
    · rw [exec_eq_answered (i := .machineRead p n) rfl (not_onlyService hp) ht]
      simp [reqMachineRead, reads, he]
    · dsimp only
      rw [exec_eq_answered (i := .machineList p n) rfl (not_onlyService hp) ht]
      simp [reqMachineList, reads, listing, counted, List.flatMap]

/-! ## Site and rule settings -/

/-- The fields of GROUP RULE PUT in their ranges make the rule, with its interval as it is stored (R55). -/
theorem groupRuleOf_eq {f : RuleFields} (hi : f.index ≤ 7) (hst : f.state ≤ 1) (hlow : f.low ≠ 0) (hhigh : f.low ≤ f.high)
    (hmax : f.high ≤ 281474976710655) (hcon : f.contractor ≤ 31) (hcomps : f.comps = 1 ∨ f.comps = 2 ∨ f.comps = 3)
    (ha1 : ∀ v ∈ f.allowance.c1, v ≤ 4294967295) (ha2 : ∀ v ∈ f.allowance.c2, v ≤ 4294967295) :
    groupRuleOf f = some
      { active := f.state == 1, low := f.low, high := f.high, contractor := f.contractor
        comps := ⟨f.comps.testBit 0, f.comps.testBit 1⟩, allowance := f.allowance
        interval := storedInterval f.interval } := by
  rw [← badAllowance_eq_false_iff] at ha1 ha2
  rw [groupRuleOf, yesNoOf_of_le hst, compSetOf_of hcomps]
  simp [not_lt.mpr hi, hlow, not_lt.mpr hhigh, maxMachine, not_lt.mpr hmax, not_lt.mpr hcon, ha1, ha2]

theorem storedInterval_eq (w : Nat) : storedInterval w = if w = 0 then 0 else max 10 (min 10080 w) := rfl

/-- Settles O29. -/
theorem siteAndRuleSettings : Obligations.SiteAndRuleSettings := by
  refine ⟨fun md k a1 a2 s ht hmd hk ha1 ha2 => ?_, fun d s ht => ?_,
    fun i st lo hi k cs w a1 a2 s ht hi7 hst hlo hlohi hhi hk hcs ha1 ha2 => ?_, fun p s ht hp => ⟨?_, ?_, fun i r hr => ?_,
      fun i hr => ?_⟩⟩
  · rw [exec_eq_answered rfl rfl ht]
    rw [← badAllowance_eq_false_iff] at ha1 ha2
    simp [reqOpenSitePut, yesNoOf_of_le hmd, not_lt.mpr hk, ha1, ha2, modMtb]
  · rw [exec_eq_answered rfl rfl ht]
    have hclamp : clampNat 0 1439 d = min 1439 d := by simp [clampNat]
    simp only [reqPeriodSettingsPut, settingsAnswer_clampNat (Nat.zero_le 1439)]
    simp only [hclamp, modMtb, wake_frame, Nat.zero_le, true_and]
    split
    · rfl
    next hd => rw [min_eq_left (not_le.mp hd).le]
  · dsimp only
    rw [exec_eq_answered rfl rfl ht, reqGroupRulePut,
      groupRuleOf_eq (f := ⟨i, st, lo, hi, k, cs, ⟨a1, a2⟩, w⟩) hi7 hst hlo hlohi hhi hk hcs ha1 ha2]
    simp [settingsAnswer, storedInterval_eq, modMtb]
  · rw [exec_eq_answered (i := .openSiteRead p) rfl (not_onlyService hp) ht]
    simp [reqOpenSiteRead, reads]
  · rw [exec_eq_answered (i := .periodSettingsRead p) rfl (not_onlyService hp) ht]
    simp [reqPeriodSettingsRead, reads, currentDay, siteDay]
  · rw [exec_eq_answered (i := .groupRuleRead p i) rfl (not_onlyService hp) ht]
    simp [reqGroupRuleRead, reads, hr]
  · rw [exec_eq_answered (i := .groupRuleRead p i) rfl (not_onlyService hp) ht]
    simp [reqGroupRuleRead, reads, hr]

/-! ## Contractors -/

theorem contractorStateOf_of_le {n : Nat} (hn : n ≤ 2) :
    contractorStateOf n = some (if n = 0 then .unused else if n = 1 then .opened else .hold) := by
  interval_cases n <;> rfl

theorem contractorStateOf_eq_none {n : Nat} (hn : 2 < n) : contractorStateOf n = none := by
  match n, hn with
  | _ + 3, _ => rfl

theorem basisOf_of_le {n : Nat} (hn : n ≤ 1) : basisOf n = some (if n = 0 then .standard else .gross) := by
  interval_cases n <;> rfl

theorem basisOf_eq_none {n : Nat} (hn : 1 < n) : basisOf n = none := by
  match n, hn with
  | _ + 2, _ => rfl

theorem reqContractorPut_refused {i st b : Nat} {adj : Int} (lim : Option Nat)
    (h : 31 < i ∨ 2 < st ∨ adj < -2000 ∨ 2000 < adj ∨ 1 < b) : reqContractorPut i st adj b lim s = (s, plain .badValue) := by
  unfold reqContractorPut
  split
  next x y hst hb =>
    rw [if_pos]
    rcases h with h | h | h | h | h
    · exact .inl h
    · simp [contractorStateOf_eq_none h] at hst
    · exact .inr (.inl h)
    · exact .inr (.inr (.inl h))
    · simp [basisOf_eq_none h] at hb
  next => rfl

/-- Settles O30. -/
theorem contractorPutWritesEntry : Obligations.ContractorPutWritesEntry := by
  intro i st b adj lim s ht
  refine ⟨fun hi hst hadj hadj' hb hlim => ?_, fun hbad => ?_⟩
  · rw [exec_eq_answered rfl rfl ht]
    rw [← badAllowance_eq_false_iff] at hlim
    simp [reqContractorPut, contractorStateOf_of_le hst, basisOf_of_le hb, not_lt.mpr hi, not_lt.mpr hadj,
      not_lt.mpr hadj', hlim, modContractor, modBil]
  · rw [exec_eq_answered rfl rfl ht]
    rw [reqContractorPut_refused lim hbad]

/-! ## Prices -/

/-- A record closed at once takes a slot, and at 64 free slots or fewer raises JOURNAL_LOW (R162, R166). -/
theorem writeClosed_eq (body : Body) (s : State) :
    writeClosed body s =
      raiseIf (decide (freeSlots (appended s true body) ≤ 64)) .journalLow { s with jnl := appended s true body } := rfl

theorem raiseIf_prt (b : Bool) (e : Event) {s t : State} (h : s.prt = t.prt) :
    (raiseIf b e s).prt = (raiseIf b e t).prt := by
  cases b
  · exact h
  · simp [raiseIf, raise, raiseSet, h]

theorem raise_prt (e : Event) {s t : State} (h : s.prt = t.prt) : (raise e s).prt = (raise e t).prt :=
  raiseIf_prt true e h

/-- A price that takes effect at once, with a free slot (R64): record, ADJUST record and events. -/
theorem setPriceNow_takes {c : Comp} {price : Nat} (hslot : freeSlots s.jnl ≠ 0) :
    ∃ t, setPriceNow c price s = (t, plain .ok) ∧
      t.bil = { s.bil with prices := s.bil.prices.set c { priceRecord s c with current := some price } } ∧
      t.jnl = appended s true (.adjust
        { param := .price, subject := Subject.ofComp c, old := (priceRecord s c).current.map Int.ofNat, new := price
          origin := .uplink }) ∧
      t.prt = (raise .priceChanged (raiseIf (decide (freeSlots t.jnl ≤ 64)) .journalLow s)).prt ∧
      t.itu = s.itu ∧ { t with bil := s.bil, jnl := s.jnl, prt := s.prt, itu := s.itu } = s := by
  refine ⟨_, by rw [setPriceNow, if_neg hslot], ?_, ?_, ?_, ?_, ?_⟩
  · simp [modPrice, modBil, priceRecord, recordAdjust]
  · simp [modPrice, recordAdjust, writeClosed, takeSlot_jnl, appended]
  · have hjnl : (modPrice c (fun r => { r with current := some price })
        (recordAdjust .price (Subject.ofComp c) ((priceRecord s c).current.map Int.ofNat) price .uplink s)).jnl =
        appended s true (.adjust
          { param := .price, subject := Subject.ofComp c, old := (priceRecord s c).current.map Int.ofNat, new := price
            origin := .uplink }) := by
      simp [modPrice, recordAdjust, writeClosed, takeSlot_jnl, appended]
    refine raise_prt _ ?_
    simp only [raise_frame, hjnl]
    exact raiseIf_prt _ _ rfl
  · simp [modPrice, recordAdjust]
  · simp only [recordAdjust, writeClosed_eq, raiseIf]
    split <;> rfl

section PriceSet

variable {c : Comp} {pr v : Nat} (hpr : 1 ≤ pr) (hpr' : pr ≤ 15) (hv : v ≤ 99999)
include hpr hpr' hv

theorem reqPriceSet_wrongProduct (e : Option Nat) (hne : pr ≠ (priceRecord s c).product) :
    reqPriceSet (compCode c) pr v e s = (s, refusedFor .wrongProduct) := by
  simp [reqPriceSet, compOf_compCode, not_lt.mpr hpr', not_lt.mpr hv, Nat.one_le_iff_ne_zero.mp hpr, hne]

theorem reqPriceSet_timeInvalid {e : Option Nat} (heq : pr = (priceRecord s c).product) (he : e.isSome = true)
    (hval : s.itu.clockValid = false) : reqPriceSet (compCode c) pr v e s = (s, refusedFor .timeInvalid) := by
  obtain ⟨t, rfl⟩ := Option.isSome_iff_exists.mp he
  simp [reqPriceSet, compOf_compCode, not_lt.mpr hpr', not_lt.mpr hv, Nat.one_le_iff_ne_zero.mp hpr, ← heq, hval]

theorem reqPriceSet_later {t : Nat} (heq : pr = (priceRecord s c).product) (hval : s.itu.clockValid = true)
    (hlt : s.itu.clock < t) : reqPriceSet (compCode c) pr v (some t) s = setPending c v t s := by
  simp [reqPriceSet, compOf_compCode, not_lt.mpr hpr', not_lt.mpr hv, Nat.one_le_iff_ne_zero.mp hpr, ← heq, hval, hlt]

theorem reqPriceSet_now {e : Option Nat} (heq : pr = (priceRecord s c).product)
    (hnow : e = none ∨ ∃ t, e = some t ∧ s.itu.clockValid = true ∧ t ≤ s.itu.clock) :
    reqPriceSet (compCode c) pr v e s = setPriceNow c v s := by
  rcases hnow with rfl | ⟨t, rfl, hval, hle⟩
  · simp [reqPriceSet, compOf_compCode, not_lt.mpr hpr', not_lt.mpr hv, Nat.one_le_iff_ne_zero.mp hpr, ← heq]
  · simp [reqPriceSet, compOf_compCode, not_lt.mpr hpr', not_lt.mpr hv, Nat.one_le_iff_ne_zero.mp hpr, ← heq, hval,
      not_lt.mpr hle]

end PriceSet

/-- Settles O32: the checks of PRICE SET in their order, and the price that takes effect. -/
theorem priceSetAndRead : Obligations.PriceSetAndRead := by
  refine ⟨fun c pr v e s ht hpr hpr' hv => ?_, fun p s ht => ?_⟩
  · dsimp only
    rw [exec_eq_answered rfl rfl ht]
    have hrec : priceRecord (wake s) c = priceRecord s c := by simp [priceRecord]
    refine ⟨fun hne => ?_, fun heq hsome hinv => ?_, fun t heq he hval hlt => ?_, fun heq hnow => ?_⟩
    · rw [reqPriceSet_wrongProduct hpr hpr' hv e (by rwa [hrec])]
    · rw [reqPriceSet_timeInvalid hpr hpr' hv (by rwa [hrec]) hsome (by simpa using hinv)]
    · rw [he, reqPriceSet_later hpr hpr' hv (by rwa [hrec]) (by simpa using hval) (by simpa using hlt)]
      simp [setPending, modPrice, modBil, priceRecord]
    · rw [reqPriceSet_now hpr hpr' hv (by rwa [hrec]) (by simpa using hnow)]
      refine ⟨fun hfull => ?_, fun hslot => ?_⟩
      · simp [setPriceNow, hfull]
      · obtain ⟨t, e, hbil, hjnl, hprt, hitu, hrest⟩ := setPriceNow_takes (s := wake s) (c := c) (price := v)
          (by simpa using hslot)
        refine ⟨t, by rw [e], by simpa [hrec] using hbil, by simpa [hrec, appended] using hjnl,
          hprt.trans (raise_prt _ (raiseIf_prt _ _ (by simp))), hitu, ?_⟩
        obtain ⟨_, _, hw⟩ := wake_eq s
        rw [hw] at hrest
        exact congrArg (fun x : State => { x with itu := s.itu }) hrest
  · rw [exec_eq_answered rfl rfl ht]
    obtain ⟨_, _, hw⟩ := wake_eq s
    rw [hw]
    rfl

end Sys2Proof.Machine
end

section
/-! PROOFS. Requests and timers of the hoses, and the preset's least figure (R86, R87, R97, R98, R100, R101, R104, R107,
R118, R121, R122). -/

namespace Sys2Proof.Machine

variable {s t u : State}

/-! ## Arming and disarming -/

theorem commonRefusal_wake (s : State) : commonRefusal (wake s) = commonRefusal s := by
  simp [commonRefusal, inputActive]

theorem badCapacity_of_ok {v : Option Nat} (h : ∀ x ∈ v, x ≠ 0 ∧ x ≤ 99999999) : badCapacity v = false :=
  (badCapacity_eq_false_iff v).mpr h

section ArmHose

variable {h : Hose} {op : Nat} {v : Option Nat} (hop : op ≤ 65535) (hv : ∀ x ∈ v, x ≠ 0 ∧ x ≤ 99999999)
include hop hv

theorem reqArmHose_refused {r : Reason} (hr : commonRefusal s = some r) :
    reqArmHose (hoseCode h) op v s = (s, refusedFor r) := by
  rw [reqArmHose, withHose_hoseCode]
  simp [not_lt.mpr hop, badCapacity_of_ok hv, hr]

theorem reqArmHose_busy (hr : commonRefusal s = none) (hst : (hoseCtx s h).state ≠ .idle) :
    reqArmHose (hoseCode h) op v s = (s, refusedFor .busy) := by
  rw [reqArmHose, withHose_hoseCode]
  simp [not_lt.mpr hop, badCapacity_of_ok hv, hr, hst]

theorem reqArmHose_idle (hr : commonRefusal s = none) (hst : (hoseCtx s h).state = .idle) :
    reqArmHose (hoseCode h) op v s =
      (enterState h .armed (putHose h { hoseCtx s h with
        operator := some op, requested := v, timer := some (s.itu.mono + (s.hsc.params.get h).armed * 1000) }
        s.hsc.pumps s), plain .ok) := by
  rw [reqArmHose, withHose_hoseCode]
  simp [not_lt.mpr hop, badCapacity_of_ok hv, hr, hst, armNow, modHose_eq_putHose, startTimer_putHose]

end ArmHose

theorem reqDisarmHose_of_armed {h : Hose} (hst : (hoseCtx s h).state = .armed) :
    reqDisarmHose (hoseCode h) s = (returnIdle h s, plain .ok) := by
  rw [reqDisarmHose, withHose_hoseCode]
  simp [hst]

theorem reqDisarmHose_of_dispense {h : Hose} (hst : hasDispense (hoseCtx s h).state = true) :
    reqDisarmHose (hoseCode h) s = (s, plain .busy) := by
  rw [reqDisarmHose, withHose_hoseCode]
  cases hc : (hoseCtx s h).state with
  | priming | ready | flowing | slowing | paused | ending => rfl
  | idle | armed | halted | locked => simp [hc, hasDispense, inDemand] at hst

theorem reqDisarmHose_of_notInUse {h : Hose} (hst : inUse (hoseCtx s h).state = false) :
    reqDisarmHose (hoseCode h) s = (s, plain .notActive) := by
  rw [reqDisarmHose, withHose_hoseCode]
  cases hc : (hoseCtx s h).state with
  | idle | halted | locked => rfl
  | priming | ready | flowing | slowing | paused | ending | armed =>
    simp [hc, inUse, hasDispense, inDemand] at hst

/-- A hose's timer that is due acts at its deadline. -/
theorem hoseTimeout_due {h : Hose} {d : Nat} {due : HoseState → Bool} {act : State → State}
    (htimer : (hoseCtx s h).timer = some d) (hdue : due (hoseCtx s h).state = true) :
    hoseTimeout h due act s = act (reachTime d s) := by
  simp [hoseTimeout, htimer, hdue]

theorem hoseCtx_reachTime (d : Nat) (s : State) (h : Hose) : hoseCtx (reachTime d s) h = hoseCtx s h := rfl

/-- The return of a hose to IDLE. -/
theorem returnIdle_moves (h : Hose) (s : State) :
    hoseMoves h s (returnIdle h s) ∧ (returnIdle h s).hsc.pumps = s.hsc.pumps ∧
      hoseCtx (returnIdle h s) h = idleCtx (hoseCtx s h) := by
  rw [returnIdle_eq]
  exact ⟨hoseMoves_enterState .., by simp, by simp [idleCtx]⟩

/-- Settles O34. -/
theorem armingAndDisarming : Obligations.ArmingAndDisarming := by
  refine ⟨fun h op v s ht hop hv => ⟨fun hr hst => ?_, fun r hr => ?_, fun hr hst => ?_⟩,
    fun h s ht => ⟨fun hst => ?_, fun hst => ?_, fun hst => ?_⟩, fun h d s hst htimer => ?_⟩
  · rw [exec_eq_answered rfl rfl ht, reqArmHose_idle hop hv (by rwa [commonRefusal_wake]) (by simpa using hst)]
    exact ⟨_, rfl, hoseMoves_enterState .., by simp, by simp⟩
  · rw [exec_eq_answered rfl rfl ht, reqArmHose_refused hop hv (by rwa [commonRefusal_wake])]
  · rw [exec_eq_answered rfl rfl ht, reqArmHose_busy hop hv (by rwa [commonRefusal_wake]) (by simpa using hst)]
  · rw [exec_eq_answered rfl rfl ht, reqDisarmHose_of_armed (by simpa using hst)]
    obtain ⟨hmoves, hpumps, hctx⟩ := returnIdle_moves h (wake s)
    exact ⟨_, rfl, hmoves, hpumps.trans (by simp), by simpa using hctx⟩
  · rw [exec_eq_answered rfl rfl ht, reqDisarmHose_of_dispense (by simpa using hst)]
  · rw [exec_eq_answered rfl rfl ht, reqDisarmHose_of_notInUse (by simpa using hst)]
  · obtain ⟨hmoves, hpumps, hctx⟩ := returnIdle_moves h (reachTime d s)
    have hexec : exec (.armedTimeout h) s = .next (returnIdle h (reachTime d s)) := by
      simp [exec, execArmedTimeout, hoseTimeout_due htimer, hst]
    exact ⟨_, hexec, hmoves, hpumps, hctx⟩

/-! ## The clears (R118) -/

/-- What a clear leaves: the hose IDLE and its level NONE, a FAILED pump of its compartment STOPPED. -/
structure HoseCleared (h : Hose) (s t : State) : Prop where
  ctx : hoseCtx t h = { hoseCtx s h with state := .idle }
  other : hoseCtx t (otherHose h) = hoseCtx s (otherHose h)
  faults : t.hsc.faults = s.hsc.faults.set h .clear
  pumps : t.hsc.pumps = s.hsc.pumps.set (hoseComp s h)
    (if (s.hsc.pumps.get (hoseComp s h)).state = .failed then
      { s.hsc.pumps.get (hoseComp s h) with state := .stopped }
    else s.hsc.pumps.get (hoseComp s h))
  rest : t.mtr = s.mtr ∧ t.stk = s.stk ∧ t.jnl = s.jnl ∧ t.rcp = s.rcp ∧ t.bil = s.bil ∧ t.mtb = s.mtb

theorem clearHose_cleared (h : Hose) (s : State) : HoseCleared h s (clearHose h s) where
  ctx := by simp [clearHose, hoseCtx, enterState_hoses, setFault, modPump]
  other := by simp [clearHose, hoseCtx, enterState_hoses, setFault, modPump, otherHose_ne]
  faults := by simp [clearHose, setFault]
  pumps := by simp [clearHose, setFault, modPump]
  rest := by simp [clearHose]

/-- A clear after the wake. -/
theorem HoseCleared.of_wake {h : Hose} (hc : HoseCleared h (wake s) t) : HoseCleared h s t := by
  obtain ⟨hctx, hother, hfaults, hpumps, hrest⟩ := hc
  have hcomp : hoseComp (wake s) h = hoseComp s h := by simp [hoseComp]
  exact ⟨by simpa using hctx, by simpa using hother, by simpa using hfaults, by simpa [hcomp] using hpumps,
    by simpa using hrest⟩

theorem reqClearHalt_of_halted {h : Hose} (p : Port) (hst : (hoseCtx s h).state = .halted) :
    reqClearHalt p (hoseCode h) s =
      if classForbids p (s.hsc.faults.get h) then (s, plain .notPermitted) else (clearHose h s, plain .ok) := by
  rw [reqClearHalt, withHose_hoseCode]
  simp [hst]

theorem classForbids_halted (p : Port) (k : FaultKind) :
    classForbids p (.halted k) = (p != .service && !softKind k) := by
  cases p <;> rfl

/-- Settles O37. -/
theorem clearsReturnHoseToIdle : Obligations.ClearsReturnHoseToIdle := by
  unfold Obligations.ClearsReturnHoseToIdle
  intro cleared
  have hcleared {h : Hose} {s t : State} (hc : HoseCleared h s t) : cleared h s t :=
    ⟨hc.ctx, hc.other, hc.faults, hc.pumps, hc.rest⟩
  refine ⟨fun h k p s ht hst hlevel => ⟨fun hk => ?_, fun hk hp => ?_⟩, fun h p s ht hst => ?_, fun n p s ht hn => ?_,
    fun h s ht => ⟨fun hst => ?_, fun hst => ?_⟩⟩
  · rw [exec_eq_answered rfl rfl ht, reqClearHalt_of_halted p (by simpa using hst)]
    have hallowed : classForbids p ((wake s).hsc.faults.get h) = false := by
      simp only [wake_frame, hlevel, classForbids_halted]
      rcases hk with rfl | rfl
      · exact Bool.and_false _
      · rfl
    rw [hallowed]
    exact ⟨_, rfl, hcleared (clearHose_cleared h (wake s)).of_wake⟩
  · rw [exec_eq_answered rfl rfl ht, reqClearHalt_of_halted p (by simpa using hst)]
    have hforbidden : classForbids p ((wake s).hsc.faults.get h) = true := by
      simp only [wake_frame, hlevel, classForbids_halted, Bool.and_eq_true, bne_iff_ne]
      exact ⟨hp, by rcases hk with rfl | rfl | rfl <;> rfl⟩
    rw [hforbidden]
    rfl
  · rw [exec_eq_answered rfl rfl ht, reqClearHalt, withHose_hoseCode]
    simp [hst]
  · rw [exec_eq_answered rfl rfl ht, reqClearHalt, withHose_badHose hn]
  · rw [exec_eq_answered rfl rfl ht, reqClearLock, withHose_hoseCode, if_pos (by simpa using hst)]
    exact ⟨_, rfl, hcleared (clearHose_cleared h (wake s)).of_wake⟩
  · rw [exec_eq_answered rfl rfl ht, reqClearLock, withHose_hoseCode, if_neg (by simpa using hst)]

/-! ## Settings (R121, R122, R127) -/

theorem clampNat_eq (lo hi v : Nat) : clampNat lo hi v = max lo (min hi v) := rfl

theorem settingsAnswer_eq {α : Type} [DecidableEq α] (x y : α) (fields : List Field) :
    settingsAnswer (x != y) fields = if x = y then plain .ok else { status := .okClamped, payload := fields } := by
  by_cases h : x = y <;> simp [settingsAnswer, h]

theorem clampParams_eq (x : HoseParams) : clampParams x =
    { armed := max 30 (min 600 x.armed), firstFlow := max 10 (min 300 x.firstFlow), noFlow := max 5 (min 255 x.noFlow)
      grace := max 1 (min 10 x.grace), pauseLimit := max 10 (min 300 x.pauseLimit), slowDown := min 20000 x.slowDown
      hoseMax := max 100000 (min 9000000 x.hoseMax), overrun := max 500 (min 20000 x.overrun) } := by
  simp [clampParams, clampNat]

theorem clampStock_eq (x : StockSettings) : clampStock x =
    { level := min 99999999 x.level, hysteresis := min 10000000 x.hysteresis, tolerance := min 1000000 x.tolerance } := by
  simp [clampStock, clampNat]

/-- Two settings are answered OK where both are in their ranges. -/
theorem settingsAnswer_two {a b : Nat} (x y : Nat) (fields : List Field) :
    settingsAnswer (min a x != x || min b y != y) fields =
      if x ≤ a ∧ y ≤ b then plain .ok else { status := .okClamped, payload := fields } := by
  have hbool : (min a x != x || min b y != y) = !decide (x ≤ a ∧ y ≤ b) := by
    rw [Bool.eq_iff_iff]
    simp
  rw [hbool]
  by_cases h : x ≤ a ∧ y ≤ b <;> simp [settingsAnswer, h]

/-- Settles O38. -/
theorem hoseAndStockSettings : Obligations.HoseAndStockSettings := by
  refine ⟨fun h x s ht => ?_, fun m r s ht => ?_, fun c x s ht => ?_, fun p s ht => ⟨?_, fun h => ?_, ?_, ?_⟩⟩
  · rw [exec_eq_answered rfl rfl ht, reqHoseSettingsPut, withHose_hoseCode, settingsAnswer_eq]
    simp only [← clampParams_eq, modHsc, wake_frame]
  · have hm : clampNat 0 20000 m = min 20000 m := by simp [clampNat]
    have hr : clampNat 0 3 r = min 3 r := by simp [clampNat]
    rw [exec_eq_answered rfl rfl ht, reqDeliverySettingsPut, hm, hr]
    simp only [settingsAnswer_two, modHsc, wake_frame]
  · rw [exec_eq_answered rfl rfl ht, reqStockSettingsPut, compOf_compCode]
    simp only [settingsAnswer_eq, clampStock_eq, modComp, modStk, stockFields, compartment, wake_frame]
  · rw [exec_eq_answered rfl rfl ht]
    simp [reqHoseSettingsRead, reads]
  · rw [exec_eq_answered rfl rfl ht, reqReadHose, withHose_hoseCode]
    rfl
  · rw [exec_eq_answered rfl rfl ht]
    simp [reqStockSettingsRead, reads, stockFields]
  · rw [exec_eq_answered rfl rfl ht]
    obtain ⟨_, _, hw⟩ := wake_eq s
    rw [hw]
    rfl

/-! ## The least figure (R86, R87) -/

/-- The least figure of a list and one before it: none is less, and the one found is the first that is so small. -/
theorem leastFigure_spec (l : List (Limiter × Nat)) (best : Limiter × Nat) :
    (∀ x ∈ best :: l, (leastFigure l best).2 ≤ x.2) ∧
      ∃ before after, best :: l = before ++ leastFigure l best :: after ∧ ∀ x ∈ before, (leastFigure l best).2 < x.2 := by
  induction l generalizing best with
  | nil => exact ⟨by simp [leastFigure], [], [], rfl, by simp⟩
  | cons y rest ih =>
    by_cases hlt : y.2 < best.2
    · obtain ⟨hle, before, after, e, hbefore⟩ := ih y
      have hleast : leastFigure (y :: rest) best = leastFigure rest y := by simp [leastFigure, hlt]
      have hbest : (leastFigure rest y).2 < best.2 := (hle y (by simp)).trans_lt hlt
      rw [hleast]
      refine ⟨fun x hx => ?_, best :: before, after, by rw [List.cons_append, ← e], fun x hx => ?_⟩
      · rcases List.mem_cons.mp hx with rfl | hx
        · exact hbest.le
        · exact hle x hx
      · rcases List.mem_cons.mp hx with rfl | hx
        · exact hbest
        · exact hbefore x hx
    · obtain ⟨hle, before, after, e, hbefore⟩ := ih best
      have hleast : leastFigure (y :: rest) best = leastFigure rest best := by simp [leastFigure, hlt]
      have hy : (leastFigure rest best).2 ≤ y.2 := (hle best (by simp)).trans (not_lt.mp hlt)
      rw [hleast]
      refine ⟨fun x hx => ?_, ?_⟩
      · rcases List.mem_cons.mp hx with rfl | hx
        · exact hle x (by simp)
        · rcases List.mem_cons.mp hx with rfl | hx
          · exact hy
          · exact hle x (by simp [hx])
      · cases before with
        | nil =>
          obtain ⟨hhead, rfl⟩ : best = leastFigure rest best ∧ rest = after := by simpa using e
          exact ⟨[], y :: rest, by rw [← hhead]; rfl, by simp⟩
        | cons b before =>
          obtain ⟨rfl, hrest⟩ : best = b ∧ rest = before ++ leastFigure rest best :: after := by simpa using e
          refine ⟨best :: y :: before, after, by rw [List.cons_append, List.cons_append, ← hrest], fun x hx => ?_⟩
          rcases List.mem_cons.mp hx with rfl | hx
          · exact hbefore x (by simp)
          · rcases List.mem_cons.mp hx with rfl | hx
            · exact ((hbefore best (by simp)).trans_le (not_lt.mp hlt))
            · exact hbefore x (by simp [hx])

/-- The same of the whole list, with its head taken for the one before. -/
theorem leastFigure_headD {l : List (Limiter × Nat)} (hne : l ≠ []) (y : Limiter × Nat) :
    (∀ x ∈ l, (leastFigure l (l.headD y)).2 ≤ x.2) ∧
      ∃ before after, l = before ++ leastFigure l (l.headD y) :: after ∧
        ∀ x ∈ before, (leastFigure l (l.headD y)).2 < x.2 := by
  cases l with
  | nil => exact absurd rfl hne
  | cons b rest =>
    have hhead : leastFigure (b :: rest) b = leastFigure rest b := by simp [leastFigure]
    simpa only [List.headD_cons, hhead] using leastFigure_spec rest b

theorem hoseMax_mem_limitFigures (h : Hose) (e : MachineEntry) (price ctl : Nat) (s : State) :
    (Limiter.hoseMax, (s.hsc.params.get h).hoseMax) ∈ limitFigures h e price ctl s := by
  simp [limitFigures]

/-- Settles O39, from what the least figure is; the hose maximum is among the figures. -/
theorem presetIsTheFirstLeastFigure : Obligations.PresetIsTheFirstLeastFigure := by
  intro h tr e cls s g hg
  unfold presetCheck at hg
  dsimp only at hg
  split at hg
  · exact absurd hg (by simp)
  next hok =>
    obtain rfl := Except.ok.inj hg
    dsimp only
    obtain ⟨hle, hfirst⟩ := leastFigure_headD (List.ne_nil_of_mem (hoseMax_mem_limitFigures h e _ _ s))
      (.hoseMax, (s.hsc.params.get h).hoseMax)
    simp only [not_or, not_lt] at hok
    exact ⟨hle, hfirst, hok.1, Nat.one_le_iff_ne_zero.mpr hok.2, hle _ (hoseMax_mem_limitFigures h e _ _ s), rfl⟩

/-! ## The flow timers (R100, R101, R104) -/

/-- The entry to ENDING, from a state whose hose has a dispense. -/
theorem enterEnding_moves {h : Hose} {d : Dispense} (o : DispenseOutcome) (hd : (hoseCtx s h).dispense = some d) :
    hoseMoves h s (enterEnding o h s) ∧ hoseCtx (enterEnding o h s) h = endingCtx o s.itu.mono d (hoseCtx s h) ∧
      (enterEnding o h s).hsc.pumps = s.hsc.pumps.set d.comp (leftPump h (s.hsc.pumps.get d.comp)) := by
  rw [enterEnding_eq hd]
  exact ⟨hoseMoves_enterState .., by simp [endingCtx], by simp⟩

/-- Settles O41: each timer is the entry to ENDING at its deadline. -/
theorem flowTimersEnterEnding : Obligations.FlowTimersEnterEnding := by
  intro h n d s htimer hd
  dsimp only
  have hends {c : Instr} {o : DispenseOutcome} (hc : exec c s = .next (enterEnding o h (reachTime n s))) :
      ∃ t, exec c s = .next t ∧ hoseMoves h (reachTime n s) t ∧
        hoseCtx t h = endingCtx o (max s.itu.mono n) d (hoseCtx s h) ∧
        t.hsc.pumps = s.hsc.pumps.set d.comp (leftPump h (s.hsc.pumps.get d.comp)) := by
    obtain ⟨hmoves, hctx, hpumps⟩ := enterEnding_moves (s := reachTime n s) o hd
    exact ⟨_, hc, hmoves, hctx, hpumps⟩
  refine ⟨fun hst => hends ?_, fun hst => hends ?_, fun hst => hends ?_⟩
  · simp [exec, execFirstFlowTimeout, hoseTimeout_due htimer, hst]
  · rcases hst with hst | hst <;> simp [exec, execNoFlowTimeout, hoseTimeout_due htimer, hst]
  · simp [exec, execPauseLimit, hoseTimeout_due htimer, hst, pauseOutcome, hd]

/-! ## The nozzle (R107, R24) -/

/-- `s` with an input in another state. -/
def withInput (i : Input) (active : Bool) (s : State) : State :=
  modInput i (fun x => { x with active := active, level := active != x.activeLow, heldAt := none }) s

/-- A change of an input's state is its event, in the part that has taken it. -/
theorem changeInput_of_change {i : Input} {active : Bool} (h : inputActive s i = !active) :
    changeInput i active s = inputEvent i active (withInput i active s) := by
  cases active <;> simp [changeInput, h, withInput]

@[simp] theorem inputActive_withInput (i : Input) (active : Bool) (s : State) :
    inputActive (withInput i active s) i = active := by
  simp [inputActive, withInput, modInput]

@[simp] theorem withInput_frame (i : Input) (active : Bool) (s : State) :
    (withInput i active s).mtr = s.mtr ∧ (withInput i active s).tpi = s.tpi ∧ (withInput i active s).idu = s.idu ∧
    (withInput i active s).mtb = s.mtb ∧ (withInput i active s).bil = s.bil ∧ (withInput i active s).hsc = s.hsc ∧
    (withInput i active s).stk = s.stk ∧ (withInput i active s).rcp = s.rcp ∧ (withInput i active s).jnl = s.jnl ∧
    (withInput i active s).cal = s.cal ∧ (withInput i active s).prt = s.prt ∧
    (withInput i active s).itu.mono = s.itu.mono ∧ (withInput i active s).itu.clock = s.itu.clock :=
  ⟨rfl, rfl, rfl, rfl, rfl, rfl, rfl, rfl, rfl, rfl, rfl, rfl, rfl⟩

@[simp] theorem hoseCtx_withInput (i : Input) (active : Bool) (s : State) (h : Hose) :
    hoseCtx (withInput i active s) h = hoseCtx s h := rfl

theorem inputEvent_stowed (h : Hose) (s : State) : inputEvent (stowedInput h) true s = stowNozzle h s := by
  cases h <;> rfl

theorem inputEvent_lifted (h : Hose) (s : State) :
    inputEvent (stowedInput h) false s = refreshReader h (reloadIdle .nozzle (wake s)) := by
  cases h <;> rfl

/-- What stowing a nozzle makes of the contexts, by the hose's state (R107). -/
structure Stows (h : Hose) (s t : State) : Prop where
  itu : t.itu = s.itu
  other : hoseCtx t (otherHose h) = hoseCtx s (otherHose h)
  armed : (hoseCtx s h).state = .armed → hoseCtx t h = idleCtx (hoseCtx s h)
  starting : ∀ d, ((hoseCtx s h).state = .priming ∨ (hoseCtx s h).state = .ready) → (hoseCtx s h).dispense = some d →
    hoseCtx t h = endingCtx .cancelled s.itu.mono d (hoseCtx s h)
  flowing : ∀ d, ((hoseCtx s h).state = .flowing ∨ (hoseCtx s h).state = .slowing ∨ (hoseCtx s h).state = .paused) →
    (hoseCtx s h).dispense = some d → hoseCtx t h = endingCtx .complete s.itu.mono d (hoseCtx s h)
  resting : ((hoseCtx s h).state = .ending ∨ inUse (hoseCtx s h).state = false) → hoseCtx t h = hoseCtx s h

/-- Hose `h` after a change that leaves the other alone. -/
theorem hoseMoves.other {h : Hose} (hm : hoseMoves h s t) : hoseCtx t (otherHose h) = hoseCtx s (otherHose h) := by
  obtain ⟨-, -, -, -, hctx, -⟩ := hm
  exact hctx

theorem stowNozzle_stows (h : Hose) (s : State) : Stows h s (stowNozzle h s) := by
  have hending (o : DispenseOutcome) {d : Dispense} (hd : (hoseCtx s h).dispense = some d) :
      hoseCtx (refreshReader h (enterEnding o h s)) h = endingCtx o s.itu.mono d (hoseCtx s h) := by
    simpa using (enterEnding_moves o hd).2.1
  refine ⟨?_, ?_, fun hst => ?_, fun d hst hd => ?_, fun d hst hd => ?_, fun hst => ?_⟩
  · unfold stowNozzle
    dsimp only
    split <;> simp
  · have hother (o : DispenseOutcome) : hoseCtx (enterEnding o h s) (otherHose h) = hoseCtx s (otherHose h) := by
      cases hd : (hoseCtx s h).dispense with
      | none => simp [enterEnding, hd]
      | some d => exact (enterEnding_moves o hd).1.other
    unfold stowNozzle
    dsimp only
    split
    · simpa using (returnIdle_moves h s).1.other
    all_goals simp [hother]
  · simpa [stowNozzle, hst] using (returnIdle_moves h s).2.2
  · rcases hst with hst | hst <;> simpa [stowNozzle, hst] using hending .cancelled hd
  · rcases hst with hst | hst | hst <;> simpa [stowNozzle, hst] using hending .complete hd
  · cases hc : (hoseCtx s h).state <;> simp [hc, inUse, hasDispense, inDemand] at hst
    all_goals simp [stowNozzle, hc]

/-- Settles O44. -/
theorem nozzleStowedAndLifted : Obligations.NozzleStowedAndLifted := by
  refine ⟨fun h s hin => ?_, fun h s hin => ?_⟩
  · have hexec : exec (.nozzleStowed h) s = .next (stowNozzle h (withInput (stowedInput h) true s)) := by
      show Host.Outcome.next _ = _
      rw [changeInput_of_change (by simpa using hin), inputEvent_stowed]
    obtain ⟨hitu, hother, harmed, hstarting, hflowing, hresting⟩ :=
      stowNozzle_stows h (withInput (stowedInput h) true s)
    have hactive : inputActive (stowNozzle h (withInput (stowedInput h) true s)) (stowedInput h) = true := by
      rw [inputActive, hitu]
      exact inputActive_withInput _ _ _
    refine ⟨_, hexec, hactive, ?_, hother, harmed, hstarting, hflowing, hresting⟩
    have hrefreshed (v : State) (hv : inputActive (refreshReader h v) (stowedInput h) = true) :
        ((refreshReader h v).idu.readers.get h).enabled = false := by
      rw [refreshReader_enabled, readerWanted]
      have hv' : inputActive v (stowedInput h) = true := by simpa [inputActive] using hv
      rw [hv']
      rfl
    exact hrefreshed _ hactive
  · have hexec : exec (.nozzleLifted h) s =
        .next (refreshReader h (reloadIdle .nozzle (wake (withInput (stowedInput h) false s)))) := by
      show Host.Outcome.next _ = _
      rw [changeInput_of_change (by simpa using hin), inputEvent_lifted]
    have hstandby : (reloadIdle .nozzle (wake (withInput (stowedInput h) false s))).itu.standby = false := by simp
    have hinactive : inputActive (reloadIdle .nozzle (wake (withInput (stowedInput h) false s))) (stowedInput h) = false := by
      simpa [inputActive] using inputActive_withInput (stowedInput h) false s
    refine ⟨_, hexec, by simpa [inputActive] using hinactive, by simp, by simp, by simp, by simp, by simp,
      by simp, ?_⟩
    rw [refreshReader_enabled, readerWanted, hinactive, hstandby]
    simp [hoseCtx]

end Sys2Proof.Machine
end

section
/-! PROOFS. The pumps' run confirmation, its loss, and the start attempts (R111 to R113). -/

namespace Sys2Proof.Machine

variable {s t u : State}

theorem hoseCtx_of_hoses (hh : t.hsc.hoses = s.hsc.hoses) (h : Hose) : hoseCtx t h = hoseCtx s h := by
  simp [hoseCtx, hh]

/-! ## Causes that come and go -/

/-- A cause that leaves a PAUSED hose: it stays, or returns to flow (R104). -/
theorem hoseCtx_removeCause {h : Hose} {d : Dispense} (f : Causes → Causes) (hst : (hoseCtx s h).state = .paused)
    (hd : (hoseCtx s h).dispense = some d) :
    hoseCtx (removeCause f h s) h = resumedCtx s h { d with causes := f d.causes } (hoseCtx s h) := by
  by_cases hf : f d.causes = {}
  · rw [removeCause_of_last hd f hst hf]
    simp [resumedCtx, nearPreset, hf]
  · rw [removeCause_of_remaining hd f hst hf]
    simp [resumedCtx, hf]

theorem removeCause_other (f : Causes → Causes) (h : Hose) (s : State) :
    hoseCtx (removeCause f h s) (otherHose h) = hoseCtx s (otherHose h) := by
  by_cases hst : (hoseCtx s h).state = .paused
  · cases hd : (hoseCtx s h).dispense with
    | none => simp [removeCause, hst, modDispense_eq_putHose, hd, otherHose_ne]
    | some d =>
      by_cases hf : f d.causes = {}
      · rw [removeCause_of_last hd f hst hf]
        exact (hoseMoves_enterState ..).other
      · rw [removeCause_of_remaining hd f hst hf]
        simp [otherHose_ne]
  · simp [removeCause, hst]

theorem addCause_other (f : Causes → Causes) (h : Hose) (s : State) :
    hoseCtx (addCause f h s) (otherHose h) = hoseCtx s (otherHose h) := by
  unfold addCause
  split <;> simp [modDispense_eq_putHose, startTimer_putHose, otherHose_ne]

/-- A hose that enters a state with another timer. -/
theorem hoseCtx_enterState_startTimer (h : Hose) (st : HoseState) (ms : Nat) (s : State) :
    hoseCtx (enterState h st (startTimer h ms s)) h =
      { hoseCtx s h with state := st, timer := some (s.itu.mono + ms) } := by
  simp [hoseCtx, enterState_hoses, startTimer, modHose, modHsc]

theorem hoseCtx_enterState_other (h : Hose) (st : HoseState) (s : State) :
    hoseCtx (enterState h st s) (otherHose h) = hoseCtx s (otherHose h) := by
  simp [hoseCtx, enterState_hoses, otherHose_ne]

/-! ## Confirmation -/

/-- What the confirmation of its pump makes of the context of a hose in the demand set (R111). -/
def ConfirmedCtx (c : Comp) (h : Hose) (s : State) (x : HoseCtx) : Prop :=
  (s.hsc.pumps.get c).demand.get h = true →
    ((hoseCtx s h).state = .priming →
      x = { hoseCtx s h with
        state := .ready, timer := some (s.itu.mono + (s.hsc.params.get h).firstFlow * 1000) }) ∧
    ∀ d, (hoseCtx s h).state = .paused → (hoseCtx s h).dispense = some d →
      x = resumedCtx s h { d with causes := { d.causes with pump := false } } (hoseCtx s h)

theorem confirmHose_ctx (c : Comp) (h : Hose) (s : State) :
    ConfirmedCtx c h s (hoseCtx (confirmHose c h s) h) := by
  refine fun hdem => ⟨fun hst => ?_, fun d hst hd => ?_⟩
  · simp only [confirmHose, hdem, hst, if_true, enterReady]
    exact hoseCtx_enterState_startTimer ..
  · simp only [confirmHose, hdem, hst, if_true]
    exact hoseCtx_removeCause _ hst hd

theorem confirmHose_other (c : Comp) (h : Hose) (s : State) :
    hoseCtx (confirmHose c h s) (otherHose h) = hoseCtx s (otherHose h) := by
  unfold confirmHose
  split
  · split
    · rw [enterReady, hoseCtx_enterState_other]
      simp [hoseCtx, startTimer, modHose, modHsc, otherHose_ne]
    · exact removeCause_other ..
    · rfl
  · rfl

/-- It rests on the demand set, the context, the parameters and the time base. -/
theorem ConfirmedCtx.congr {c : Comp} {h : Hose} {x : HoseCtx} (hx : ConfirmedCtx c h t x)
    (hdem : (t.hsc.pumps.get c).demand = (s.hsc.pumps.get c).demand) (hctx : hoseCtx t h = hoseCtx s h)
    (hparams : t.hsc.params = s.hsc.params) (hitu : t.itu = s.itu) : ConfirmedCtx c h s x := by
  simpa only [ConfirmedCtx, resumedCtx, hdem, hctx, hparams, hitu] using hx

theorem pumpRuns_ctx (c : Comp) (h : Hose) (s : State) : ConfirmedCtx c h s (hoseCtx (pumpRuns c s) h) := by
  unfold pumpRuns
  cases h with
  | h1 =>
    have hother (v : State) : hoseCtx (confirmHose c .h2 v) .h1 = hoseCtx v .h1 := confirmHose_other c .h2 v
    rw [hother]
    exact (confirmHose_ctx c .h1 _).congr (by simp [modPump]) rfl rfl rfl
  | h2 =>
    have hother (v : State) : hoseCtx (confirmHose c .h1 v) .h2 = hoseCtx v .h2 := confirmHose_other c .h1 v
    exact (confirmHose_ctx c .h2 _).congr (by simp [modPump]) (hother _) (by simp) (by simp)

/-! ## Its loss -/

/-- What the loss of its pump's confirmation makes of the context of a hose in the demand set (R112). -/
def LostRunCtx (c : Comp) (h : Hose) (s : State) (x : HoseCtx) : Prop :=
  (s.hsc.pumps.get c).demand.get h = true →
    ((hoseCtx s h).state = .ready → x = { hoseCtx s h with state := .priming, timer := none }) ∧
    (∀ d, (hoseCtx s h).state = .flowing ∨ (hoseCtx s h).state = .slowing → (hoseCtx s h).dispense = some d →
      x = pausedCtx s h { d.causes with pump := true } d (hoseCtx s h)) ∧
    ∀ d, (hoseCtx s h).state = .paused → (hoseCtx s h).dispense = some d →
      x = { hoseCtx s h with dispense := some { d with causes := { d.causes with pump := true } } }

theorem lostRunHose_ctx (c : Comp) (h : Hose) (s : State) :
    LostRunCtx c h s (hoseCtx (lostRunHose c h s) h) := by
  refine fun hdem => ⟨fun hst => ?_, fun d hst hd => ?_, fun d hst hd => ?_⟩
  · simp [lostRunHose, hdem, hst, stopTimer, modHose_eq_putHose, enterState_putHose]
  · have hadd : lostRunHose c h s = addCause (fun x => { x with pump := true }) h s := by
      rcases hst with hst | hst <;> simp [lostRunHose, hdem, hst]
    rw [hadd, addCause_of_flows hd _ hst]
    simp [pausedCtx]
  · simp [lostRunHose, hdem, hst, addCause_of_paused hd _ hst]

theorem lostRunHose_other (c : Comp) (h : Hose) (s : State) :
    hoseCtx (lostRunHose c h s) (otherHose h) = hoseCtx s (otherHose h) := by
  have hpriming : hoseCtx (enterState h .priming (stopTimer h s)) (otherHose h) = hoseCtx s (otherHose h) := by
    simp [stopTimer, modHose_eq_putHose, otherHose_ne]
  unfold lostRunHose
  split
  · split
    case h_1 | h_2 | h_3 => exact addCause_other ..
    case h_4 => exact hpriming
    case h_5 => rfl
  · rfl

theorem LostRunCtx.congr {c : Comp} {h : Hose} {x : HoseCtx} (hx : LostRunCtx c h t x)
    (hdem : (t.hsc.pumps.get c).demand = (s.hsc.pumps.get c).demand) (hctx : hoseCtx t h = hoseCtx s h)
    (hparams : t.hsc.params = s.hsc.params) (hitu : t.itu = s.itu) : LostRunCtx c h s x := by
  simpa only [LostRunCtx, pausedCtx, hdem, hctx, hparams, hitu] using hx

theorem runLost_ctx {c : Comp} (hst : (s.hsc.pumps.get c).state = .running) (h : Hose) :
    LostRunCtx c h s (hoseCtx (runLost c s) h) := by
  simp only [runLost, hst]
  cases h with
  | h1 =>
    have hother (v : State) : hoseCtx (lostRunHose c .h2 v) .h1 = hoseCtx v .h1 := lostRunHose_other c .h2 v
    rw [hother]
    exact (lostRunHose_ctx c .h1 _).congr (by simp [modPump]) rfl rfl rfl
  | h2 =>
    have hother (v : State) : hoseCtx (lostRunHose c .h1 v) .h2 = hoseCtx v .h2 := lostRunHose_other c .h1 v
    exact (lostRunHose_ctx c .h2 _).congr (by simp [modPump]) (hother _) (by simp) (by simp)

theorem inputEvent_pumpRun (c : Comp) (active : Bool) (s : State) :
    inputEvent (pumpInput c) active s = if active then runConfirmed c s else runLost c s := by
  cases c <;> cases active <;> rfl

/-- With its input taken alone, a pump that does not wait for it changes nothing else. -/
theorem withInput_itu (i : Input) (active : Bool) (s : State) :
    { withInput i active s with itu := { (withInput i active s).itu with inputs := s.itu.inputs } } = s := rfl

/-! ## The start attempts (R113) -/

/-- What a pump that failed to start makes of a hose: its fault, its end, and the event. -/
structure FailedStart (h : Hose) (d : Dispense) (s t : State) : Prop where
  fault : t.hsc.faults.get h = .halted .pumpStart
  ctx : hoseCtx t h = endingCtx .fault s.itu.mono { d with faultKind := some .pumpStart } (hoseCtx s h)
  event : ∀ q, hasEvent (t.prt.ports.get q).pending .fault = true

theorem hasEvent_raise (e : Event) (s : State) (q : Port) :
    hasEvent ((raise e s).prt.ports.get q).pending e = true := by
  have hcode : e.code < 24 := by cases e <;> decide
  have hget : (raise e s).prt.ports.get q =
      { s.prt.ports.get q with pending := (s.prt.ports.get q).pending ||| e.bit } := by cases q <;> rfl
  simp [hget, hasEvent, Event.bit, hcode]

theorem hasEvent_of_raises {a b : Prt} {e : Event} (hr : Raises a b) {q : Port}
    (h : hasEvent (a.ports.get q).pending e = true) : hasEvent (b.ports.get q).pending e = true := by
  obtain ⟨set, hset⟩ := hr.get q
  rw [hset]
  simp only [hasEvent, BitVec.getLsbD_or] at h ⊢
  rw [h, Bool.true_or]

theorem setHoseFault_event (h : Hose) (kind : FaultKind) (locked : Bool) (volume : Option Nat) (s : State) (q : Port) :
    hasEvent ((setHoseFault h kind locked volume s).prt.ports.get q).pending .fault = true :=
  hasEvent_of_raises (Raises.raiseIf (.refl _) _ _) (hasEvent_raise .fault _ q)

/-- A fault at a hose in PRIMING or PAUSED is its level, its end with FAULT, and the event; the other hose stays. -/
theorem hoseFault_of_waits {h : Hose} (kind : FaultKind) (volume : Option Nat)
    (hst : (hoseCtx s h).state = .priming ∨ (hoseCtx s h).state = .paused) :
    hoseFault h kind volume s = enterEnding .fault h
      (modDispense h (fun d => { d with faultKind := some kind }) (setHoseFault h kind false volume s)) := by
  rcases hst with hst | hst <;> simp [hoseFault, hst]

/-- A FAILED pump, and the mark of it, stay when a fault ends a dispense (R110). -/
def PumpFailed (c : Comp) (s : State) : Prop :=
  (s.hsc.pumps.get c).state = .failed ∧ (s.hsc.pumps.get c).lastStartFailed = true

theorem PumpFailed.leftPump {c : Comp} (hp : PumpFailed c s) (k : Comp) (h : Hose)
    (ht : t.hsc.pumps = s.hsc.pumps.set k (leftPump h (s.hsc.pumps.get k))) : PumpFailed c t := by
  obtain ⟨hfailed, hmark⟩ := hp
  unfold PumpFailed
  rw [ht]
  by_cases hk : c = k
  · subst hk
    simp [Machine.leftPump, hfailed, hmark]
  · simp [hk, hfailed, hmark]

theorem PumpFailed.enterEnding {c : Comp} (hp : PumpFailed c s) (o : DispenseOutcome) (h : Hose) :
    PumpFailed c (enterEnding o h s) := by
  cases hd : (hoseCtx s h).dispense with
  | none => simpa [Machine.enterEnding, hd] using hp
  | some d => exact hp.leftPump d.comp h (enterEnding_moves o hd).2.2

theorem PumpFailed.of_pumps {c : Comp} (hp : PumpFailed c s) (ht : t.hsc.pumps = s.hsc.pumps) : PumpFailed c t := by
  rwa [PumpFailed, ht]

theorem PumpFailed.hoseFault {c : Comp} (hp : PumpFailed c s) (h : Hose) (kind : FaultKind) (volume : Option Nat) :
    PumpFailed c (hoseFault h kind volume s) := by
  unfold Machine.hoseFault
  split
  case h_1 | h_2 | h_3 | h_4 | h_5 => exact PumpFailed.enterEnding (hp.of_pumps (by simp)) ..
  case h_6 => split <;> exact hp.of_pumps (by simp)
  case h_7 | h_8 | h_9 | h_10 => exact hp.of_pumps (by simp)

/-- What the fault of a pump that failed to start makes of a hose (R113). -/
theorem hoseFault_failedStart {h : Hose} {d : Dispense}
    (hst : (hoseCtx s h).state = .priming ∨ (hoseCtx s h).state = .paused) (hd : (hoseCtx s h).dispense = some d) :
    FailedStart h d s (hoseFault h .pumpStart none s) := by
  rw [hoseFault_of_waits .pumpStart none hst]
  generalize hv : setHoseFault h .pumpStart false none s = v
  have hctx : hoseCtx v h = hoseCtx s h := by simp [← hv, hoseCtx]
  have hd' : (hoseCtx (modDispense h (fun d => { d with faultKind := some .pumpStart }) v) h).dispense =
      some { d with faultKind := some .pumpStart } := by
    simp [modDispense_eq_putHose, hctx, hd]
  obtain ⟨hmoves, hends, -⟩ := enterEnding_moves .fault hd'
  refine ⟨?_, ?_, fun q => ?_⟩
  · simp [← hv, setHoseFault, setFault]
  · rw [hends]
    simp [modDispense_eq_putHose, endingCtx, ← hv]
  · obtain ⟨-, hprt, -⟩ := hmoves
    rw [hprt]
    refine hasEvent_of_raises (a := v.prt) ((Raises.of_eq (by simp)).raise _) ?_
    rw [← hv]
    exact setHoseFault_event ..

/-! ## One hose's fault and the other hose -/

theorem enterEnding_other (o : DispenseOutcome) (h : Hose) (s : State) :
    hoseCtx (enterEnding o h s) (otherHose h) = hoseCtx s (otherHose h) := by
  cases hd : (hoseCtx s h).dispense with
  | none => simp [enterEnding, hd]
  | some d => exact (enterEnding_moves o hd).1.other

theorem raises_enterEnding {a : Prt} (o : DispenseOutcome) (h : Hose) (hs : Raises a s.prt) :
    Raises a (enterEnding o h s).prt := by
  cases hd : (hoseCtx s h).dispense with
  | none => simpa [enterEnding, hd] using hs
  | some d =>
    rw [enterEnding_eq hd]
    exact raises_enterState _ _ (by simpa using hs)

theorem closeDispense_other (h : Hose) (s : State) :
    hoseCtx (closeDispense h s) (otherHose h) = hoseCtx s (otherHose h) := by
  cases hd : (hoseCtx s h).dispense with
  | none => simp [closeDispense, hd]
  | some d =>
    obtain ⟨c, -, hc⟩ := closeDispense_hoses hd
    simp [hoseCtx, hc, otherHose_ne]

theorem raises_closeOf {a : Prt} (h : Hose) (hs : Raises a s.prt) : Raises a (closeDispense h s).prt := by
  cases hd : (hoseCtx s h).dispense with
  | none => simpa [closeDispense, hd] using hs
  | some d => exact raises_closeDispense hd hs

theorem setHoseFault_other (h : Hose) (kind : FaultKind) (locked : Bool) (volume : Option Nat) (s : State) :
    (setHoseFault h kind locked volume s).hsc.faults.get (otherHose h) = s.hsc.faults.get (otherHose h) := by
  simp [setHoseFault, setFault, otherHose_ne]

theorem raises_setHoseFault {a : Prt} (h : Hose) (kind : FaultKind) (locked : Bool) (volume : Option Nat)
    (hs : Raises a s.prt) : Raises a (setHoseFault h kind locked volume s).prt :=
  (raises_recordFault _ _ _ _ (by simpa [setFault] using hs)).raiseIf _ _

/-- A fault at one hose leaves the other's context and level, and takes no event back. -/
structure FaultElsewhere (h : Hose) (s t : State) : Prop where
  ctx : hoseCtx t h = hoseCtx s h
  fault : t.hsc.faults.get h = s.hsc.faults.get h
  events : Raises s.prt t.prt

theorem hoseFault_elsewhere (h : Hose) (kind : FaultKind) (volume : Option Nat) (s : State) :
    FaultElsewhere (otherHose h) s (hoseFault h kind volume s) := by
  have hset (locked : Bool) : hoseCtx (setHoseFault h kind locked volume s) (otherHose h) = hoseCtx s (otherHose h) :=
    hoseCtx_of_hoses (by simp) _
  have hraise (locked : Bool) : Raises s.prt (setHoseFault h kind locked volume s).prt :=
    raises_setHoseFault _ _ _ _ (.refl _)
  refine ⟨?_, ?_, ?_⟩ <;> unfold hoseFault
  · split
    case h_1 | h_2 | h_3 | h_4 | h_5 => simp [enterEnding_other, modDispense_eq_putHose, otherHose_ne, hset]
    case h_6 => split <;> simp [closeDispense_other, modDispense_eq_putHose, otherHose_ne, hset]
    case h_7 | h_8 => simp [modHose_eq_putHose, otherHose_ne, hset]
    case h_9 => simp [hset, otherHose_ne]
    case h_10 => exact hset _
  · split
    case h_6 => split <;> simp [setHoseFault_other]
    all_goals simp [setHoseFault_other]
  · split
    case h_1 | h_2 | h_3 | h_4 | h_5 => exact raises_enterEnding _ _ (by simpa using hraise _)
    case h_6 =>
      split
      · exact raises_closeOf _ (hraise _)
      · simpa using hraise _
    case h_7 | h_8 | h_9 => exact raises_enterState _ _ (by simpa using hraise _)
    case h_10 => exact hraise _

theorem FailedStart.elsewhere {h : Hose} {d : Dispense} (hf : FailedStart h d s t) (ht : FaultElsewhere h t u) :
    FailedStart h d s u :=
  ⟨ht.fault.trans hf.fault, ht.ctx.trans hf.ctx, fun q => hasEvent_of_raises ht.events (hf.event q)⟩

/-- In either order of the two hoses, what one's turn reaches and the other's keeps holds in the end. -/
theorem forHoses_reaches {A B : State → Prop} {f : Hose → State → State} (both : Bool) (h : Hose)
    (hown : ∀ v, A v → B (f h v)) (hA : ∀ v, A v → A (f (otherHose h) v)) (hB : ∀ v, B v → B (f (otherHose h) v))
    (hspend : ∀ v, B v → B (spend v)) (hs : A s) : B (forHoses both f s) := by
  unfold forHoses
  cases h with
  | h1 =>
    split
    · exact hspend _ (hown _ (hA _ hs))
    · split
      · exact hspend _ (hB _ (hown _ hs))
      · exact hB _ (hown _ hs)
  | h2 =>
    split
    · exact hspend _ (hB _ (hown _ hs))
    · split
      · exact hspend _ (hown _ (hA _ hs))
      · exact hown _ (hA _ hs)

/-- Whether the failed start of its pump is the fault of a hose (R113). -/
def failsToStart (c : Comp) (s : State) (h : Hose) : Bool :=
  (s.hsc.pumps.get c).demand.get h &&
    ((hoseCtx s h).state == .priming ||
      ((hoseCtx s h).state == .paused && ((hoseCtx s h).dispense.map (·.causes.pump)).getD false))

/-- The last attempt that runs out. -/
theorem attemptExpires_last {c : Comp} {n : Nat} (hst : (s.hsc.pumps.get c).state = .starting 0 n) :
    attemptExpires c s =
      forHoses (failsToStart c s .h1 && failsToStart c s .h2)
        (fun h v => if failsToStart c s h then hoseFault h .pumpStart none v else v)
        (modPump c (fun p => { p with state := .failed, lastStartFailed := true }) (reachTime n s)) := by
  simp only [attemptExpires, hst]
  rfl

theorem attemptExpires_retried {c : Comp} {r n : Nat} (hst : (s.hsc.pumps.get c).state = .starting (r + 1) n) :
    attemptExpires c s =
      modPump c (fun p => { p with state := .starting r (max s.itu.mono n + 5000) }) (reachTime n s) := by
  simp only [attemptExpires, hst, reachTime_mono]

theorem attemptExpires_failed {c : Comp} {n : Nat} (hst : (s.hsc.pumps.get c).state = .starting 0 n) :
    PumpFailed c (attemptExpires c s) := by
  rw [attemptExpires_last hst]
  refine forHoses_preserves _ _ (fun h v hv => ?_) (fun v hv => hv.of_pumps (by simp)) _ ?_
  · split
    · exact hv.hoseFault ..
    · exact hv
  · simp [PumpFailed, modPump]

/-- What holds of a hose's context, level, events and time before the fault of the other's. -/
def Untouched (h : Hose) (s v : State) : Prop := FaultElsewhere h s v ∧ v.itu = s.itu

theorem FaultElsewhere.trans {h : Hose} (h1 : FaultElsewhere h s t) (h2 : FaultElsewhere h t u) :
    FaultElsewhere h s u := by
  obtain ⟨set, hset⟩ := h1.events
  obtain ⟨set', hset'⟩ := h2.events
  refine ⟨h2.ctx.trans h1.ctx, h2.fault.trans h1.fault, set ||| set', ?_⟩
  simp [hset', hset, PerPort.map, BitVec.or_assoc]

/-- A hose's turn in the failed start, as the other hose sees it. -/
theorem failedTurn_elsewhere (c : Comp) (h : Hose) (s v : State) :
    FaultElsewhere (otherHose h) v (if failsToStart c s h then hoseFault h .pumpStart none v else v) := by
  split
  · exact hoseFault_elsewhere ..
  · exact ⟨rfl, rfl, .refl _⟩

theorem otherHose_otherHose (h : Hose) : otherHose (otherHose h) = h := by cases h <;> rfl

theorem failedTurn_itu (c : Comp) (h : Hose) (s v : State) :
    (if failsToStart c s h then hoseFault h .pumpStart none v else v).itu = v.itu := by
  split <;> simp

theorem attemptExpires_hit {c : Comp} {n : Nat} {h : Hose} {d : Dispense}
    (hst : (s.hsc.pumps.get c).state = .starting 0 n) (hhit : failsToStart c s h = true)
    (hwaits : (hoseCtx s h).state = .priming ∨ (hoseCtx s h).state = .paused) (hd : (hoseCtx s h).dispense = some d) :
    FailedStart h d (reachTime n s) (attemptExpires c s) := by
  rw [attemptExpires_last hst]
  have helse (v : State) := failedTurn_elsewhere c (otherHose h) s v
  simp only [otherHose_otherHose] at helse
  refine forHoses_reaches (A := Untouched h (reachTime n s)) _ h (fun v hv => ?_) (fun v hv => ?_) (fun v hv => ?_)
    (fun v hv => hv.elsewhere ⟨rfl, rfl, .refl _⟩) ⟨⟨rfl, rfl, .refl _⟩, rfl⟩
  · obtain ⟨⟨hctx, -, -⟩, hitu⟩ := hv
    have hctx : hoseCtx v h = hoseCtx s h := hctx
    rw [if_pos hhit]
    obtain ⟨hfault, hends, hevent⟩ := hoseFault_failedStart (s := v) (h := h) (by rwa [hctx]) (by rwa [hctx])
    exact ⟨hfault, by rw [hends, hctx, hitu]; rfl, hevent⟩
  · exact ⟨hv.1.trans (helse v), (failedTurn_itu ..).trans hv.2⟩
  · exact hv.elsewhere (helse v)

theorem attemptExpires_miss {c : Comp} {n : Nat} {h : Hose} (hst : (s.hsc.pumps.get c).state = .starting 0 n)
    (hmiss : failsToStart c s h = false) : hoseCtx (attemptExpires c s) h = hoseCtx s h := by
  rw [attemptExpires_last hst]
  have helse (v : State) := failedTurn_elsewhere c (otherHose h) s v
  simp only [otherHose_otherHose] at helse
  refine forHoses_reaches (A := fun v => hoseCtx v h = hoseCtx s h) (B := fun v => hoseCtx v h = hoseCtx s h) _ h
    (fun v hv => ?_) (fun v hv => (helse v).ctx.trans hv) (fun v hv => (helse v).ctx.trans hv) (fun v hv => hv) rfl
  rwa [hmiss]

/-- Settles O43. -/
theorem pumpConfirmationAndAttempts : Obligations.PumpConfirmationAndAttempts := by
  refine ⟨fun c s hin => ⟨?_, fun hst => ?_⟩, fun c s hin => ⟨fun hst => ?_, fun hst => ?_⟩,
    fun c r n s hst => ⟨fun hr => ?_, fun hr => ?_⟩⟩
  · rintro ⟨r, d, hst⟩
    have hexec : exec (.pumpRunActive c) s = .next (pumpRuns c (withInput (pumpInput c) true s)) := by
      show Host.Outcome.next _ = _
      rw [changeInput_of_change (by simpa using hin), inputEvent_pumpRun]
      simp [runConfirmed, hst]
    refine ⟨_, hexec, ?_, ?_, fun h => pumpRuns_ctx c h (withInput (pumpInput c) true s)⟩
    · simpa [inputActive, pumpRuns] using inputActive_withInput (pumpInput c) true s
    · simp [pumpRuns, modPump]
  · have hexec : exec (.pumpRunActive c) s = .next (withInput (pumpInput c) true s) := by
      show Host.Outcome.next _ = _
      rw [changeInput_of_change (by simpa using hin), inputEvent_pumpRun]
      cases hp : (s.hsc.pumps.get c).state with
      | starting r d => exact absurd hp (hst r d)
      | stopped | running | failed => simp [runConfirmed, hp]
    exact ⟨_, hexec, inputActive_withInput .., withInput_itu ..⟩
  · have hexec : exec (.pumpRunInactive c) s = .next (runLost c (withInput (pumpInput c) false s)) := by
      show Host.Outcome.next _ = _
      rw [changeInput_of_change (by simpa using hin), inputEvent_pumpRun]
      rfl
    refine ⟨_, hexec, ?_, ?_, runLost_ctx (s := withInput (pumpInput c) false s) (by simpa using hst)⟩
    · simpa [inputActive, runLost, hst] using inputActive_withInput (pumpInput c) false s
    · simp [runLost, hst, modPump]
  · have hexec : exec (.pumpRunInactive c) s = .next (withInput (pumpInput c) false s) := by
      show Host.Outcome.next _ = _
      rw [changeInput_of_change (by simpa using hin), inputEvent_pumpRun]
      cases hp : (s.hsc.pumps.get c).state with
      | running => exact absurd hp hst
      | stopped | starting | failed => simp [runLost, hp]
    exact ⟨_, hexec, inputActive_withInput .., withInput_itu ..⟩
  · obtain ⟨r, rfl⟩ := Nat.exists_eq_succ_of_ne_zero hr
    have hexec : exec (.attemptTimerExpiry c) s = .next
        (modPump c (fun p => { p with state := .starting r (max s.itu.mono n + 5000) }) (reachTime n s)) := by
      rw [← attemptExpires_retried hst]
      rfl
    exact ⟨_, hexec, rfl, rfl, rfl⟩
  · subst hr
    obtain ⟨hfailed, hmark⟩ := attemptExpires_failed hst
    refine ⟨_, rfl, hfailed, hmark, fun h d hdem hd => ⟨fun hwaits => ?_, fun hpaused hpump => ?_⟩⟩
    · have hhit : failsToStart c s h = true := by
        rcases hwaits with hprim | ⟨hpaused, hpump⟩
        · simp [failsToStart, hdem, hprim]
        · simp [failsToStart, hdem, hpaused, hd, hpump]
      obtain ⟨hfault, hctx, hevent⟩ := attemptExpires_hit hst hhit (hwaits.imp_right And.left) hd
      exact ⟨hfault, hctx, hevent⟩
    · exact attemptExpires_miss hst (by simp [failsToStart, hpaused, hd, hpump])

end Sys2Proof.Machine
end

section
/-! PROOFS. Calibration mode begins and ends (R174, R175, R184). -/

namespace Sys2Proof.Machine

variable {s t u : State}

/-! ## The end of the mode -/

/-- A proving run that the end of the mode stops, where the hose is in one (R175). -/
def stopRun (h : Hose) (s : State) : State := if inProving (hoseCtx s h) then endIf .stopped h s else s

theorem endCalibration_eq (s : State) :
    endCalibration s = raise .calibration (stopRun .h2 (stopRun .h1 (modCal (fun c => { c with on := false }) s))) :=
  rfl

@[simp] theorem stopRun_frame (h : Hose) (s : State) :
    (stopRun h s).mtr = s.mtr ∧ (stopRun h s).stk = s.stk ∧ (stopRun h s).jnl = s.jnl ∧ (stopRun h s).cal = s.cal ∧
      (stopRun h s).itu = s.itu := by
  unfold stopRun
  split <;> simp

/-- What the end of the mode makes of a hose's context. -/
structure RunStopped (h : Hose) (s : State) (x : HoseCtx) : Prop where
  stopped : ∀ d, (hoseCtx s h).dispense = some d → d.proving = true → inDemand (hoseCtx s h).state = true →
    x = endingCtx .stopped s.itu.mono d (hoseCtx s h)
  kept : inProving (hoseCtx s h) = false ∨ inDemand (hoseCtx s h).state = false → x = hoseCtx s h

theorem RunStopped.congr {h : Hose} {x : HoseCtx} (hx : RunStopped h t x) (hctx : hoseCtx t h = hoseCtx s h)
    (hmono : t.itu.mono = s.itu.mono) : RunStopped h s x := by
  obtain ⟨hstopped, hkept⟩ := hx
  rw [hctx, hmono] at hstopped
  rw [hctx] at hkept
  exact ⟨hstopped, hkept⟩

theorem stopRun_ctx (h : Hose) (s : State) : RunStopped h s (hoseCtx (stopRun h s) h) := by
  refine ⟨fun d hd hproving hdem => ?_, fun hno => ?_⟩
  · have hin : inProving (hoseCtx s h) = true := by simp [inProving, hd, hproving]
    rw [stopRun, if_pos hin, endIf, if_pos hdem]
    exact (enterEnding_moves .stopped hd).2.1
  · rcases hno with hno | hno <;> simp [stopRun, endIf, hno]

theorem stopRun_other (h : Hose) (s : State) : hoseCtx (stopRun h s) (otherHose h) = hoseCtx s (otherHose h) := by
  unfold stopRun endIf
  split
  · split
    · exact enterEnding_other ..
    · rfl
  · rfl

theorem endCalibration_ctx (h : Hose) (s : State) : RunStopped h s (hoseCtx (endCalibration s) h) := by
  rw [endCalibration_eq]
  cases h with
  | h1 =>
    have hother (v : State) : hoseCtx (stopRun .h2 v) .h1 = hoseCtx v .h1 := stopRun_other .h2 v
    have hx := stopRun_ctx .h1 (modCal (fun c => { c with on := false }) s)
    rw [← hother] at hx
    exact hx.congr rfl rfl
  | h2 =>
    have hother (v : State) : hoseCtx (stopRun .h1 v) .h2 = hoseCtx v .h2 := stopRun_other .h1 v
    exact (stopRun_ctx .h2 (stopRun .h1 (modCal (fun c => { c with on := false }) s))).congr (hother _) (by simp)

/-- What the end of the mode leaves. -/
structure ModeEnded (s t : State) : Prop where
  cal : t.cal = { s.cal with on := false }
  rest : t.mtr = s.mtr ∧ t.stk = s.stk ∧ t.jnl = s.jnl
  event : ∀ q, hasEvent (t.prt.ports.get q).pending .calibration = true
  hose : ∀ h, RunStopped h s (hoseCtx t h)

theorem endCalibration_ended (s : State) : ModeEnded s (endCalibration s) where
  cal := by rw [endCalibration_eq]; simp [modCal]
  rest := by simp
  event := fun q => by rw [endCalibration_eq]; exact hasEvent_raise ..
  hose := fun h => endCalibration_ctx h s

/-- It begins from any state that agrees in what it reads. -/
theorem ModeEnded.congr (he : ModeEnded u t) (hcal : u.cal = s.cal) (hmtr : u.mtr = s.mtr) (hstk : u.stk = s.stk)
    (hjnl : u.jnl = s.jnl) (hhsc : u.hsc = s.hsc) (hmono : u.itu.mono = s.itu.mono) : ModeEnded s t := by
  obtain ⟨hc, hrest, hevent, hhose⟩ := he
  rw [hcal] at hc
  rw [hmtr, hstk, hjnl] at hrest
  exact ⟨hc, hrest, hevent, fun h => (hhose h).congr (by rw [hoseCtx, hhsc]; rfl) hmono⟩

theorem ModeEnded.of_wake (he : ModeEnded (wake s) t) : ModeEnded s t :=
  he.congr (by simp) (by simp) (by simp) (by simp) (by simp) (by simp)

/-! ## The requests -/

theorem partInUse_iff (s : State) : partInUse s = true ↔
    inUse (hoseCtx s .h1).state = true ∨ inUse (hoseCtx s .h2).state = true ∨ s.rcp.receipt.state ≠ .idle ∨
      (compartment s .c1).op = .reconciling ∨ (compartment s .c2).op = .reconciling := by
  simp [partInUse, or_assoc]

theorem partInUse_wake (s : State) : partInUse (wake s) = partInUse s := by
  simp [partInUse, compartment]

theorem inputActive_wake (s : State) (i : Input) : inputActive (wake s) i = inputActive s i := by
  simp [inputActive]

/-- Settles O55. -/
theorem calibrationModeBeginsAndEnds : Obligations.CalibrationModeBeginsAndEnds := by
  have hended {s t : State} (he : ModeEnded s t) :
      t.cal = { s.cal with on := false } ∧ t.mtr = s.mtr ∧ t.stk = s.stk ∧ t.jnl = s.jnl ∧
      (∀ q, hasEvent (t.prt.ports.get q).pending .calibration = true) ∧
      ∀ h, (∀ d, (hoseCtx s h).dispense = some d → d.proving = true → inDemand (hoseCtx s h).state = true →
            hoseCtx t h = endingCtx .stopped s.itu.mono d (hoseCtx s h)) ∧
        (inProving (hoseCtx s h) = false ∨ inDemand (hoseCtx s h).state = false → hoseCtx t h = hoseCtx s h) :=
    ⟨he.cal, he.rest.1, he.rest.2.1, he.rest.2.2, he.event, fun h => ⟨(he.hose h).stopped, (he.hose h).kept⟩⟩
  refine ⟨fun s ht => ?_, fun s => ⟨fun ht => ⟨fun hoff => ?_, fun hon => ?_⟩, fun hin => ?_⟩, fun s hin => ?_,
    fun p s ht => ?_⟩
  · dsimp only
    rw [exec_eq_answered (k := .enterCalibration) rfl rfl ht]
    simp only [reqEnterCalibration, wake_frame, inputActive_wake, partInUse_wake, Bool.not_eq_true']
    split
    · rfl
    next hoff =>
      split
      · rfl
      next hclosed =>
        split
        next huse => rw [if_pos ((partInUse_iff s).mpr huse)]
        next hfree =>
          rw [if_neg (fun huse => hfree ((partInUse_iff s).mp huse))]
          refine ⟨_, rfl, rfl, fun q => hasEvent_raise .calibration _ q, ?_⟩
          obtain ⟨_, _, hw⟩ := wake_eq s
          rw [hw]
          rfl
  · rw [exec_eq_answered (k := .exitCalibration) rfl rfl ht]
    simp [reqExitCalibration, hoff]
  · rw [exec_eq_answered (k := .exitCalibration) rfl rfl ht]
    simp only [reqExitCalibration, wake_frame, hon, if_true]
    exact ⟨_, rfl, hended (endCalibration_ended (wake s)).of_wake⟩
  · have hexec : exec .calSwitchInactive s = .next (switchOpens (withInput .calSwitch false s)) := by
      show Host.Outcome.next _ = _
      rw [changeInput_of_change (by simpa using hin)]
      rfl
    have hpower : powerFail (withInput .calSwitch false s) = powerFail s := rfl
    refine ⟨_, hexec, ?_, fun hon hpf => ?_, fun hno => ?_⟩
    · have hitu : (switchOpens (withInput .calSwitch false s)).itu = (withInput .calSwitch false s).itu := by
        unfold switchOpens
        split <;> simp
      rw [inputActive, hitu]
      exact inputActive_withInput ..
    · rw [switchOpens, if_pos (by simp [hpower, hon, hpf])]
      exact hended ((endCalibration_ended _).congr rfl rfl rfl rfl rfl rfl)
    · rw [switchOpens, if_neg (by rcases hno with hno | hno <;> simp [hpower, hno])]
      exact withInput_itu ..
  · have hexec : exec .calSwitchActive s = .next (withInput .calSwitch true s) := by
      show Host.Outcome.next _ = _
      rw [changeInput_of_change (by simpa using hin)]
      rfl
    exact ⟨_, hexec, inputActive_withInput .., withInput_itu ..⟩
  · rw [exec_eq_answered rfl rfl ht]
    obtain ⟨_, _, hw⟩ := wake_eq s
    rw [hw]
    rfl

end Sys2Proof.Machine
end

section
/-! PROOFS. The clock's tick and its work, and the idle timer (R54, R57, R67, R191, R192). -/

namespace Sys2Proof.Machine

variable {s t u : State}

/-! ## The rollover -/

theorem rolloverDue_iff (s : State) : rolloverDue s = true ↔
    s.itu.clockValid = true ∧ s.mtb.periodDay < (s.itu.clock - s.mtb.dayStart * 60) / 86400 := by
  simp only [rolloverDue, Bool.and_eq_true, decide_eq_true_eq]
  rfl

/-- After an evaluation no rollover is due. -/
theorem rolloverDue_evalRollover (s : State) : rolloverDue (evalRollover s) = false := by
  unfold evalRollover
  split
  · simp [rolloverDue, currentDay, modMtb]
  next hdue => simpa using hdue

/-! ## The watches -/

theorem watchDue_armed {r : GroupRule} {d : Nat} (hr : r.watch = .armed d) :
    watchDue s r = (s.itu.clockValid && decide (d ≤ s.itu.clock)) := by
  simp [watchDue, hr]

theorem expireWatch_due {i : Nat} {r : GroupRule} (hr : s.mtb.rules[i]? = some r) (hdue : watchDue s r = true) :
    expireWatch i s =
      raise .groupOverdue (modMtb (fun m => { m with rules := m.rules.set i { r with watch := .overdue } }) s) := by
  simp [expireWatch, hr, hdue]

theorem expireWatch_not_due {i : Nat} {r : GroupRule} (hr : s.mtb.rules[i]? = some r) (hdue : watchDue s r = false) :
    expireWatch i s = s := by
  simp [expireWatch, hr, hdue]

/-! ## The prices -/

theorem activationAllowed_iff (s : State) : activationAllowed s = true ↔
    powerFail s = false ∧ freeSlots s.jnl ≠ 0 ∧ saturated s.jnl = false := by
  simp [activationAllowed, Nat.pos_iff_ne_zero, and_assoc]

theorem activationAllowed_eq_false_iff (s : State) : activationAllowed s = false ↔
    powerFail s = true ∨ freeSlots s.jnl = 0 ∨ saturated s.jnl = true := by
  rw [← Bool.not_eq_true, activationAllowed_iff]
  by_cases hf : freeSlots s.jnl = 0 <;> cases powerFail s <;> cases saturated s.jnl <;> simp [hf]

theorem activatePrice_of_none {c : Comp} (hn : dueFor s c = none) : activatePrice c s = s := by
  simp [activatePrice, hn]

theorem activatePrice_not_allowed (c : Comp) (hno : activationAllowed s = false) : activatePrice c s = s := by
  unfold activatePrice
  rw [hno]
  split <;> rfl

theorem activatePrice_allowed {c : Comp} {p : PendingPrice} (hp : dueFor s c = some p)
    (hallowed : activationAllowed s = true) :
    activatePrice c s =
      raise .priceChanged (modPrice c (fun r => { r with current := some p.price, pending := none })
        (recordAdjust .price (Subject.ofComp c) ((priceRecord s c).current.map Int.ofNat) p.price p.origin s)) := by
  simp [activatePrice, hp, hallowed]

/-- The row of a price is its activation; C2's comes after C1's, which is then not due. -/
theorem exec_priceActivation {c : Comp} (hfirst : c = .c2 → dueFor s .c1 = none) :
    exec (.priceActivation c) s = .next (activatePrice c s) := by
  cases c with
  | c1 => rfl
  | c2 =>
    show Host.Outcome.next (activatePrice .c2 (activatePrice .c1 s)) = _
    rw [activatePrice_of_none (hfirst rfl)]

/-- A price that waits after its activation was tried has a condition that fails. -/
theorem activatePrice_waiting {c : Comp} (hw : priceWaiting (activatePrice c s) c = true) :
    activationAllowed s = false := by
  by_contra hne
  rw [Bool.not_eq_false] at hne
  cases hp : dueFor s c with
  | none =>
    rw [activatePrice_of_none hp] at hw
    simp [priceWaiting, hp] at hw
  | some p =>
    rw [activatePrice_allowed hp hne] at hw
    simp [priceWaiting, dueFor, modPrice, modBil, priceRecord, Option.filter] at hw

theorem activatePrices_waiting {c : Comp} (hw : priceWaiting (activatePrices s) c = true) :
    activationAllowed (activatePrices s) = false := by
  cases c with
  | c1 =>
    have hbefore : priceWaiting (activatePrices s) .c1 = priceWaiting (activatePrice .c1 s) .c1 := by
      have hrec : priceRecord (activatePrices s) .c1 = priceRecord (activatePrice .c1 s) .c1 := by
        unfold activatePrices
        generalize activatePrice .c1 s = v
        unfold activatePrice
        (repeat' split) <;> simp [priceRecord, modPrice, modBil, recordAdjust]
      simp [priceWaiting, dueFor, hrec]
    rw [hbefore] at hw
    have hno := activatePrice_waiting hw
    rw [activatePrices, activatePrice_not_allowed .c1 hno, activatePrice_not_allowed .c2 hno]
    exact hno
  | c2 =>
    have hno := activatePrice_waiting hw
    rw [activatePrices, activatePrice_not_allowed .c2 hno]
    exact hno

theorem dueFor_some {c : Comp} {x : PendingPrice} (hx : (priceRecord s c).pending = some x)
    (hvalid : s.itu.clockValid = true) (hle : x.effective ≤ s.itu.clock) : dueFor s c = some x := by
  simp [dueFor, hx, hvalid, hle, Option.filter]

/-- Settles O58. -/
theorem clockAndIdleTimer : Obligations.ClockAndIdleTimer := by
  refine ⟨fun s => rfl, fun s => ⟨fun hvalid hlt => ?_, fun hno => ?_⟩,
    fun i d r s hr harmed => ⟨fun hvalid hle => ?_, fun hno => ?_⟩,
    fun c x s hx hvalid hle hfirst => ⟨fun hpf hslot hsat => ?_, fun hno => ?_⟩, fun d s hd => ?_⟩
  · have hexec : exec .rollover s = .next (raise .periodRollover (modMtb (fun m => { m with
        machines := m.machines.map fun e => { e with consumed := ⟨0, 0⟩ }
        periodDay := siteDay s.itu.clock m.dayStart }) s)) := by
      simp [exec, execRollover, evalRollover, (rolloverDue_iff s).mpr ⟨hvalid, hlt⟩]
    exact ⟨_, hexec, rfl, rfl, fun q => hasEvent_raise ..⟩
  · have hdue : rolloverDue s = false := by
      rw [← Bool.not_eq_true, rolloverDue_iff]
      rintro ⟨hvalid, hlt⟩
      rcases hno with hinv | hle
      · exact absurd hvalid (by simp [hinv])
      · exact absurd hlt (not_lt.mpr hle)
    simp [exec, execRollover, evalRollover, hdue]
  · have hdue : watchDue s r = true := by simp [watchDue_armed harmed, hvalid, hle]
    have hexec : exec (.watchExpiry i) s = .next (expireWatch i s) := rfl
    rw [hexec, expireWatch_due hr hdue]
    exact ⟨_, rfl, rfl, rfl, fun q => hasEvent_raise ..⟩
  · have hdue : watchDue s r = false := by
      rcases hno with hno | hno <;> simp [watchDue_armed harmed, hno]
    have hexec : exec (.watchExpiry i) s = .next (expireWatch i s) := rfl
    rw [hexec, expireWatch_not_due hr hdue]
  · rw [exec_priceActivation hfirst, activatePrice_allowed (dueFor_some hx hvalid hle)
      ((activationAllowed_iff s).mpr ⟨hpf, hslot, hsat⟩)]
    refine ⟨_, rfl, ?_, ?_, fun q => hasEvent_raise .., ?_⟩
    · simp [priceRecord, modPrice, modBil, recordAdjust]
    · simp [modPrice, recordAdjust, writeClosed, takeSlot_jnl, appended]
    · simp only [recordAdjust, writeClosed_eq, raiseIf]
      split <;> rfl
  · rw [exec_priceActivation hfirst, activatePrice_not_allowed c ((activationAllowed_eq_false_iff s).mpr hno)]
  · have hexec : exec .idleTimerExpiry s =
        .next (raise .idleExpired (modItu (fun x => { x with idleDeadline := none }) (reachTime d s))) := by
      simp [exec, execIdleTimerExpiry, expireIdle, hd]
    exact ⟨_, hexec, rfl, rfl, fun q => hasEvent_raise ..⟩

end Sys2Proof.Machine
end

section
/-! PROOFS. The requests about the site's inputs, time, idle timer, standby and events (R186, R191 to R195, R201). -/

namespace Sys2Proof.Machine

variable {s t u : State}

/-! ## INPUT SETTINGS PUT (R186) -/

@[simp] theorem PerInput.set_set {α : Type} (x : PerInput α) (i : Input) (v w : α) :
    (x.set i v).set i w = x.set i w := by
  cases i <;> rfl

theorem exec_inputRow (i : Input) (active : Bool) (s : State) :
    exec (inputRow i active) s = .next (changeInput i active s) := by
  cases i <;> cases active <;> rfl

theorem settableInputOf_ctorIdx {i : Input} (he : i ≠ .estop) (hp : i ≠ .powerfail) :
    settableInputOf i.ctorIdx = some i := by
  cases i <;> first | rfl | contradiction

theorem settableInputOf_eq_none {n : Nat} (hn : n < 2 ∨ 11 < n) : settableInputOf n = none := by
  unfold settableInputOf
  split <;> first | omega | rfl

theorem setInput_same {i : Input} {low : Bool} (hlow : (s.itu.inputs.get i).activeLow = low) (v : Nat) :
    setInput i low v s = modInput i (fun x => { x with activeLow := low, debounce := v }) s := by
  simp [setInput, hlow]

theorem setInput_turned {i : Input} {low : Bool} (hlow : (s.itu.inputs.get i).activeLow ≠ low) (v : Nat) :
    setInput i low v s = retakeInput i (modInput i (fun x => { x with activeLow := low, debounce := v }) s) := by
  simp [setInput, hlow]

theorem modInput_modInput (i : Input) (f g : InputState → InputState) (s : State) :
    modInput i f (modInput i g s) = modInput i (fun x => f (g x)) s := by
  cases i <;> rfl

theorem modInput_congr {i : Input} {f g : InputState → InputState}
    (hfg : f (s.itu.inputs.get i) = g (s.itu.inputs.get i)) : modInput i f s = modInput i g s := by
  simp only [modInput, modItu, hfg]

theorem modInput_wake (i : Input) (f : InputState → InputState) (s : State) :
    modInput i f (wake s) =
      { wake s with itu := { (wake s).itu with inputs := s.itu.inputs.set i (f (s.itu.inputs.get i)) } } := by
  simp [modInput, modItu]

/-- A polarity that is new, under which the input keeps its state. -/
theorem retakeInput_same {i : Input} {low : Bool} {v : Nat}
    (hsame : ((s.itu.inputs.get i).level != low) = (s.itu.inputs.get i).active) :
    retakeInput i (modInput i (fun x => { x with activeLow := low, debounce := v }) s) =
      modInput i (fun x => { x with activeLow := low, debounce := v, heldAt := none }) s := by
  have hget : (modInput i (fun x => { x with activeLow := low, debounce := v }) s).itu.inputs.get i =
      { s.itu.inputs.get i with activeLow := low, debounce := v } := by simp [modInput]
  have hset : modInput i (fun x => { x with active := (s.itu.inputs.get i).active, heldAt := none })
      (modInput i (fun x => { x with activeLow := low, debounce := v }) s) =
      modInput i (fun x => { x with activeLow := low, debounce := v, heldAt := none }) s := by
    rw [modInput_modInput]
    exact modInput_congr rfl
  simp only [retakeInput, hget, levelState, hsame, BEq.rfl, if_true, hset]

/-- One under which it changes: the event of the new state. -/
theorem retakeInput_changed {i : Input} {low : Bool} {v : Nat}
    (hne : ((s.itu.inputs.get i).level != low) ≠ (s.itu.inputs.get i).active) :
    retakeInput i (modInput i (fun x => { x with activeLow := low, debounce := v }) s) =
      changeInput i ((s.itu.inputs.get i).level != low)
        (modInput i (fun x => { x with activeLow := low, debounce := v }) s) := by
  have hget : (modInput i (fun x => { x with activeLow := low, debounce := v }) s).itu.inputs.get i =
      { s.itu.inputs.get i with activeLow := low, debounce := v } := by simp [modInput]
  have hlevel : (((s.itu.inputs.get i).level != low) != low) = (s.itu.inputs.get i).level := by simp
  have hbeq : ((s.itu.inputs.get i).active == ((s.itu.inputs.get i).level != low)) = false :=
    beq_eq_false_iff_ne.mpr (Ne.symm hne)
  have hset : modInput i (fun x => { x with active := (s.itu.inputs.get i).level != low, heldAt := none })
      (modInput i (fun x => { x with activeLow := low, debounce := v }) s) =
      modInput i (fun x => { x with
        active := (s.itu.inputs.get i).level != low, level := ((s.itu.inputs.get i).level != low) != x.activeLow,
        heldAt := none }) (modInput i (fun x => { x with activeLow := low, debounce := v }) s) := by
    rw [modInput_modInput, modInput_modInput]
    exact modInput_congr (by simp only [hlevel])
  simp only [retakeInput, changeInput, inputActive, hget, levelState, hbeq, hset, Bool.false_eq_true, if_false]

theorem changeInput_inputs {i : Input} {active : Bool} (hne : inputActive s i = !active) :
    (changeInput i active s).itu.inputs = s.itu.inputs.set i
      { s.itu.inputs.get i with
        active := active, level := active != (s.itu.inputs.get i).activeLow, heldAt := none } := by
  rw [changeInput_of_change hne]
  simp [withInput, modInput]

theorem ne_eq_not {a b : Bool} (h : a ≠ b) : b = !a := by
  cases a <;> cases b <;> simp_all

/-! ## SET TIME (R191) -/

theorem expireWatch_rules (i : Nat) (s : State) {j : Nat} {r : GroupRule}
    (hr : (expireWatch i s).mtb.rules[j]? = some r) : s.mtb.rules[j]? = some r ∨ watchDue s r = false := by
  cases hri : s.mtb.rules[i]? with
  | none => exact .inl (by simpa [expireWatch, hri] using hr)
  | some x =>
    cases hdue : watchDue s x with
    | false => exact .inl (by simpa [expireWatch_not_due hri hdue] using hr)
    | true =>
      rw [expireWatch_due hri hdue] at hr
      by_cases hij : i = j
      · subst hij
        have hlt : i < s.mtb.rules.length := (List.getElem?_eq_some_iff.mp hri).1
        have hx : { x with watch := .overdue } = r := by simpa [modMtb, hlt] using hr
        exact .inr (by rw [← hx]; rfl)
      · exact .inl (by simpa [modMtb, hij] using hr)

/-- A watch that is due at its turn is OVERDUE after it. -/
theorem expireWatch_self (i : Nat) (s : State) {r : GroupRule} (hr : (expireWatch i s).mtb.rules[i]? = some r) :
    watchDue s r = false := by
  cases hri : s.mtb.rules[i]? with
  | none => simp [expireWatch, hri] at hr
  | some x =>
    cases hdue : watchDue s x with
    | false =>
      rw [expireWatch_not_due hri hdue, hri] at hr
      rwa [← Option.some.inj hr]
    | true =>
      rw [expireWatch_due hri hdue] at hr
      have hlt : i < s.mtb.rules.length := (List.getElem?_eq_some_iff.mp hri).1
      have hx : { x with watch := .overdue } = r := by simpa [modMtb, hlt] using hr
      rw [← hx]
      rfl

theorem watchDue_congr (hitu : t.itu = s.itu) (r : GroupRule) : watchDue t r = watchDue s r := by
  simp only [watchDue, hitu]

/-- After the turns of a list of rules no rule of them is due. -/
theorem expireWatches_settles (l : List Nat) (s : State) {j : Nat} (hj : j ∈ l) {r : GroupRule}
    (hr : (l.foldl (fun s i => expireWatch i s) s).mtb.rules[j]? = some r) : watchDue s r = false := by
  have hkept (l : List Nat) (v : State) (hr : (l.foldl (fun s i => expireWatch i s) v).mtb.rules[j]? = some r) :
      v.mtb.rules[j]? = some r ∨ watchDue v r = false := by
    induction l generalizing v with
    | nil => exact .inl hr
    | cons i rest ih =>
      rcases ih (expireWatch i v) hr with hr | hdue
      · exact expireWatch_rules i v hr
      · exact .inr (by rwa [watchDue_congr (s := v) (by simp)] at hdue)
  induction l generalizing s with
  | nil => exact absurd hj (by simp)
  | cons i rest ih =>
    rcases List.mem_cons.mp hj with rfl | hj
    · rcases hkept rest (expireWatch j s) hr with hr | hdue
      · exact expireWatch_self j s hr
      · rwa [watchDue_congr (s := s) (by simp)] at hdue
    · have hdue := ih (expireWatch i s) hj hr
      rwa [watchDue_congr (s := s) (by simp)] at hdue

/-- What the clock's work leaves to do. -/
theorem clockWork_done (s : State) : rolloverDue (clockWork s) = false ∧
    (∀ r ∈ (clockWork s).mtb.rules.take 8, watchDue (clockWork s) r = false) ∧
    ∀ c, priceWaiting (clockWork s) c = true → activationAllowed (clockWork s) = false := by
  refine ⟨?_, fun r hr => ?_, fun c hw => activatePrices_waiting hw⟩
  · have hroll := rolloverDue_evalRollover s
    have hday : currentDay (clockWork s) = currentDay (evalRollover s) := by simp [currentDay, clockWork]
    have hperiod : (clockWork s).mtb.periodDay = (evalRollover s).mtb.periodDay := by simp [clockWork]
    simpa [rolloverDue, hday, hperiod] using hroll
  · have hrules : (clockWork s).mtb.rules = (expireWatches (evalRollover s)).mtb.rules := by simp [clockWork]
    rw [hrules, expireWatches] at hr
    obtain ⟨j, hj, hrj⟩ := List.mem_iff_getElem.mp hr
    have hj8 : j < 8 := (List.length_take_le _ _).trans_lt' hj
    have hget : ((List.range 8).foldl (fun s i => expireWatch i s) (evalRollover s)).mtb.rules[j]? = some r := by
      rw [← hrj, List.getElem_take, List.getElem?_eq_getElem]
    rw [watchDue_congr (s := evalRollover s) (by simp)]
    exact expireWatches_settles (List.range 8) (evalRollover s) (List.mem_range.mpr hj8) hget

/-! ## ENTER STANDBY (R193) -/

theorem wake_itu_standby (s : State) :
    { (wake s).itu with standby := true, idleDeadline := none } = { s.itu with standby := true, idleDeadline := none } := by
  obtain ⟨_, _, hw⟩ := wake_eq s
  rw [hw]

theorem refreshReader_standby {h : Hose} (hs : s.itu.standby = true) :
    ((refreshReader h s).idu.readers.get h).enabled = false := by
  rw [refreshReader_enabled, readerWanted, hs]
  simp

theorem enterStandbyNow_readers (s : State) (h : Hose) :
    ((enterStandbyNow s).idu.readers.get h).enabled = false := by
  unfold enterStandbyNow
  cases h with
  | h1 =>
    have hother (v : State) : (refreshReader .h2 v).idu.readers.get .h1 = v.idu.readers.get .h1 :=
      refreshReader_other .h2 v
    rw [hother]
    exact refreshReader_standby rfl
  | h2 => exact refreshReader_standby (by simp [modTpi, modItu])

/-! ## The event sets (R201) -/

theorem badKinds_eq (n : Nat) : badKinds n = decide (16777215 < n) := by
  simp only [badKinds]
  congr 1

theorem settingsAnswer_debounce (v ms : Nat) :
    settingsAnswer (v != ms) [.nat 2 v] =
      if v = ms then plain .ok else { status := .okClamped, payload := [.nat 2 v] } := settingsAnswer_eq ..

section InputSettings

variable {i : Input} (he : i ≠ .estop) (hp : i ≠ .powerfail) (low : Bool) (ms : Nat)
include he hp

theorem reqInputSettingsPut_settable (s : State) :
    reqInputSettingsPut i.ctorIdx (boolCode low) ms s =
      (setInput i low (nearestDebounce ms) s,
       if nearestDebounce ms = ms then plain .ok
       else { status := .okClamped, payload := [.nat 2 (nearestDebounce ms)] }) := by
  have hlow : yesNoOf (boolCode low) = some low := by cases low <;> rfl
  simp only [reqInputSettingsPut, settableInputOf_ctorIdx he hp, hlow, settingsAnswer_debounce]

end InputSettings

/-- Settles O57. -/
theorem siteAndEventRequests : Obligations.SiteAndEventRequests := by
  refine ⟨fun i low ms s ht he hp => ?_, fun n low ms s ht hbad => ?_, fun n s ht => ⟨fun hn => ?_, fun hn => ?_⟩,
    fun n set p s ht hp => ⟨fun hset => ?_, fun hset => ?_⟩, fun s ht => ⟨fun huse => ?_, fun huse => ?_⟩,
    fun p n s ht => ?_, fun p s ht => ⟨?_, ?_, ?_, ?_⟩⟩
  · dsimp only
    rw [exec_eq_answered (k := .inputSettingsPut) rfl rfl ht, reqInputSettingsPut_settable he hp]
    refine ⟨fun hlow => ?_, fun hlow hsame => ?_, fun hlow hne => ?_⟩
    · rw [setInput_same (by simpa using hlow.symm), modInput_wake]
      simp only [hlow]
      rfl
    · rw [setInput_turned (by simpa using hlow.symm), retakeInput_same (by simpa using hsame), modInput_wake]
      rfl
    · rw [setInput_turned (by simpa using hlow.symm), retakeInput_changed (by simpa using hne), modInput_wake]
      refine ⟨_, rfl, ?_, ?_⟩
      · rw [exec_inputRow]
        simp
        rfl
      · rw [changeInput_inputs]
        · simp
          rfl
        · simpa [inputActive] using ne_eq_not hne
  · rw [exec_eq_answered (k := .inputSettingsPut) rfl rfl ht]
    rcases or_assoc.mpr hbad with hn | hlow
    · simp [reqInputSettingsPut, settableInputOf_eq_none hn]
    · rw [reqInputSettingsPut, yesNoOf_eq_none hlow]
      split
      next h => exact absurd h (by simp)
      next => rfl
  · rw [exec_eq_answered (k := .setTime) rfl rfl ht]
    simp [reqSetTime, hn]
  · rw [exec_eq_answered (k := .setTime) rfl rfl ht]
    simp only [reqSetTime, if_neg (not_lt.mpr hn)]
    obtain ⟨hroll, hwatch, hprice⟩ :=
      clockWork_done (modItu (fun x => { x with clock := n, clockValid := true }) (wake s))
    exact ⟨_, by simp [yesNo, boolCode], by simp [modItu], hroll, hwatch,
      fun c hw => (activationAllowed_eq_false_iff _).mp (hprice c hw)⟩
  · rw [exec_eq_answered (k := .idleSettingsPut) rfl (not_onlyService hp) ht]
    simp [reqIdleSettingsPut, hset]
  · rw [exec_eq_answered (k := .idleSettingsPut) rfl (not_onlyService hp) ht]
    have hclamp : clampNat 1 240 n = n ↔ 1 ≤ n ∧ n ≤ 240 := clampNat_eq_self_iff (by norm_num) n
    simp only [reqIdleSettingsPut, if_neg (not_lt.mpr hset), settingsAnswer_eq, hclamp]
    rfl
  · rw [exec_eq_answered (k := .enterStandby) rfl rfl ht]
    simp [reqEnterStandby, partInUse_wake, huse]
  · rw [exec_eq_answered (k := .enterStandby) rfl rfl ht]
    simp only [reqEnterStandby, partInUse_wake, huse, Bool.false_eq_true, if_false]
    refine ⟨_, rfl, ?_, fun m => ?_, fun c => ?_, enterStandbyNow_readers (wake s), ?_⟩
    · rw [← wake_itu_standby]
      simp [enterStandbyNow, modTpi, modItu]
    · cases m <;> simp [enterStandbyNow, modTpi, modItu, PerMeter.get]
    · cases c <;> simp [enterStandbyNow, modTpi, modItu, PerComp.get]
    · simp
  · dsimp only
    refine ⟨fun hn => ⟨?_, ?_⟩, fun hn => ⟨?_, ?_⟩, ?_⟩
    · rw [exec_eq_answered (k := .ackEvents) rfl rfl ht]
      simp [reqAckEvents, badKinds_eq, hn]
    · rw [exec_eq_answered (k := .setEventMask) rfl rfl ht]
      simp [reqSetEventMask, badKinds_eq, hn]
    · rw [exec_eq_answered (k := .ackEvents) rfl rfl ht]
      simp [reqAckEvents, badKinds_eq, not_lt.mpr hn, modPort, setField]
    · rw [exec_eq_answered (k := .setEventMask) rfl rfl ht]
      simp [reqSetEventMask, badKinds_eq, not_lt.mpr hn, modPort]
    · rw [exec_eq_answered (k := .readEvents) rfl rfl ht]
      simp [reqReadEvents, reads, setField]
  · rw [exec_eq_answered rfl rfl ht]
    obtain ⟨_, _, hw⟩ := wake_eq s
    rw [hw]
    rfl
  · rw [exec_eq_answered rfl rfl ht]
    obtain ⟨_, _, hw⟩ := wake_eq s
    rw [hw]
    rfl
  · rw [exec_eq_answered rfl rfl ht]
    obtain ⟨_, _, hw⟩ := wake_eq s
    rw [hw]
    rfl
  · rw [exec_eq_answered rfl rfl ht]
    obtain ⟨_, _, hw⟩ := wake_eq s
    rw [hw]
    rfl

end Sys2Proof.Machine
end

section
/-! PROOFS. The journal's requests, and the write of a deferred entry (R168 to R171). -/

namespace Sys2Proof.Machine

variable {s t u : State}

theorem badNumber_of {n : Nat} (h0 : n ≠ 0) (hn : n ≤ max32) : badNumber n = false := by
  simp [badNumber, h0, not_lt.mpr hn]

theorem badNumber_bad {n : Nat} (hn : n = 0 ∨ max32 < n) : badNumber n = true := by
  rcases hn with rfl | hn
  · rfl
  · simp [badNumber, hn]

/-! ## EXPORT READ (R169) -/

theorem not_onlyConsole {p : Port} (hp : p ≠ .console) : (!onlyConsole p) = true := by
  rw [onlyConsole_eq_false hp]
  rfl

theorem closedRun_eq_takeWhile (l : List Record) : closedRun l = l.takeWhile fun r => !r.isOpen := rfl

theorem counted_singletons {α : Type} (f : α → Field) (l : List α) :
    counted (l.map fun x => [f x]) = .nat 1 l.length :: l.map f := by
  have hflat : (l.map fun x => [f x]).flatten = l.map f := by
    induction l with
    | nil => rfl
    | cons x rest ih => simp [ih]
  simp [counted, hflat]

/-- The answer of EXPORT READ from a part of the ring. -/
def exportAnswer (j : Jnl) (rest : List Record) : Response :=
  let taken := (rest.takeWhile fun r => !r.isOpen).take 8
  let next := rest[taken.length]?
  okWith (.nat 1 taken.length :: taken.map (fun r => .bytes (recordImage r))
    ++ [.nat 1 (if (next.map fun r => !r.isOpen) = some true then 1 else 0),
        .optNat 4 (if taken.length < 8 then (next.filter (·.isOpen)).map (·.seq) else none),
        .nat 4 (oldestNumber j), .nat 4 j.nextSeq])

theorem exportRun_eq (rest : List Record) :
    exportRun rest =
      let taken := (rest.takeWhile fun r => !r.isOpen).take 8
      let next := rest[taken.length]?
      (taken, decide ((next.map fun r => !r.isOpen) = some true),
       if taken.length < 8 then (next.filter (·.isOpen)).map (·.seq) else none) := by
  simp only [exportRun, closedRun_eq_takeWhile]
  cases hdrop : rest.drop ((rest.takeWhile fun r => !r.isOpen).take 8).length with
  | nil =>
    have hnext : rest[((rest.takeWhile fun r => !r.isOpen).take 8).length]? = none :=
      List.getElem?_eq_none (List.drop_eq_nil_iff.mp hdrop)
    simp only [hnext]
    simp
  | cons r after =>
    have hnext : rest[((rest.takeWhile fun r => !r.isOpen).take 8).length]? = some r := by
      rw [← List.head?_drop, hdrop]
      rfl
    simp only [hnext]
    cases hopen : r.isOpen <;> simp [hopen, Option.filter]

theorem reqExportRead_eq (start : Option Nat) (s : State) (hstart : (start.map badNumber).getD false = false) :
    reqExportRead start s =
      (s, match exportStart s.jnl start with
        | none => plain .notFound
        | some rest => exportAnswer s.jnl rest) := by
  simp only [reqExportRead, reads, hstart]
  cases exportStart s.jnl start with
  | none => rfl
  | some rest =>
    simp only [exportRun_eq, exportAnswer, counted_singletons, yesNo, boolCode, decide_eq_true_eq,
      Bool.false_eq_true, if_false]

/-! ## EXPORT RELEASE (R170) -/

theorem writeDeferred_of_none {src : Source} (hn : s.jnl.deferred.get src = none) : writeDeferred src s = s := by
  simp [writeDeferred, hn]

theorem writeAllDeferred_of_empty (hsat : saturated s.jnl = false) : writeAllDeferred s = s := by
  simp only [saturated, Bool.or_eq_false_iff, Option.isSome_eq_false_iff, Option.isNone_iff_eq_none] at hsat
  obtain ⟨⟨⟨h1, h2⟩, hinlet⟩, hpart⟩ := hsat
  rw [writeAllDeferred, writeDeferred_of_none (src := .h1) h1, writeDeferred_of_none (src := .h2) h2,
    writeDeferred_of_none (src := .inlet) hinlet, writeDeferred_of_none (src := .part) hpart]

theorem activatePrices_of_none (h1 : dueFor s .c1 = none) (h2 : dueFor s .c2 = none) : activatePrices s = s := by
  rw [activatePrices, activatePrice_of_none h1, activatePrice_of_none h2]

/-- The first source whose entry is HELD is the one the row writes. -/
theorem writeFirstDeferred_of_first {src : Source} {e : Deferred} (he : s.jnl.deferred.get src = some e)
    (hfirst : ∀ other, other.ctorIdx < src.ctorIdx → s.jnl.deferred.get other = none) :
    writeFirstDeferred s = writeDeferred src s := by
  have hnone (other : Source) (hlt : other.ctorIdx < src.ctorIdx) : (s.jnl.deferred.get other).isSome = false := by
    rw [hfirst other hlt]
    rfl
  cases src with
  | h1 => simp [writeFirstDeferred, he]
  | h2 => simp [writeFirstDeferred, he, hnone .h1 (by decide)]
  | inlet => simp [writeFirstDeferred, he, hnone .h1 (by decide), hnone .h2 (by decide)]
  | part =>
    simp [writeFirstDeferred, he, hnone .h1 (by decide), hnone .h2 (by decide), hnone .inlet (by decide)]

theorem takeSlot_rest (body : Body) (openTime : Nat) (closeTime : Option Nat) (s : State) :
    { takeSlot body openTime closeTime s with jnl := s.jnl, prt := s.prt } = s := by
  simp only [takeSlot, raiseIf]
  split <;> rfl

/-- Settles O54. -/
theorem journalRequests : Obligations.JournalRequests := by
  refine ⟨fun p s ht hp => ?_, fun n s ht h0 hn => ?_, fun p n s ht h0 hn => ?_, fun p s ht => ?_,
    fun src e s he hslot hfirst => ?_⟩
  · dsimp only
    have hread (start : Option Nat) (hstart : (start.map badNumber).getD false = false) :
        exec (.exportRead p start) s =
          answered p (match exportStart s.jnl start with
            | none => plain .notFound
            | some rest => exportAnswer s.jnl rest) (wake s) := by
      rw [exec_eq_answered (k := .exportRead) rfl (not_onlyConsole hp) ht, reqExportRead_eq _ _ hstart]
      simp only [wake_frame]
    refine ⟨hread none rfl, fun n hn => ?_, fun n h0 hn => ⟨fun i hi => ?_, fun hi => ?_, fun hi => ?_⟩⟩
    · rw [exec_eq_answered (k := .exportRead) rfl (not_onlyConsole hp) ht]
      simp [reqExportRead, reads, badNumber_bad hn]
    · rw [hread _ (by simpa using badNumber_of h0 hn), exportStart, hi]
      rfl
    · rw [hread _ (by simpa using badNumber_of h0 hn), exportStart, hi]
      rfl
    · rw [hread _ (by simpa using badNumber_of h0 hn), exportStart, hi]
  · dsimp only
    rw [exec_eq_answered (k := .exportRelease) rfl rfl ht]
    simp only [reqExportRelease, badNumber_of h0 hn, wake_frame]
    refine ⟨fun hi => ?_, fun hi => ?_, fun i hi => ⟨fun hopen => ?_, fun hclosed hsat hd1 hd2 => ?_⟩⟩
    · simp [hi, releaseAnswer]
    · simp [hi]
    · obtain ⟨r, hr, hro⟩ := hopen
      have hany : (s.jnl.ring.take (i + 1)).any (·.isOpen) = true := List.any_eq_true.mpr ⟨r, hr, hro⟩
      simp [hi, hany]
    · have hany : (s.jnl.ring.take (i + 1)).any (·.isOpen) = false := by
        rw [List.any_eq_false]
        exact fun r hr => by simp [hclosed r hr]
      have hfree : writeAllDeferred (modJnl (release (i + 1)) (wake s)) = modJnl (release (i + 1)) (wake s) :=
        writeAllDeferred_of_empty (by simpa [saturated, modJnl, release] using hsat)
      have hdue (c : Comp) : dueFor (modJnl (release (i + 1)) (wake s)) c = dueFor s c := by
        simp [dueFor, priceRecord, modJnl]
      simp only [hi, hany, hfree, activatePrices_of_none ((hdue .c1).trans hd1) ((hdue .c2).trans hd2)]
      simp [modJnl, release, releaseAnswer, Nat.add_assoc]
  · rw [exec_eq_answered (k := .viewRecord) rfl rfl ht]
    simp only [reqViewRecord, reads, badNumber_of h0 hn, wake_frame]
    refine ⟨fun i r hi hr => by simp [hi, hr], fun hi => ?_⟩
    rcases hi with hi | hi <;> simp [hi]
  · rw [exec_eq_answered (k := .readJournal) rfl rfl ht]
    simp [reqReadJournal, reads]
  · have hexec : exec .deferredEntryWrite s = .next (writeDeferred src s) := by
      rw [← writeFirstDeferred_of_first he hfirst]
      rfl
    rw [hexec]
    simp only [writeDeferred, he, if_neg hslot]
    refine ⟨_, rfl, ?_, ?_⟩
    · exact congrArg (fun v : State => { v with jnl := s.jnl }) (takeSlot_rest _ _ _ _)
    · rw [takeSlot_jnl]
      rfl

end Sys2Proof.Machine
end

section
/-! PROOFS. The frames of the sensor and probe lines, their timeouts and gaps (R12, R148, R152, R206). -/

namespace Sys2Proof.Machine

variable {s t u : State}

/-! ## The frame check -/

theorem bigEndian_two (v : Nat) : bigEndian 2 v = [BitVec.ofNat 8 (v / 256), BitVec.ofNat 8 v] := by
  simp [bigEndian]

theorem beValue_pair (a b : Byte) : beValue [a, b] = a.toNat * 256 + b.toNat := by
  simp [beValue]

/-- The two bytes of the check are those of the register exactly when they have its value. -/
theorem eq_crcBytes_iff {crc : List Byte} (hcrc : crc.length = 2) (bytes : List Byte) :
    crc = crcBytes bytes ↔ (crc16 bytes).toNat = beValue crc := by
  obtain ⟨x, y, rfl⟩ := List.length_eq_two.mp hcrc
  have hreg : (crc16 bytes).toNat < 65536 := (crc16 bytes).isLt
  have hx : x.toNat < 256 := x.isLt
  have hy : y.toNat < 256 := y.isLt
  rw [crcBytes, bigEndian_two, beValue_pair]
  simp only [List.cons.injEq, and_true, BitVec.toNat_eq, BitVec.toNat_ofNat]
  omega

theorem crcBytes_length (bytes : List Byte) : (crcBytes bytes).length = 2 := by
  rw [crcBytes, bigEndian_two]
  rfl

/-! ## A frame in reception -/

/-- `s` with the bytes of a sensor's frame received so far. -/
def sensorReceiving (m : MeterId) (rx : List Byte) (s : State) : State :=
  modSensor m (fun x => { x with rx := rx, rxTime := s.itu.mono }) s

/-- `s` with the bytes of a probe's frame received so far. -/
def probeReceiving (c : Comp) (rx : List Byte) (s : State) : State :=
  modProbe c (fun x => { x with rx := rx, rxTime := s.itu.mono }) s

theorem modSensor_modSensor (m : MeterId) (f g : SensorState → SensorState) (s : State) :
    modSensor m f (modSensor m g s) = modSensor m (fun x => f (g x)) s := by
  cases m <;> rfl

theorem modProbe_modProbe (c : Comp) (f g : ProbeState → ProbeState) (s : State) :
    modProbe c f (modProbe c g s) = modProbe c (fun x => f (g x)) s := by
  cases c <;> rfl

theorem modProbe_congr {c : Comp} {f g : ProbeState → ProbeState}
    (hfg : f (s.tpi.probes.get c) = g (s.tpi.probes.get c)) : modProbe c f s = modProbe c g s := by
  simp only [modProbe, modTpi, hfg]

theorem sensor_modSensor (m : MeterId) (f : SensorState → SensorState) (s : State) :
    (modSensor m f s).tpi.sensors.get m = f (s.tpi.sensors.get m) := by
  cases m <;> rfl

theorem probe_modProbe (c : Comp) (f : ProbeState → ProbeState) (s : State) :
    (modProbe c f s).tpi.probes.get c = f (s.tpi.probes.get c) := by
  cases c <;> rfl

section Reception

variable (hs : s.itu.standby = false)
include hs

theorem sensorByte_first {m : MeterId} (hrx : (s.tpi.sensors.get m).rx = []) :
    sensorByte m 0x5A#8 s = sensorReceiving m [0x5A#8] s := by
  simp [sensorByte, hs, hrx, sensorReceiving, modSensor, modTpi]

theorem sensorByte_next (m : MeterId) (b : Byte) {rx : List Byte} (hne : rx ≠ []) (hlt : rx.length + 1 < 5) :
    sensorByte m b (sensorReceiving m rx s) = sensorReceiving m (rx ++ [b]) s := by
  have hlt : ¬ 5 ≤ rx.length + 1 := by omega
  have hget : ((sensorReceiving m rx s).tpi.sensors.get m).rx = rx := by rw [sensorReceiving, sensor_modSensor]
  have hstand : (sensorReceiving m rx s).itu.standby = false := hs
  simp only [sensorByte, hget, hstand, hne, hlt, Bool.false_eq_true, if_false, false_and]
  exact modSensor_modSensor ..

theorem sensorByte_last (m : MeterId) (b : Byte) {rx : List Byte} (hlen : rx.length = 4) :
    sensorByte m b (sensorReceiving m rx s) = judgeSensor m (rx ++ [b]) (sensorReceiving m (rx ++ [b]) s) := by
  have hne : rx ≠ [] := by
    rintro rfl
    exact absurd hlen (by decide)
  have hget : ((sensorReceiving m rx s).tpi.sensors.get m).rx = rx := by rw [sensorReceiving, sensor_modSensor]
  have hstand : (sensorReceiving m rx s).itu.standby = false := hs
  simp only [sensorByte, hget, hstand, hne, hlen, Bool.false_eq_true, if_false, false_and]
  exact congrArg (judgeSensor m (rx ++ [b])) (modSensor_modSensor ..)

theorem exec_sensorFrame {m : MeterId} (hrx : (s.tpi.sensors.get m).rx = []) (a b x y : Byte) :
    exec (.sensorFrame m [0x5A#8, a, b, x, y]) s =
      .next (judgeSensor m [0x5A#8, a, b, x, y] (sensorReceiving m [0x5A#8, a, b, x, y] s)) := by
  show Host.Outcome.next (sensorByte m y (sensorByte m x (sensorByte m b (sensorByte m a (sensorByte m 0x5A#8 s))))) = _
  rw [sensorByte_first hs hrx, sensorByte_next hs m a (by simp) (by simp), sensorByte_next hs m b (by simp) (by simp),
    sensorByte_next hs m x (by simp) (by simp), sensorByte_last hs m y (by simp)]
  rfl

theorem probeByte_first {c : Comp} (hrx : (s.tpi.probes.get c).rx = []) :
    probeByte c 0x5B#8 s = probeReceiving c [0x5B#8] s := by
  simp [probeByte, hs, hrx, probeReceiving, modProbe, modTpi]

theorem probeByte_next (c : Comp) (b : Byte) {rx : List Byte} (hne : rx ≠ []) (hlt : rx.length + 1 < 7) :
    probeByte c b (probeReceiving c rx s) = probeReceiving c (rx ++ [b]) s := by
  have hlt : ¬ 7 ≤ rx.length + 1 := by omega
  have hget : ((probeReceiving c rx s).tpi.probes.get c).rx = rx := by rw [probeReceiving, probe_modProbe]
  have hstand : (probeReceiving c rx s).itu.standby = false := hs
  simp only [probeByte, hget, hstand, hne, hlt, Bool.false_eq_true, if_false, false_and]
  exact modProbe_modProbe ..

theorem probeByte_last (c : Comp) (b : Byte) {rx : List Byte} (hlen : rx.length = 6) :
    probeByte c b (probeReceiving c rx s) = judgeProbe c (rx ++ [b]) (probeReceiving c (rx ++ [b]) s) := by
  have hne : rx ≠ [] := by
    rintro rfl
    exact absurd hlen (by decide)
  have hget : ((probeReceiving c rx s).tpi.probes.get c).rx = rx := by rw [probeReceiving, probe_modProbe]
  have hstand : (probeReceiving c rx s).itu.standby = false := hs
  simp only [probeByte, hget, hstand, hne, hlen, Bool.false_eq_true, if_false, false_and]
  exact congrArg (judgeProbe c (rx ++ [b])) (modProbe_modProbe ..)

theorem exec_probeFrame {c : Comp} (hrx : (s.tpi.probes.get c).rx = []) (a b e f x y : Byte) :
    exec (.probeFrame c [0x5B#8, a, b, e, f, x, y]) s =
      .next (judgeProbe c [0x5B#8, a, b, e, f, x, y] (probeReceiving c [0x5B#8, a, b, e, f, x, y] s)) := by
  show Host.Outcome.next (probeByte c y (probeByte c x (probeByte c f (probeByte c e (probeByte c b
    (probeByte c a (probeByte c 0x5B#8 s))))))) = _
  rw [probeByte_first hs hrx, probeByte_next hs c a (by simp) (by simp), probeByte_next hs c b (by simp) (by simp),
    probeByte_next hs c e (by simp) (by simp), probeByte_next hs c f (by simp) (by simp),
    probeByte_next hs c x (by simp) (by simp), probeByte_last hs c y (by simp)]
  rfl

end Reception

/-- The bytes that come in standby are discarded (R20). -/
theorem foldl_sensorByte_standby (hs : s.itu.standby = true) (m : MeterId) (bytes : List Byte) :
    bytes.foldl (fun s b => sensorByte m b s) s = s := by
  induction bytes with
  | nil => rfl
  | cons b rest ih => simpa [sensorByte, hs] using ih

theorem foldl_probeByte_standby (hs : s.itu.standby = true) (c : Comp) (bytes : List Byte) :
    bytes.foldl (fun s b => probeByte c b s) s = s := by
  induction bytes with
  | nil => rfl
  | cons b rest ih => simpa [probeByte, hs] using ih

/-! ## The judgement -/

/-- `s` with another sensor state. -/
theorem modSensor_eq (m : MeterId) (f : SensorState → SensorState) (s : State) :
    modSensor m f s =
      { s with tpi := { s.tpi with sensors := s.tpi.sensors.set m (f (s.tpi.sensors.get m)) } } := rfl

theorem modProbe_eq (c : Comp) (f : ProbeState → ProbeState) (s : State) :
    modProbe c f s = { s with tpi := { s.tpi with probes := s.tpi.probes.set c (f (s.tpi.probes.get c)) } } := rfl

theorem judgeSensor_received {m : MeterId} (hrx : (s.tpi.sensors.get m).rx = []) (a b x y : Byte) :
    judgeSensor m [0x5A#8, a, b, x, y] (sensorReceiving m [0x5A#8, a, b, x, y] s) =
      modSensor m (fun w =>
        if [x, y] = crcBytes [a, b] then
          { latest := some { value := beSigned [a, b], time := s.itu.mono }
            valid := decide (-500 ≤ beSigned [a, b] ∧ beSigned [a, b] ≤ 1000), rx := [], rxTime := s.itu.mono }
        else { w with rxTime := s.itu.mono }) s := by
  have hcrc := eq_crcBytes_iff (crc := [x, y]) rfl [a, b]
  simp only [judgeSensor, List.drop_succ_cons, List.drop_zero, List.take_succ_cons, List.take_zero]
  by_cases hgood : (crc16 [a, b]).toNat = beValue [x, y]
  · rw [if_pos hgood]
    simp only [hcrc.mpr hgood, if_true, takeSensor, sensorReceiving, modSensor_modSensor]
    rfl
  · rw [if_neg hgood]
    simp only [hcrc.not.mpr hgood, if_false, sensorReceiving, modSensor_modSensor]
    rw [modSensor_eq, modSensor_eq]
    simp only [← hrx]

/-- A probe's state after a good frame. -/
def probeTaken (level : Nat) (temp : Int) (valid : Bool) (s : State) (c : Comp) : State :=
  modProbe c (fun _ =>
    { latest := some { level := level, temp := temp, time := s.itu.mono }, valid := valid, rx := []
      rxTime := s.itu.mono }) s

theorem judgeProbe_bad {c : Comp} (hrx : (s.tpi.probes.get c).rx = []) (a b e f x y : Byte)
    (hbad : [x, y] ≠ crcBytes [a, b, e, f]) :
    judgeProbe c [0x5B#8, a, b, e, f, x, y] (probeReceiving c [0x5B#8, a, b, e, f, x, y] s) =
      modProbe c (fun w => { w with rxTime := s.itu.mono }) s := by
  have hcrc := eq_crcBytes_iff (crc := [x, y]) rfl [a, b, e, f]
  simp only [judgeProbe, List.drop_succ_cons, List.drop_zero, List.take_succ_cons, List.take_zero, List.cons_append,
    List.nil_append]
  rw [if_neg (hcrc.not.mp hbad)]
  simp only [probeReceiving, modProbe_modProbe]
  rw [modProbe_eq, modProbe_eq]
  simp only [← hrx]

theorem judgeProbe_good {c : Comp} (a b e f x y : Byte) (hgood : [x, y] = crcBytes [a, b, e, f]) :
    judgeProbe c [0x5B#8, a, b, e, f, x, y] (probeReceiving c [0x5B#8, a, b, e, f, x, y] s) =
      if beValue [a, b] ≤ 40000 then
        addReading c (beValue [a, b]) (beSigned [e, f]) (probeTaken (beValue [a, b]) (beSigned [e, f]) true s c)
      else if (s.tpi.probes.get c).valid then
        probeLost c (probeTaken (beValue [a, b]) (beSigned [e, f]) true s c)
      else probeTaken (beValue [a, b]) (beSigned [e, f]) false s c := by
  have hcrc := eq_crcBytes_iff (crc := [x, y]) rfl [a, b, e, f]
  simp only [judgeProbe, List.drop_succ_cons, List.drop_zero, List.take_succ_cons, List.take_zero, List.cons_append,
    List.nil_append]
  rw [if_pos (hcrc.mp hgood)]
  simp only [takeProbe, probeReceiving, modProbe_modProbe, probe_modProbe]
  split
  · rfl
  · split
    next hv => exact congrArg (probeLost c) (modProbe_congr (by simp only [hv]; rfl))
    next hv => exact modProbe_congr (by simp only [Bool.not_eq_true _ |>.mp hv]; rfl)

/-! ## The inlet's fault -/

/-- A fault at a receipt that runs: its level, and the entry to SETTLING with FAULT (R148). -/
structure ReceiptFaulted (kind : FaultKind) (s t : State) : Prop where
  level : t.rcp.fault = .halted kind
  receipt : t.rcp.receipt =
    { s.rcp.receipt with state := .settling, outcome := some .fault, timer := some (s.itu.mono + 20000) }
  rest : t.tpi = s.tpi ∧ t.stk = s.stk ∧ t.mtr = s.mtr
  records : t.jnl = (setInletFault kind false none s).jnl

theorem inletFault_of_runs (kind : FaultKind) (volume : Option Nat) (hruns : receiptRuns s.rcp.receipt.state = true) :
    inletFault kind volume s = enterSettling .fault (setInletFault kind false volume s) := by
  cases hst : s.rcp.receipt.state <;> simp [hst, receiptRuns] at hruns <;> simp [inletFault, hst]

theorem inletFault_faulted (kind : FaultKind) (hruns : receiptRuns s.rcp.receipt.state = true) :
    ReceiptFaulted kind s (inletFault kind none s) := by
  rw [inletFault_of_runs kind none hruns]
  exact ⟨by simp, by simp, by simp, by simp⟩

/-! ## The probe that becomes INVALID -/

theorem probeLost_eq (c : Comp) (s : State) :
    probeLost c s =
      let v := abortReconcile c .probeFault (modProbe c (fun p => { p with valid := false }) s)
      if receiptRuns s.rcp.receipt.state && s.rcp.receipt.started.map Started.source == some .probe
          && s.rcp.receipt.docket.map Docket.comp == some c then
        inletFault .sensor none v
      else v := by
  simp [probeLost]

theorem abortReconcile_of_none {c : Comp} (o : ReconcileOutcome) (hn : s.tpi.reconciles.get c = none) :
    abortReconcile c o s = s := by
  simp [abortReconcile, hn]

/-- It is a fault of the receipt that started from it alone. -/
theorem probeLost_quiet {c : Comp} (hn : s.tpi.reconciles.get c = none)
    (hstart : ∀ x ∈ s.rcp.receipt.started, x.source ≠ .probe) :
    probeLost c s = modProbe c (fun p => { p with valid := false }) s := by
  have hsource : (s.rcp.receipt.started.map Started.source == some StartSource.probe) = false := by
    rw [beq_eq_false_iff_ne]
    intro he
    obtain ⟨x, hx, hsrc⟩ := Option.map_eq_some_iff.mp he
    exact hstart x hx hsrc
  rw [probeLost_eq]
  simp only [hsource, Bool.and_false, Bool.false_and, Bool.false_eq_true, if_false]
  exact abortReconcile_of_none _ hn

theorem probeLost_of_receipt {c : Comp} {d : Docket} {x : Started} (hruns : receiptRuns s.rcp.receipt.state = true)
    (hx : s.rcp.receipt.started = some x) (hsource : x.source = .probe) (hd : s.rcp.receipt.docket = some d)
    (hc : d.comp = c) :
    probeLost c s =
      inletFault .sensor none (abortReconcile c .probeFault (modProbe c (fun p => { p with valid := false }) s)) := by
  rw [probeLost_eq]
  simp [hruns, hx, hsource, hd, hc]

/-- A probe of no reconcile that is lost to the receipt that started from it. -/
theorem probeLost_faults {c : Comp} {d : Docket} {x : Started} (hn : s.tpi.reconciles.get c = none)
    (hruns : receiptRuns s.rcp.receipt.state = true) (hx : s.rcp.receipt.started = some x) (hsource : x.source = .probe)
    (hd : s.rcp.receipt.docket = some d) (hc : d.comp = c) :
    ReceiptFaulted .sensor (modProbe c (fun p => { p with valid := false }) s) (probeLost c s) := by
  rw [probeLost_of_receipt hruns hx hsource hd hc, abortReconcile_of_none (s := modProbe c _ s) _ hn]
  exact inletFault_faulted .sensor hruns

theorem ageProbe_due {c : Comp} {r : ProbeReading} (hv : (s.tpi.probes.get c).valid = true)
    (hr : (s.tpi.probes.get c).latest = some r) : ageProbe c s = probeLost c (reachTime (r.time + 3000) s) := by
  simp [ageProbe, hv, hr]

/-- A reading that no reconcile collects changes nothing. -/
theorem addReading_of_none {c : Comp} (level : Nat) (temp : Int) (hn : s.tpi.reconciles.get c = none) :
    addReading c level temp s = s := by
  simp [addReading, hn]

theorem probeTaken_eq (level : Nat) (temp : Int) (valid : Bool) (s : State) (c : Comp) :
    probeTaken level temp valid s c =
      { s with tpi := { s.tpi with
        probes := s.tpi.probes.set c
          { latest := some { level := level, temp := temp, time := s.itu.mono }, valid := valid, rx := []
            rxTime := s.itu.mono } } } := rfl

theorem probeTaken_invalid (level : Nat) (temp : Int) (s : State) (c : Comp) :
    modProbe c (fun p => { p with valid := false }) (probeTaken level temp true s c) =
      probeTaken level temp false s c :=
  modProbe_modProbe ..

/-- Settles O48. -/
theorem sensorAndProbeFrames : Obligations.SensorAndProbeFrames := by
  refine ⟨fun m a b crc s hs hrx hcrc => ?_, fun c a b e f crc s hs hrx hcrc hn hle => ?_,
    fun c a b e f s hs hrx hn hgt => ?_, fun m r s hv hr => ?_, fun c r s hv hr hn hstart => ?_,
    fun c d x r s hv hr hn hruns hx hsource hd hc => ?_, fun m s hrx => ?_, fun c s hrx => ?_, fun m c bytes s hs => ?_⟩
  · obtain ⟨x, y, rfl⟩ := List.length_eq_two.mp hcrc
    dsimp only
    rw [List.cons_append, List.cons_append, List.cons_append, List.nil_append, exec_sensorFrame hs hrx,
      judgeSensor_received hrx, modSensor_eq]
  · obtain ⟨x, y, rfl⟩ := List.length_eq_two.mp hcrc
    have hexec : exec (.probeFrame c ([0x5B#8, a, b, e, f] ++ [x, y])) s = _ := exec_probeFrame hs hrx a b e f x y
    dsimp only
    rw [hexec]
    by_cases hgood : [x, y] = crcBytes [a, b, e, f]
    · rw [judgeProbe_good a b e f x y hgood, if_pos hle, addReading_of_none (s := probeTaken _ _ true s c) _ _ hn, if_pos hgood, probeTaken_eq]
    · rw [judgeProbe_bad hrx a b e f x y hgood, if_neg hgood, modProbe_eq]
  · obtain ⟨x, y, hxy⟩ := List.length_eq_two.mp (crcBytes_length [a, b, e, f])
    have hexec : exec (.probeFrame c ([0x5B#8, a, b, e, f] ++ [x, y])) s = _ := exec_probeFrame hs hrx a b e f x y
    dsimp only
    rw [hxy, hexec, judgeProbe_good a b e f x y hxy.symm, if_neg (not_le.mpr hgt)]
    refine ⟨fun hquiet => ?_, fun d x hv hruns hx hsource hd hc => ?_⟩
    · rw [← probeTaken_eq]
      split
      next hv =>
        have hstart : ∀ x ∈ s.rcp.receipt.started, x.source ≠ .probe :=
          hquiet.resolve_left (by simp [hv])
        rw [probeLost_quiet (s := probeTaken _ _ _ s c) hn hstart, probeTaken_invalid]
      next => rfl
    · rw [if_pos hv]
      obtain ⟨hlevel, hreceipt, ⟨htpi, -⟩, -⟩ :=
        probeLost_faults (s := probeTaken (beValue [a, b]) (beSigned [e, f]) true s c) hn hruns hx hsource hd hc
      refine ⟨_, rfl, ?_, hlevel, by rw [hreceipt], by rw [hreceipt]⟩
      rw [htpi, probeTaken_invalid]
      exact probe_modProbe ..
  · have hexec : exec (.sensorTimeout m) s =
        .next (modSensor m (fun x => { x with valid := false }) (reachTime (r.time + 3000) s)) := by
      simp [exec, execSensorTimeout, ageSensor, hv, hr]
    rw [hexec]
    rfl
  · have hexec : exec (.probeTimeout c) s = .next (ageProbe c s) := rfl
    rw [hexec, ageProbe_due hv hr, probeLost_quiet (s := reachTime (r.time + 3000) s) hn hstart]
    rfl
  · obtain ⟨hlevel, hreceipt, ⟨htpi, -⟩, -⟩ :=
      probeLost_faults (s := reachTime (r.time + 3000) s) hn hruns hx hsource hd hc
    have hexec : exec (.probeTimeout c) s = .next (probeLost c (reachTime (r.time + 3000) s)) := by
      rw [← ageProbe_due hv hr]
      rfl
    refine ⟨_, hexec, ?_, hlevel, by rw [hreceipt], by rw [hreceipt]⟩
    rw [htpi, probe_modProbe]
  · have hexec : exec (.sensorFrameGap (.sensor m)) s = .next (sensorGap m s) := rfl
    rw [hexec, sensorGap, if_neg hrx]
    rfl
  · have hexec : exec (.sensorFrameGap (.probe c)) s = .next (probeGap c s) := rfl
    rw [hexec, probeGap, if_neg hrx]
    rfl
  · exact ⟨congrArg Host.Outcome.next (foldl_sensorByte_standby hs m bytes),
      congrArg Host.Outcome.next (foldl_probeByte_standby hs c bytes)⟩

end Sys2Proof.Machine
end

section
/-! PROOFS. RECONCILE, its readings, its ends, and the reads of the dip (R134, R152 to R157). -/

namespace Sys2Proof.Machine

variable {s t u : State}

/-! ## Records that are closed -/

/-- Every record of a number is CLOSED. -/
def ClosedAt (seq : Nat) (j : Jnl) : Prop := ∀ r ∈ j.ring, r.seq = seq → r.isOpen = false

theorem closedAt_closeRecord (seq : Nat) (f : Body → Body) (s : State) : ClosedAt seq (closeRecord seq f s).jnl := by
  intro r hr hseq
  obtain ⟨x, -, rfl⟩ := List.mem_map.mp hr
  split
  · rfl
  next hno =>
    rw [if_neg hno] at hseq
    simpa [hseq] using hno

theorem ClosedAt.closeRecord {seq : Nat} (hs : ClosedAt seq s.jnl) (k : Nat) (f : Body → Body) :
    ClosedAt seq (closeRecord k f s).jnl := by
  intro r hr hseq
  obtain ⟨x, hx, rfl⟩ := List.mem_map.mp hr
  split
  · rfl
  next hno =>
    rw [if_neg hno] at hseq
    exact hs x hx hseq

theorem ClosedAt.takeSlot {seq : Nat} (hs : ClosedAt seq s.jnl) (body : Body) (openTime closeTime : Nat) :
    ClosedAt seq (takeSlot body openTime (some closeTime) s).jnl := by
  rw [takeSlot_jnl]
  intro r hr hseq
  rcases List.mem_append.mp hr with hr | hr
  · exact hs r hr hseq
  · rw [List.mem_singleton.mp hr]
    rfl

theorem ClosedAt.recordFault {seq : Nat} (hs : ClosedAt seq s.jnl) (src : Source) (kind : FaultKind) (locked : Bool)
    (volume : Option Nat) : ClosedAt seq (recordFault src kind locked volume s).jnl := by
  unfold Machine.recordFault
  split
  · exact hs.takeSlot (.fault { source := src, kind := kind, locked := locked, volume := volume, repeats := none }) _ _
  · exact hs

/-! ## The end of a reconcile (R155) -/

/-- What the end of a reconcile leaves. -/
structure ReconcileEnds (c : Comp) (k : ReconcileCtx) (s t : State) : Prop where
  running : t.tpi.reconciles = s.tpi.reconciles.set c none
  free : (compartment t c).op = .free
  book : (compartment t c).book = (compartment s c).book
  closed : ClosedAt k.seq t.jnl
  event : ∀ q, hasEvent (t.prt.ports.get q).pending .reconcileDone = true

theorem endReconcile_ends (c : Comp) (k : ReconcileCtx) (o : ReconcileOutcome) (figures : Option DipFigures)
    (high : Bool) (s : State) : ReconcileEnds c k s (endReconcile c k o figures high s) where
  running := by simp [endReconcile, modTpi]
  free := by simp [endReconcile, compartment, modComp, endUse]
  book := by simp [endReconcile, compartment, modComp, endUse]
  closed := by
    simp only [endReconcile, raise_frame, modTpi_frame, modComp_frame]
    exact closedAt_closeRecord _ _ _
  event := fun q => hasEvent_raise .reconcileDone _ q

/-- The end on one compartment as the other sees it. -/
theorem endReconcile_other {c c' : Comp} (hc : c' ≠ c) (k : ReconcileCtx) (o : ReconcileOutcome)
    (figures : Option DipFigures) (high : Bool) (s : State) :
    compartment (endReconcile c k o figures high s) c' = compartment s c' ∧
      (endReconcile c k o figures high s).tpi.reconciles.get c' = s.tpi.reconciles.get c' := by
  simp [endReconcile, compartment, modComp, modTpi, hc]

theorem abortReconcile_of_some {c : Comp} {k : ReconcileCtx} (o : ReconcileOutcome)
    (hk : s.tpi.reconciles.get c = some k) : abortReconcile c o s = endReconcile c k o none false s := by
  simp [abortReconcile, hk]

theorem abortReconcile_running (c : Comp) (o : ReconcileOutcome) (s : State) :
    (abortReconcile c o s).tpi.reconciles = s.tpi.reconciles.set c none := by
  cases hk : s.tpi.reconciles.get c with
  | none =>
    rw [abortReconcile_of_none o hk]
    conv_lhs => rw [← PerComp.set_get s.tpi.reconciles c, hk]
  | some k =>
    rw [abortReconcile_of_some o hk]
    exact (endReconcile_ends ..).running

theorem abortReconcile_book (c : Comp) (o : ReconcileOutcome) (s : State) (c' : Comp) :
    (compartment (abortReconcile c o s) c').book = (compartment s c').book := by
  cases hk : s.tpi.reconciles.get c with
  | none => rw [abortReconcile_of_none o hk]
  | some k =>
    rw [abortReconcile_of_some o hk]
    by_cases hc : c' = c
    · rw [hc]
      exact (endReconcile_ends ..).book
    · rw [(endReconcile_other hc ..).1]

theorem abortReconcile_other {c c' : Comp} (hc : c' ≠ c) (o : ReconcileOutcome) (s : State) :
    compartment (abortReconcile c o s) c' = compartment s c' ∧
      (abortReconcile c o s).tpi.reconciles.get c' = s.tpi.reconciles.get c' := by
  cases hk : s.tpi.reconciles.get c with
  | none => rw [abortReconcile_of_none o hk]; exact ⟨rfl, rfl⟩
  | some k => rw [abortReconcile_of_some o hk]; exact endReconcile_other hc ..

theorem abortReconcile_keeps_closed {seq : Nat} (c : Comp) (o : ReconcileOutcome) (hs : ClosedAt seq s.jnl) :
    ClosedAt seq (abortReconcile c o s).jnl := by
  cases hk : s.tpi.reconciles.get c with
  | none => rwa [abortReconcile_of_none o hk]
  | some k =>
    rw [abortReconcile_of_some o hk]
    simp only [endReconcile, raise_frame, modTpi_frame, modComp_frame]
    exact hs.closeRecord _ _

theorem raises_abortReconcile {a : Prt} (c : Comp) (o : ReconcileOutcome) (hs : Raises a s.prt) :
    Raises a (abortReconcile c o s).prt := by
  cases hk : s.tpi.reconciles.get c with
  | none => rwa [abortReconcile_of_none o hk]
  | some k =>
    rw [abortReconcile_of_some o hk]
    exact Raises.raise (by simpa using hs) _

/-- The abort on both compartments (tilt, power-fail). -/
theorem abortBoth_ends (o : ReconcileOutcome) (s : State) {c : Comp} {k : ReconcileCtx}
    (hk : s.tpi.reconciles.get c = some k) :
    (compartment (abortReconcile .c2 o (abortReconcile .c1 o s)) c).op = .free ∧
      ClosedAt k.seq (abortReconcile .c2 o (abortReconcile .c1 o s)).jnl ∧
      ∀ q, hasEvent ((abortReconcile .c2 o (abortReconcile .c1 o s)).prt.ports.get q).pending .reconcileDone = true := by
  cases c with
  | c1 =>
    have hends := endReconcile_ends .c1 k o none false s
    rw [← abortReconcile_of_some o hk] at hends
    rw [(abortReconcile_other (by decide) o _).1]
    exact ⟨hends.free, abortReconcile_keeps_closed _ _ hends.closed,
      fun q => hasEvent_of_raises (raises_abortReconcile _ _ (.refl _)) (hends.event q)⟩
  | c2 =>
    have hk' : (abortReconcile .c1 o s).tpi.reconciles.get .c2 = some k := by
      rw [(abortReconcile_other (by decide) o s).2, hk]
    rw [abortReconcile_of_some o hk']
    have hends := endReconcile_ends .c2 k o none false (abortReconcile .c1 o s)
    exact ⟨hends.free, hends.closed, hends.event⟩

theorem raiseIf_jnl (b : Bool) (e : Event) (s : State) : (raiseIf b e s).jnl = s.jnl := by simp

theorem ClosedAt.setInletFault {seq : Nat} (hs : ClosedAt seq s.jnl) (kind : FaultKind) (locked : Bool)
    (volume : Option Nat) : ClosedAt seq (setInletFault kind locked volume s).jnl := by
  rw [Machine.setInletFault, raiseIf_jnl]
  exact ClosedAt.recordFault (s := modRcp _ s) hs _ _ _ _

/-- A probe that becomes INVALID ends the reconcile of its compartment, whatever the receipt does. -/
theorem probeLost_ends {c : Comp} {k : ReconcileCtx} (hk : s.tpi.reconciles.get c = some k) :
    ((probeLost c s).tpi.probes.get c).valid = false ∧
      (probeLost c s).tpi.reconciles = s.tpi.reconciles.set c none ∧ (compartment (probeLost c s) c).op = .free ∧
      ClosedAt k.seq (probeLost c s).jnl := by
  rw [probeLost_eq, abortReconcile_of_some (s := modProbe c _ s) _ hk]
  obtain ⟨hrun, hfree, -, hclosed, -⟩ := endReconcile_ends c k .probeFault none false
    (modProbe c (fun p => { p with valid := false }) s)
  dsimp only
  generalize hv : endReconcile c k .probeFault none false (modProbe c (fun p => { p with valid := false }) s) = v
  have hprobe : (v.tpi.probes.get c).valid = false := by rw [← hv]; simp
  have hreceipt : v.rcp = s.rcp := by rw [← hv]; simp
  rw [hv] at hrun hfree hclosed
  split
  next hcond =>
    have hruns : receiptRuns v.rcp.receipt.state = true := by
      rw [hreceipt]
      simp only [Bool.and_eq_true] at hcond
      exact hcond.1.1
    obtain ⟨-, -, ⟨htpi, hstk, -⟩, hjnl⟩ := inletFault_faulted .sensor hruns
    refine ⟨by rw [htpi]; exact hprobe, by rw [htpi]; exact hrun, by rw [compartment, hstk]; exact hfree, ?_⟩
    rw [hjnl]
    exact hclosed.setInletFault _ _ _
  next => exact ⟨hprobe, hrun, hfree, hclosed⟩

/-! ## The dip (R152, R156) -/

theorem dipTemp_eq (s : State) (c : Comp) (x : Int) :
    dipTemp s c x = if -500 ≤ x ∧ x ≤ 1000 then max (-400) (min 800 x) else (compartment s c).params.fallback := by
  simp [dipTemp, clampTemp, clampInt]

/-- A reconcile with one reading more. -/
def withReading (s : State) (c : Comp) (k : ReconcileCtx) (level : Nat) (temp : Int) : ReconcileCtx :=
  { k with readings := k.readings + 1, levelSum := k.levelSum + level, tempSum := k.tempSum + dipTemp s c temp }

theorem addReading_of_some {c : Comp} {k : ReconcileCtx} (level : Nat) (temp : Int)
    (hk : s.tpi.reconciles.get c = some k) :
    addReading c level temp s =
      if 10 ≤ k.readings + 1 then completeReconcile c (withReading s c k level temp) s
      else modTpi (fun t => { t with reconciles := t.reconciles.set c (some (withReading s c k level temp)) }) s := by
  simp [addReading, hk, withReading]

/-- The completion, with the book rebased or looked at again before it (R134). -/
def dipBooked (c : Comp) (k : ReconcileCtx) (s : State) : State :=
  match k.mode with
  | .set => rebase c (dipResult s c k).figures.dipStandard s
  | .check => modComp c evalReturn s

theorem completeReconcile_eq (c : Comp) (k : ReconcileCtx) (s : State) :
    completeReconcile c k s =
      raiseIf (decide ((compartment s c).settings.tolerance < (dipResult s c k).figures.variance.natAbs)) .varianceHigh
        (modTpi (fun t => { t with lastReconcile := some (dipResult s c k) })
          (endReconcile c k .complete (some (dipResult s c k).figures)
            (decide ((compartment s c).settings.tolerance < (dipResult s c k).figures.variance.natAbs))
            (dipBooked c k s))) := rfl

@[simp] theorem dipBooked_frame (c : Comp) (k : ReconcileCtx) (s : State) :
    (dipBooked c k s).tpi = s.tpi ∧ (dipBooked c k s).jnl = s.jnl := by
  unfold dipBooked
  split <;> simp [rebase]

theorem dipBooked_book (c : Comp) (k : ReconcileCtx) (s : State) :
    (compartment (dipBooked c k s) c).book =
      match k.mode with
      | .set =>
        { base := (dipResult s c k).figures.dipStandard, receipts := 0, dispensed := 0, losses := 0
          baseTime := if s.itu.clockValid then some s.itu.clock else none }
      | .check => (compartment s c).book := by
  unfold dipBooked
  cases k.mode <;> simp [rebase, compartment, modComp, evalReturn_book]

/-- What the completion leaves. -/
structure DipComplete (c : Comp) (k : ReconcileCtx) (s t : State) : Prop where
  running : t.tpi.reconciles = s.tpi.reconciles.set c none
  result : t.tpi.lastReconcile = some (dipResult s c k)
  free : (compartment t c).op = .free
  book : (compartment t c).book = (compartment (dipBooked c k s) c).book
  closed : ClosedAt k.seq t.jnl
  done : ∀ q, hasEvent (t.prt.ports.get q).pending .reconcileDone = true
  variance : (compartment s c).settings.tolerance < (dipResult s c k).figures.variance.natAbs →
    ∀ q, hasEvent (t.prt.ports.get q).pending .varianceHigh = true

theorem completeReconcile_complete (c : Comp) (k : ReconcileCtx) (s : State) :
    DipComplete c k s (completeReconcile c k s) := by
  rw [completeReconcile_eq]
  generalize hhigh : decide ((compartment s c).settings.tolerance < (dipResult s c k).figures.variance.natAbs) = high
  obtain ⟨hrun, hfree, hbook, hclosed, hevent⟩ := endReconcile_ends c k .complete (some (dipResult s c k).figures) high
    (dipBooked c k s)
  refine ⟨?_, ?_, ?_, ?_, ?_, fun q => ?_, fun hlt q => ?_⟩
  · simpa [modTpi] using hrun
  · simp [modTpi]
  · simpa [compartment] using hfree
  · simpa [compartment] using hbook
  · simpa using hclosed
  · exact hasEvent_of_raises (Raises.raiseIf (.refl _) _ _) (hevent q)
  · have htrue : high = true := by rw [← hhigh]; exact decide_eq_true hlt
    rw [htrue]
    exact hasEvent_raise .varianceHigh _ q

/-! ## RECONCILE (R154) -/

theorem reconcileModeOf_ctorIdx (m : ReconcileMode) : reconcileModeOf m.ctorIdx = some m := by cases m <;> rfl

theorem startReconcile_tpi (c : Comp) (m : ReconcileMode) (s : State) :
    (startReconcile c m s).tpi = { s.tpi with
      reconciles := s.tpi.reconciles.set c
        (some { mode := m, seq := s.jnl.nextSeq, readings := 0, levelSum := 0, tempSum := 0 }) } := by
  simp [startReconcile, modTpi]

theorem startReconcile_stk (c : Comp) (m : ReconcileMode) (s : State) :
    (startReconcile c m s).stk = { comps := s.stk.comps.set c { compartment s c with op := .reconciling } } := by
  simp [startReconcile, modComp, modStk, compartment]

/-- RECONCILE's answer after its wake, by its checks in their order. -/
theorem reqReconcile_eq (c : Comp) (m : ReconcileMode) {p : Port} (hp : m = .check ∨ p ≠ .console) (s : State) :
    reqReconcile p (compCode c) m.ctorIdx s =
      if (compartment s c).op ≠ .free then (s, refusedFor .compartmentBusy)
      else if (s.tpi.probes.get c).valid = false then (s, refusedFor .probeFault)
      else if inputActive s .tilt = true then (s, refusedFor .tilted)
      else if freeSlots s.jnl = 0 then (s, refusedFor .journalFull)
      else (startReconcile c m s, okWith [.nat 4 s.jnl.nextSeq]) := by
  have hforbid : ¬ (m = .set ∧ onlyConsole p = true) := by
    rintro ⟨rfl, hcons⟩
    rcases hp with hp | hp
    · exact absurd hp (by decide)
    · exact absurd hcons (by simp [onlyConsole_eq_false hp])
  simp only [reqReconcile, compOf_compCode, reconcileModeOf_ctorIdx, if_neg hforbid, Bool.not_eq_true']

/-- A good frame at a probe whose compartment reconciles is a reading. -/
theorem exec_probeFrame_reading {c : Comp} {k : ReconcileCtx} {a b e f : Byte} (hs : s.itu.standby = false)
    (hrx : (s.tpi.probes.get c).rx = []) (hk : s.tpi.reconciles.get c = some k) (hle : beValue [a, b] ≤ 40000) :
    let v := probeTaken (beValue [a, b]) (beSigned [e, f]) true s c
    let k' := withReading s c k (beValue [a, b]) (beSigned [e, f])
    exec (.probeFrame c ([0x5B#8, a, b, e, f] ++ crcBytes [a, b, e, f])) s =
      .next (if 10 ≤ k.readings + 1 then completeReconcile c k' v
        else modTpi (fun t => { t with reconciles := t.reconciles.set c (some k') }) v) := by
  obtain ⟨x, y, hxy⟩ := List.length_eq_two.mp (crcBytes_length [a, b, e, f])
  have hexec : exec (.probeFrame c ([0x5B#8, a, b, e, f] ++ [x, y])) s = _ := exec_probeFrame hs hrx a b e f x y
  dsimp only
  rw [hxy, hexec, judgeProbe_good a b e f x y hxy.symm, if_pos hle,
    addReading_of_some (s := probeTaken _ _ true s c) _ _ hk]
  rfl

/-- Settles O53. -/
theorem reconcileAndDipReads : Obligations.ReconcileAndDipReads := by
  refine ⟨fun c md p s ht hp => ?_, fun c s ht => ?_, fun c k a b e f s hs hrx hk hle => ?_, fun s hin => ?_,
    fun c k r s hv hr hk => ?_, fun p s ht => ⟨?_, ?_, fun hone => ?_, fun c => ?_, fun n hn => ?_⟩⟩
  · dsimp only
    rw [exec_eq_answered (k := .reconcile) rfl rfl ht, reqReconcile_eq c md hp]
    have hcomp : compartment (wake s) c = compartment s c := by simp [compartment]
    simp only [hcomp, wake_frame, inputActive_wake]
    split
    · rfl
    split
    · rfl
    split
    · rfl
    split
    · rfl
    · exact ⟨_, rfl, by simp [startReconcile_tpi], by simp [startReconcile_stk, hcomp],
        by simp [startReconcile_jnl, appended], by simp, by simp, by simp, by simp, by simp⟩
  · rw [exec_eq_answered (k := .reconcile) rfl rfl ht]
    have hset : reqReconcile .console (compCode c) 1 (wake s) = (wake s, plain .notPermitted) := by
      simp [reqReconcile, reconcileModeOf, onlyConsole]
    rw [hset]
  · dsimp only
    have hexec := exec_probeFrame_reading (e := e) (f := f) hs hrx hk hle
    dsimp only at hexec
    have hk' : withReading s c k (beValue [a, b]) (beSigned [e, f]) =
        { k with
          readings := k.readings + 1, levelSum := k.levelSum + beValue [a, b]
          tempSum := k.tempSum + if -500 ≤ beSigned [e, f] ∧ beSigned [e, f] ≤ 1000 then
            max (-400) (min 800 (beSigned [e, f])) else (compartment s c).params.fallback } := by
      rw [withReading, dipTemp_eq]
    rw [hk'] at hexec
    refine ⟨fun hlt => ?_, fun hge => ?_⟩
    · rw [if_neg (by omega)] at hexec
      exact ⟨_, hexec, rfl, rfl⟩
    · rw [if_pos hge] at hexec
      obtain ⟨hrun, hresult, hfree, hbook, hclosed, hdone, hvariance⟩ := completeReconcile_complete c
        (withReading s c k (beValue [a, b]) (beSigned [e, f]))
        (probeTaken (beValue [a, b]) (beSigned [e, f]) true s c)
      rw [hk'] at hrun hresult hfree hbook hclosed hdone hvariance
      refine ⟨_, hexec, hrun, hresult, hfree, fun hset => ?_, fun hcheck => ?_, hclosed,
        fun q => ⟨hdone q, fun hlt => hvariance hlt q⟩⟩
      · rw [hbook, dipBooked_book]
        dsimp only
        rw [hset]
        rfl
      · rw [hbook, dipBooked_book]
        dsimp only
        rw [hcheck]
        rfl
  · have hexec : exec .tiltActive s =
        .next (abortReconcile .c2 .abortedTilt (abortReconcile .c1 .abortedTilt (withInput .tilt true s))) := by
      show Host.Outcome.next _ = _
      rw [changeInput_of_change (by simpa using hin)]
      rfl
    refine ⟨_, hexec, ?_, ?_, fun c => ⟨?_, fun k hk => ?_⟩⟩
    · simpa [inputActive] using inputActive_withInput .tilt true s
    · rw [abortReconcile_running, abortReconcile_running]
      rfl
    · rw [abortReconcile_book, abortReconcile_book]
      rfl
    · exact abortBoth_ends .abortedTilt (withInput .tilt true s) hk
  · have hexec : exec (.probeTimeout c) s = .next (probeLost c (reachTime (r.time + 3000) s)) := by
      rw [← ageProbe_due hv hr]
      rfl
    obtain ⟨hprobe, hrun, hfree, hclosed⟩ := probeLost_ends (s := reachTime (r.time + 3000) s) hk
    exact ⟨_, hexec, hprobe, hrun, hfree, hclosed⟩
  · rw [exec_eq_answered rfl rfl ht]
    obtain ⟨_, _, hw⟩ := wake_eq s
    rw [hw]
    rfl
  · rw [exec_eq_answered rfl rfl ht]
    obtain ⟨_, _, hw⟩ := wake_eq s
    rw [hw]
    rfl
  · rw [exec_eq_answered (k := .readReconcile) rfl rfl ht]
    have hboth : ((wake s).tpi.reconciles.c1.isSome && (wake s).tpi.reconciles.c2.isSome) = false := by
      rcases hone with hone | hone <;> simp [hone]
    simp only [reqReadReconcile, hboth, Bool.false_eq_true, if_false]
    obtain ⟨_, _, hw⟩ := wake_eq s
    rw [hw]
    rfl
  · rw [exec_eq_answered (k := .strappingRead) rfl rfl ht]
    simp [reqStrappingRead, reads, compartment]
  · rw [exec_eq_answered (k := .strappingRead) rfl rfl ht]
    simp [reqStrappingRead, reads, compOf_eq_none hn]

end Sys2Proof.Machine
end

section
/-! PROOFS. What moves a receipt that runs, its close, and the clears of the inlet (R143, R144, R146, R148, R149). -/

namespace Sys2Proof.Machine

variable {s t u : State}

/-! ## What an operation on the receipt leaves -/

/-- The receipt, the inputs and timers, and the ports are all that has moved. -/
def ReceiptAlone (s t : State) : Prop := { t with rcp := s.rcp, itu := s.itu, prt := s.prt } = s

theorem ReceiptAlone.of (hmtr : t.mtr = s.mtr) (htpi : t.tpi = s.tpi) (hidu : t.idu = s.idu) (hmtb : t.mtb = s.mtb)
    (hbil : t.bil = s.bil) (hhsc : t.hsc = s.hsc) (hstk : t.stk = s.stk) (hjnl : t.jnl = s.jnl) (hcal : t.cal = s.cal)
    (hfresh : t.fresh = s.fresh) (hpending : t.pending = s.pending) : ReceiptAlone s t := by
  unfold ReceiptAlone
  rw [hmtr, htpi, hidu, hmtb, hbil, hhsc, hstk, hjnl, hcal, hfresh, hpending]

theorem ReceiptAlone.trans (h1 : ReceiptAlone s t) (h2 : ReceiptAlone t u) : ReceiptAlone s u := by
  have h := congrArg (fun v : State => ({ v with rcp := s.rcp, itu := s.itu, prt := s.prt } : State)) h2
  unfold ReceiptAlone at h1
  rw [h1] at h
  exact h

theorem receiptAlone_enterReceipt (st : ReceiptState) (hs : ReceiptAlone s u) : ReceiptAlone s (enterReceipt st u) := by
  have hu : ReceiptAlone u (enterReceipt st u) := by
    refine .of ?_ ?_ ?_ ?_ ?_ ?_ ?_ ?_ ?_ ?_ ?_ <;> simp
  exact hs.trans hu

theorem receiptAlone_modReceipt (f : Receipt → Receipt) (hs : ReceiptAlone s u) :
    ReceiptAlone s (modReceipt f u) := hs

theorem receiptAlone_receiptTimer (ms : Nat) (hs : ReceiptAlone s u) : ReceiptAlone s (receiptTimer ms u) := hs

theorem receiptAlone_enterSettling (o : ReceiptOutcome) (hs : ReceiptAlone s u) :
    ReceiptAlone s (enterSettling o u) :=
  receiptAlone_enterReceipt _ (receiptAlone_receiptTimer _ (receiptAlone_modReceipt _ hs))

theorem receiptAlone_withInput (i : Input) (active : Bool) (s : State) : ReceiptAlone s (withInput i active s) := rfl

theorem inputActive_enterReceipt (st : ReceiptState) (s : State) (i : Input) :
    inputActive (enterReceipt st s) i = inputActive s i := by
  simp [inputActive]

/-! ## The bond and the overfill input -/

theorem loseBond_receipt (s : State) : (loseBond s).rcp.receipt =
    if s.rcp.receipt.state = .receiving then
      { s.rcp.receipt with state := .held, timer := some (s.itu.mono + 300000) }
    else s.rcp.receipt := by
  unfold loseBond
  split <;> simp

theorem regainBond_receipt (s : State) : (regainBond s).rcp.receipt =
    if s.rcp.receipt.state = .held then { s.rcp.receipt with state := .receiving, timer := none }
    else s.rcp.receipt := by
  unfold regainBond
  split <;> simp [modReceipt]

theorem settleIf_receipt (o : ReceiptOutcome) (s : State) : (settleIf o s).rcp.receipt =
    if receiptRuns s.rcp.receipt.state then
      { s.rcp.receipt with state := .settling, outcome := some o, timer := some (s.itu.mono + 20000) }
    else s.rcp.receipt := by
  unfold settleIf
  split <;> simp

theorem loseBond_alone (hs : ReceiptAlone s u) : ReceiptAlone s (loseBond u) := by
  unfold loseBond
  split
  · exact receiptAlone_enterReceipt _ (receiptAlone_receiptTimer _ hs)
  · exact hs

theorem regainBond_alone (hs : ReceiptAlone s u) : ReceiptAlone s (regainBond u) := by
  unfold regainBond
  split
  · exact receiptAlone_enterReceipt _ (receiptAlone_modReceipt _ hs)
  · exact hs

theorem settleIf_alone (o : ReceiptOutcome) (hs : ReceiptAlone s u) : ReceiptAlone s (settleIf o u) := by
  unfold settleIf
  split
  · exact receiptAlone_enterSettling _ hs
  · exact hs

theorem bond_inputs (s : State) : (loseBond s).itu.inputs = s.itu.inputs ∧ (regainBond s).itu.inputs = s.itu.inputs ∧
    ∀ o, (settleIf o s).itu.inputs = s.itu.inputs := by
  refine ⟨?_, ?_, fun o => ?_⟩
  · unfold loseBond; split <;> simp
  · unfold regainBond; split <;> simp
  · unfold settleIf; split <;> simp

/-! ## The close (R146) -/

/-- What the close of a receipt's figures leaves, for the standard volume it adds. -/
structure ReceiptBooked (seq : Nat) (c : Comp) (standard : Nat) (s t : State) : Prop where
  op : (compartment t c).op = .free
  book : (compartment t c).book =
    { (compartment s c).book with receipts := min maxBook ((compartment s c).book.receipts + standard) }
  closed : ClosedAt seq t.jnl
  shadow : t.rcp.shadow.opened = false
  event : ∀ q, hasEvent (t.prt.ports.get q).pending .receiptClosed = true

theorem bookReceipt_booked (seq : Nat) (c : Comp) (expected : Nat) (gross : Option Nat) (mean : Int)
    (level : Option Nat) (o : ReceiptOutcome) (s : State) :
    ReceiptBooked seq c (standardOf (gross.getD 0) (ctlAt s c mean)) s
      (bookReceipt seq c expected gross mean level o s) where
  op := by simp [bookReceipt, compartment, stockReceipt, modComp, endUse, evalReturn_op]
  book := by simp [bookReceipt, compartment, stockReceipt, modComp, evalReturn_book, satAdd]
  closed := by
    simp only [bookReceipt, raiseIf_jnl, raise_frame, modRcp_frame]
    exact closedAt_closeRecord _ _ _
  shadow := by simp [bookReceipt, modRcp]
  event := fun q => hasEvent_of_raises (Raises.raiseIf (.refl _) _ _) (hasEvent_raise .receiptClosed _ q)

/-- A variance beyond the tolerance is an event (R147). -/
theorem bookReceipt_variance {seq : Nat} {c : Comp} {expected gross : Nat} {mean : Int} (level : Option Nat)
    (o : ReceiptOutcome) (s : State)
    (hhigh : (compartment s c).settings.tolerance <
      ((standardOf gross (ctlAt s c mean) : Int) - expected).natAbs) (q : Port) :
    hasEvent ((bookReceipt seq c expected (some gross) mean level o s).prt.ports.get q).pending .varianceHigh = true := by
  simp only [bookReceipt, Option.getD_some, Option.map_some, decide_eq_true hhigh]
  exact hasEvent_raise .varianceHigh _ q

/-- The close of a receipt that flowed: its meter, then its figures, and the context IDLE (R146). -/
theorem closeReceiptNow_started {d : Docket} (o : ReceiptOutcome) (hd : s.rcp.receipt.docket = some d)
    (hx : s.rcp.receipt.started.isSome = true) :
    closeReceiptNow o s =
      reloadIdle .receipt (raise .receiptChange (modReceipt (fun _ => {})
        (bookReceipt d.seq d.comp d.expected (some (runningGross s.mtr.meters.mi))
          (meanTemp s .mi s.rcp.receipt.sampling.sum s.rcp.receipt.sampling.n).1 (endLevel s d.comp) o
          (modMeter .mi closeMeter s)))) := by
  simp only [closeReceiptNow, hd, hx, if_true]
  rfl

/-- What such a close leaves. -/
structure ReceiptClosed (d : Docket) (standard : Nat) (s t : State) : Prop where
  receipt : t.rcp.receipt = {}
  fault : t.rcp.fault = s.rcp.fault
  shadow : t.rcp.shadow.opened = false
  meters : t.mtr.meters = s.mtr.meters.set .mi (closeMeter s.mtr.meters.mi)
  op : (compartment t d.comp).op = .free
  book : (compartment t d.comp).book =
    { (compartment s d.comp).book with
      receipts := min maxBook ((compartment s d.comp).book.receipts + standard) }
  closed : ClosedAt d.seq t.jnl
  event : ∀ q, hasEvent (t.prt.ports.get q).pending .receiptClosed = true
  variance : (compartment s d.comp).settings.tolerance < ((standard : Int) - d.expected).natAbs →
    ∀ q, hasEvent (t.prt.ports.get q).pending .varianceHigh = true

theorem closeReceiptNow_closed {d : Docket} (o : ReceiptOutcome) (hd : s.rcp.receipt.docket = some d)
    (hx : s.rcp.receipt.started.isSome = true) :
    ReceiptClosed d
      (standardOf (runningGross s.mtr.meters.mi)
        (ctlAt s d.comp (meanTemp s .mi s.rcp.receipt.sampling.sum s.rcp.receipt.sampling.n).1))
      s (closeReceiptNow o s) := by
  rw [closeReceiptNow_started o hd hx]
  generalize (meanTemp s .mi s.rcp.receipt.sampling.sum s.rcp.receipt.sampling.n).1 = mean
  generalize hv : modMeter .mi closeMeter s = v
  have hcomp : compartment v d.comp = compartment s d.comp := by rw [← hv]; rfl
  have hctl : ctlAt v d.comp mean = ctlAt s d.comp mean := by rw [ctlAt, hcomp]; rfl
  obtain ⟨hop, hbook, hclosed, hshadow, hevent⟩ := bookReceipt_booked d.seq d.comp d.expected
    (some (runningGross s.mtr.meters.mi)) mean (endLevel s d.comp) o v
  have hvariance := bookReceipt_variance (seq := d.seq) (c := d.comp) (expected := d.expected)
    (gross := runningGross s.mtr.meters.mi) (mean := mean) (endLevel s d.comp) o v
  rw [hctl, hcomp] at hvariance
  rw [Option.getD_some, hctl, hcomp] at hbook
  have hraises : Raises (bookReceipt d.seq d.comp d.expected (some (runningGross s.mtr.meters.mi)) mean
      (endLevel s d.comp) o v).prt (reloadIdle .receipt (raise .receiptChange (modReceipt (fun _ => {})
        (bookReceipt d.seq d.comp d.expected (some (runningGross s.mtr.meters.mi)) mean (endLevel s d.comp) o v)))).prt := by
    simp only [reloadIdle_frame]
    exact Raises.raise (.refl _) _
  refine ⟨?_, ?_, ?_, ?_, ?_, ?_, ?_, fun q => hasEvent_of_raises hraises (hevent q),
    fun hlt q => hasEvent_of_raises hraises (hvariance hlt q)⟩
  · simp [modReceipt]
  · simp [← hv]
  · simpa using hshadow
  · simp [← hv, modMeter]
    rfl
  · simpa [compartment] using hop
  · simpa [compartment] using hbook
  · simpa using hclosed

/-- Settles O52. -/
theorem receiptEventsAndClears : Obligations.ReceiptEventsAndClears := by
  refine ⟨fun s hin => ?_, fun s hin => ?_, fun s hin => ?_, fun n s hst htimer => ?_,
    fun n d s hst htimer hd hx => ?_, fun k p s ht hk hst => ⟨fun hp => ?_, fun hclass hp => ?_⟩,
    fun k p s ht hk hst hp => ?_, fun p s ht hno => ?_, fun s ht => ⟨fun k hk => ?_, fun hno => ?_⟩⟩
  · have hexec : exec .earthBondInactive s = .next (loseBond (withInput .earthBond false s)) := by
      show Host.Outcome.next _ = _
      rw [changeInput_of_change (by simpa using hin)]
      rfl
    refine ⟨_, hexec, ?_, loseBond_alone (receiptAlone_withInput ..), loseBond_receipt _⟩
    rw [inputActive, (bond_inputs _).1]
    exact inputActive_withInput ..
  · have hexec : exec .earthBondActive s = .next (regainBond (withInput .earthBond true s)) := by
      show Host.Outcome.next _ = _
      rw [changeInput_of_change (by simpa using hin)]
      rfl
    refine ⟨_, hexec, ?_, regainBond_alone (receiptAlone_withInput ..), regainBond_receipt _⟩
    rw [inputActive, (bond_inputs _).2.1]
    exact inputActive_withInput ..
  · have hexec : exec .overfillActive s = .next (settleIf .overfill (withInput .overfill true s)) := by
      show Host.Outcome.next _ = _
      rw [changeInput_of_change (by simpa using hin)]
      rfl
    refine ⟨_, hexec, ?_, settleIf_alone _ (receiptAlone_withInput ..), settleIf_receipt ..⟩
    rw [inputActive, (bond_inputs _).2.2]
    exact inputActive_withInput ..
  · have hexec : exec .holdTimerExpiry s = .next (enterSettling .earthLost (reachTime n s)) := by
      simp [exec, execHoldTimerExpiry, receiptTimeout, htimer, hst]
    refine ⟨_, hexec, receiptAlone_enterSettling _ (u := reachTime n s) rfl, ?_⟩
    rw [enterSettling_receipt]
    rfl
  · dsimp only
    have hexec : exec .receiptSettleEnd s =
        .next (closeReceiptNow (s.rcp.receipt.outcome.getD .interrupted) (reachTime n s)) := by
      simp [exec, execReceiptSettleEnd, receiptTimeout, htimer, hst, closeSettled]
    obtain ⟨hreceipt, hfault, hshadow, hmeters, hop, hbook, hclosed, hevent, hvariance⟩ :=
      closeReceiptNow_closed (s := reachTime n s) (s.rcp.receipt.outcome.getD .interrupted) hd hx
    exact ⟨_, hexec, hreceipt, hfault, hshadow, hmeters, hop, hbook, hclosed,
      fun q => ⟨hevent q, fun hlt => hvariance hlt q⟩⟩
  · rw [exec_eq_answered (k := .clearInletHalt) rfl rfl ht]
    have hallowed : classForbids p (.halted k) = false := by
      rw [classForbids_halted]
      rcases hp with rfl | rfl
      · exact Bool.and_false _
      · rfl
    rcases hst with hst | hst <;> simp [reqClearInletHalt, hk, hst, hallowed, clearInlet, modRcp]
  · rw [exec_eq_answered (k := .clearInletHalt) rfl rfl ht]
    have hforbidden : classForbids p (.halted k) = true := by
      simp only [classForbids_halted, Bool.and_eq_true, bne_iff_ne]
      exact ⟨hp, by rcases hclass with rfl | rfl <;> rfl⟩
    rcases hst with hst | hst <;> simp [reqClearInletHalt, hk, hst, hforbidden]
  · rw [exec_eq_answered (k := .clearInletHalt) rfl rfl ht]
    have hallowed : classForbids p (.halted k) = false := by
      rw [classForbids_halted]
      rcases hp with rfl | rfl
      · exact Bool.and_false _
      · rfl
    cases hr : s.rcp.receipt.state <;> simp [hr, receiptRuns] at hst <;> simp [reqClearInletHalt, hk, hr, hallowed]
  · rw [exec_eq_answered (k := .clearInletHalt) rfl rfl ht]
    cases hk : s.rcp.fault with
    | halted k => exact absurd (by simp [hk, FaultLevel.code]) hno
    | clear | locked k => simp [reqClearInletHalt, hk]
  · rw [exec_eq_answered (k := .clearInletLock) rfl rfl ht]
    simp [reqClearInletLock, hk, clearInlet, modRcp]
  · rw [exec_eq_answered (k := .clearInletLock) rfl rfl ht]
    cases hk : s.rcp.fault with
    | locked k => exact absurd (by simp [hk, FaultLevel.code]) hno
    | clear | halted k => simp [reqClearInletLock, hk]

end Sys2Proof.Machine
end

section
/-! PROOFS. The judgement of tag frames, the gaps of a reader, and its grace (R24 to R37, R102 to R104). -/

namespace Sys2Proof.Machine

variable {s t u : State}

/-! ## The gaps (R25, R34 to R36) -/

/-- `s` with another state of a reader. -/
def putReader (h : Hose) (x : Reader) (s : State) : State :=
  { s with idu := { s.idu with readers := s.idu.readers.set h x } }

theorem modReader_eq_putReader (h : Hose) (f : Reader → Reader) (s : State) :
    modReader h f s = putReader h (f (s.idu.readers.get h)) s := rfl

@[simp] theorem reader_putReader (h : Hose) (x : Reader) (s : State) : (putReader h x s).idu.readers.get h = x := by
  simp [putReader]

@[simp] theorem hoseCtx_putReader (h : Hose) (x : Reader) (s : State) (g : Hose) :
    hoseCtx (putReader h x s) g = hoseCtx s g := rfl

@[simp] theorem putReader_frame (h : Hose) (x : Reader) (s : State) :
    (putReader h x s).hsc = s.hsc ∧ (putReader h x s).itu = s.itu ∧ (putReader h x s).prt = s.prt :=
  ⟨rfl, rfl, rfl⟩

theorem tagApplies_congr (hh : t.hsc.hoses = s.hsc.hoses) (h : Hose) : tagApplies t h = tagApplies s h := by
  simp only [tagApplies, hoseCtx, hh]

theorem loseTag_eq {h : Hose} {n : Nat} (hn : (s.idu.readers.get h).graceDeadline = some n) :
    loseTag h s =
      hoseLost h (putReader h { s.idu.readers.get h with lost := true, graceDeadline := none } (reachTime n s)) := by
  simp only [loseTag, hn]
  rfl

/-- LOST has no effect where the tag is not required, or no dispense runs (R102). -/
theorem hoseLost_nothing {h : Hose}
    (hno : tagApplies s h = false ∨ hasDispense (hoseCtx s h).state = false ∨ (hoseCtx s h).state = .ending) :
    hoseLost h s = s := by
  unfold hoseLost
  split
  next happlies =>
    rcases hno with hno | hno | hno
    · exact absurd happlies (by simp [hno])
    · cases hst : (hoseCtx s h).state with
      | idle | armed | halted | locked | ending => rfl
      | priming | ready | flowing | slowing | paused => simp [hst, hasDispense, inDemand] at hno
    · simp [hno]
  next => rfl

/-- A reader whose grace timer does not run stays so when its reception begins anew. -/
theorem refreshReader_graceDeadline {h : Hose} (hn : (s.idu.readers.get h).graceDeadline = none) :
    ((refreshReader h s).idu.readers.get h).graceDeadline = none := by
  unfold refreshReader
  split
  · exact hn
  · simp [resetReception]

theorem enterState_graceDeadline {h : Hose} {st : HoseState} (hn : (s.idu.readers.get h).graceDeadline = none) :
    ((enterState h st s).idu.readers.get h).graceDeadline = none := by
  simp only [enterState, raise_frame, touchShadow_frame]
  exact refreshReader_graceDeadline (by simpa using hn)

/-- Settles O50. -/
theorem tagGapsAndGrace : Obligations.TagGapsAndGrace := by
  intro h s
  refine ⟨fun hen hph => ?_, fun k hk => ?_, fun id hst hid => ?_, fun n hn => ⟨fun hno => ?_, fun d happlies hd => ?_⟩⟩
  · have hcond : ((s.idu.readers.get h).enabled && (s.idu.readers.get h).phase != .hunt) = true := by
      simp [hen, hph]
    have hexec : exec (.tagFrameTruncated h) s = .next (truncateFrame h s) := rfl
    rw [hexec, truncateFrame, if_pos hcond]
    rfl
  · have hexec : exec (.candidateLapse h) s = .next (lapseCandidate h s) := rfl
    rw [hexec, lapseCandidate, hk]
    rfl
  · have hexec : exec (.presentIdentityGap h) s = .next (enterGrace h s) := rfl
    have hgrace : enterGrace h s = modReader h (fun r => { r with
        reception := .grace
        graceDeadline := some (max s.itu.mono (id.lastFrame + 501) + (s.hsc.params.get h).grace * 1000) })
        (reachTime (id.lastFrame + 501) s) := by
      simp only [enterGrace, hst, hid, reachTime_mono, reachTime_frame]
    rw [hexec, hgrace]
    rfl
  · have hexec : exec (.graceTimerExpiry h) s = .next (loseTag h s) := rfl
    rw [hexec, loseTag_eq hn, hoseLost_nothing]
    · rfl
    · exact hno
  · have hexec : exec (.graceTimerExpiry h) s = .next (loseTag h s) := rfl
    rw [hexec, loseTag_eq hn]
    generalize hv : putReader h { s.idu.readers.get h with lost := true, graceDeadline := none } (reachTime n s) = v
    have hctx : hoseCtx v h = hoseCtx s h := by rw [← hv]; rfl
    have happlies : tagApplies v h = true := by rw [← hv]; exact happlies
    have hreader : v.idu.readers.get h = { s.idu.readers.get h with lost := true, graceDeadline := none } := by
      rw [← hv]
      exact reader_putReader ..
    have hmono : v.itu.mono = max s.itu.mono n := by rw [← hv]; rfl
    have hparams : v.hsc.params = s.hsc.params := by rw [← hv]; rfl
    rw [← hctx] at hd ⊢
    refine ⟨fun hst => ?_, fun hst => ?_, fun hst => ?_⟩
    · have hlost : hoseLost h v = enterEnding .tagLost h v := by
        rcases hst with hst | hst <;> simp [hoseLost, happlies, hst]
      obtain ⟨-, hends, hpumps⟩ := enterEnding_moves .tagLost hd
      rw [hlost]
      exact ⟨_, rfl, by rw [hends, hmono], by rw [hpumps]; simp [leftPump]⟩
    · have hlost : hoseLost h v = addCause (fun x => { x with tag := true }) h v := by
        rcases hst with hst | hst <;> simp [hoseLost, happlies, hst]
      rw [hlost, addCause_of_flows hd _ hst]
      exact ⟨_, rfl, enterState_graceDeadline (by simp [hreader]), by simp [pausedCtx, hmono, hparams]⟩
    · have hlost : hoseLost h v = addCause (fun x => { x with tag := true }) h v := by
        simp [hoseLost, happlies, hst]
      rw [hlost, addCause_of_paused hd _ hst]
      exact ⟨_, rfl, by simp [hreader], by simp [hreader], by simp⟩

/-! ## A frame that is judged (R25 to R33) -/

/-- A reader that hunts again, after the last byte of a frame. -/
def huntingAgain (now : Nat) (r : Reader) : Reader :=
  { r with phase := .hunt, rxBytes := [], rxLength := 0, rxTime := now }

/-- The bytes at a disabled reader (R24). -/
theorem foldl_tagByte_disabled {h : Hose} (hen : (s.idu.readers.get h).enabled = false) (bytes : List Byte) :
    bytes.foldl (fun s b => tagByte h b s) s = s := by
  induction bytes with
  | nil => rfl
  | cons b rest ih => simpa [tagByte, hen] using ih

section Judged

variable {h : Hose} {length : Nat} {payload crc : List Byte}

/-- A bad frame is counted with its cause (R26 to R30). -/
theorem completeFrame_bad {cause : BadCause} (hj : judgeFrame s.idu.templates length payload crc = .error cause) :
    completeFrame h length payload crc (lastByteTaken h s) =
      putReader h { huntingAgain s.itu.mono (s.idu.readers.get h) with
        badFrames := min 255 ((s.idu.readers.get h).badFrames + 1), lastBad := cause } s := by
  simp [completeFrame, lastByteTaken, hj, modReader_eq_putReader, putReader, countBad, huntingAgain, satAdd]

/-- A good frame: what it makes of the reader, and its report. -/
theorem completeFrame_good {g : GoodFrame} (hj : judgeFrame s.idu.templates length payload crc = .ok g) :
    completeFrame h length payload crc (lastByteTaken h s) =
      let taken := goodFrame s.idu.confirmCount g s.itu.mono (huntingAgain s.itu.mono (s.idu.readers.get h))
      sendReport h taken.2 (reloadIdle .tag (putReader h taken.1 s)) := by
  simp [completeFrame, lastByteTaken, hj, modReader_eq_putReader, putReader, huntingAgain]

end Judged

/-- What RETURNED makes of the hose: the tag's cause leaves a PAUSED one (R104). -/
theorem hoseReturned_elsewhere {h : Hose} (hst : (hoseCtx s h).state ≠ .paused) : hoseReturned h s = s := by
  simp [hoseReturned, removeCause, hst]

/-- What a RETURNED report may make of the hose. -/
theorem returned_cases {h : Hose} {x : Reader} (machine : Nat) (hen : x.enabled = true)
    (hw : readerWanted s h = true) {d : Dispense} (hst : (hoseCtx s h).state = .paused)
    (hd : (hoseCtx s h).dispense = some d) :
    let t := sendReport h (some (.returned machine)) (reloadIdle .tag (putReader h x s))
    t.idu.readers.get h = x ∧
      hoseCtx t h = resumedCtx s h { d with causes := { d.causes with tag := false } } (hoseCtx s h) := by
  have hctx : hoseCtx (reloadIdle .tag (putReader h x s)) h = hoseCtx s h := by simp
  have hx : (reloadIdle .tag (putReader h x s)).idu.readers.get h = x := by simp
  have hwanted : readerWanted (reloadIdle .tag (putReader h x s)) h = true := by
    rw [readerWanted_reloadIdle]
    exact hw
  refine ⟨?_, ?_⟩
  · show (removeCause _ h _).idu.readers.get h = x
    rw [readers_removeCause (by rw [hx]; exact hen) hwanted, hx]
  · show hoseCtx (removeCause _ h _) h = _
    rw [hoseCtx_removeCause _ (by rwa [hctx]) (by rwa [hctx]), hctx]
    simp [resumedCtx]

/-- The reader of a confirmation. -/
def confirmedReader (id : Identity) (r : Reader) : Reader :=
  { r with reception := .present, present := some id, candidate := none, lost := false, graceDeadline := none }

theorem confirm_first {id : Identity} {r : Reader} (hc : comparison r = none) :
    confirm id r = (confirmedReader id r, some (.identified id.machine id.template id.hours)) := by
  simp [confirm, hc, confirmedReader]

theorem confirm_same {id : Identity} {r : Reader} (hc : comparison r = some id.machine) :
    confirm id r = (confirmedReader id r, if r.lost then some (.returned id.machine) else none) := by
  simp [confirm, hc, confirmedReader]

theorem confirm_other {id : Identity} {r : Reader} {n : Nat} (hc : comparison r = some n) (hn : n ≠ id.machine) :
    confirm id r = (confirmedReader id r, some (.replaced id.machine id.template id.hours)) := by
  simp [confirm, hc, hn, confirmedReader]

theorem comparison_eq (r : Reader) :
    comparison r = if r.bound.isSome then r.bound else r.present.map (·.machine) := by
  unfold comparison
  cases r.bound <;> rfl

/-- A report that no hose takes. -/
theorem sendReport_identified_elsewhere {h : Hose} (machine template : Nat) (hours : Option Nat)
    (hst : (hoseCtx s h).state ≠ .armed) : sendReport h (some (.identified machine template hours)) s = s := by
  simp [sendReport, hoseIdentified, hst]

/-- A good frame of the present identity renews it (R35, R36). -/
theorem goodFrame_present {g : GoodFrame} {id : Identity} {r : Reader} (n now : Nat) (hid : r.present = some id)
    (hm : id.machine = g.machine) :
    goodFrame n g now r = renewPresent g now id { r with goodFrames := satAdd 65535 r.goodFrames 1 } := by
  simp [goodFrame, hid, hm]

theorem renew_hours (g : GoodFrame) (now : Nat) (id : Identity) :
    renew g now id = { id with
      template := g.template, lastFrame := now, hours := if g.hours.isSome then g.hours else id.hours } := by
  cases hh : g.hours <;> simp [renew, hh]

/-- The check of a frame fails with its two bytes. -/
theorem judgeFrame_badCrc (templates : List (Option Template)) {len : Byte} (payload : List Byte) {crc : List Byte}
    (hcrc : crc.length = 2) (hne : crc ≠ crcBytes (len :: payload)) :
    judgeFrame templates len.toNat payload crc = .error .crc := by
  have hlen : BitVec.ofNat 8 len.toNat = len := by simp
  rw [judgeFrame, hlen, if_pos ((eq_crcBytes_iff hcrc _).not.mp hne)]

/-- What a report makes of a hose whose dispense is PAUSED or not, for a tag that was lost or not. -/
theorem returned_outcome {h : Hose} {x : Reader} (machine : Nat) (lost : Bool) (hen : x.enabled = true) :
    (lost = false ∨ (hoseCtx s h).state ≠ .paused →
      sendReport h (if lost then some (.returned machine) else none) (reloadIdle .tag (putReader h x s)) =
        reloadIdle .tag (putReader h x s)) ∧
    ∀ d, lost = true → (hoseCtx s h).state = .paused → (hoseCtx s h).dispense = some d → readerWanted s h = true →
      ∃ t, sendReport h (if lost then some (.returned machine) else none) (reloadIdle .tag (putReader h x s)) = t ∧
        t.idu.readers.get h = x ∧
        hoseCtx t h = resumedCtx s h { d with causes := { d.causes with tag := false } } (hoseCtx s h) := by
  refine ⟨fun hno => ?_, fun d hlost hst hd hw => ?_⟩
  · cases lost with
    | false => rfl
    | true => exact hoseReturned_elsewhere (by simpa using hno)
  · rw [hlost]
    exact ⟨_, rfl, returned_cases machine hen hw hst hd⟩

section Good

variable {h : Hose} {length : Nat} {payload crc : List Byte} {g : GoodFrame}
  (hj : judgeFrame s.idu.templates length payload crc = .ok g)
  (hne : ∀ id ∈ (s.idu.readers.get h).present, id.machine ≠ g.machine)
include hj hne

/-- A good frame of another identity, below the confirm count (R32). -/
theorem completeFrame_builds
    (hlt : (growCandidate g s.itu.mono (s.idu.readers.get h).candidate).count < s.idu.confirmCount) :
    completeFrame h length payload crc (lastByteTaken h s) =
      reloadIdle .tag (putReader h
        { afterGoodFrame s.itu.mono (s.idu.readers.get h) with
          candidate := some (growCandidate g s.itu.mono (s.idu.readers.get h).candidate)
          reception := if (s.idu.readers.get h).reception = .absent then .confirming
            else (s.idu.readers.get h).reception } s) := by
  have hbuilt : buildCandidate s.idu.confirmCount g s.itu.mono (afterGoodFrame s.itu.mono (s.idu.readers.get h)) =
      ({ afterGoodFrame s.itu.mono (s.idu.readers.get h) with
          candidate := some (growCandidate g s.itu.mono (s.idu.readers.get h).candidate)
          reception := if (s.idu.readers.get h).reception = .absent then .confirming
            else (s.idu.readers.get h).reception }, none) := if_neg (not_le.mpr hlt)
  rw [completeFrame_eq_buildCandidate hj hne]
  simp only [hbuilt]
  rfl

/-- One that reaches it (R33). -/
theorem completeFrame_confirms {id : Identity}
    (hid : (growCandidate g s.itu.mono (s.idu.readers.get h).candidate).ident = id)
    (hge : s.idu.confirmCount ≤ (growCandidate g s.itu.mono (s.idu.readers.get h).candidate).count) :
    completeFrame h length payload crc (lastByteTaken h s) =
      sendReport h (confirm id (afterGoodFrame s.itu.mono (s.idu.readers.get h))).2
        (reloadIdle .tag
          (putReader h (confirm id (afterGoodFrame s.itu.mono (s.idu.readers.get h))).1 s)) := by
  have hbuilt : buildCandidate s.idu.confirmCount g s.itu.mono (afterGoodFrame s.itu.mono (s.idu.readers.get h)) =
      confirm id (afterGoodFrame s.itu.mono (s.idu.readers.get h)) := by
    rw [← hid]
    exact if_pos hge
  rw [completeFrame_eq_buildCandidate hj hne]
  simp only [hbuilt]
  rfl

end Good

/-- REPLACED ends a dispense with WRONG_MACHINE (R102). -/
theorem replaced_ends {h : Hose} {x : Reader} (machine template : Nat) (hours : Option Nat) (hen : x.enabled = true)
    (hw : readerWanted s h = true) {d : Dispense} (hst : inDemand (hoseCtx s h).state = true)
    (hd : (hoseCtx s h).dispense = some d) :
    let t := sendReport h (some (.replaced machine template hours)) (reloadIdle .tag (putReader h x s))
    t.idu.readers.get h = x ∧ hoseCtx t h = endingCtx .wrongMachine s.itu.mono d (hoseCtx s h) ∧
      t.hsc.pumps = s.hsc.pumps.set d.comp (leftPump h (s.hsc.pumps.get d.comp)) := by
  have hctx : hoseCtx (reloadIdle .tag (putReader h x s)) h = hoseCtx s h := by simp
  have hx : (reloadIdle .tag (putReader h x s)).idu.readers.get h = x := by simp
  have hwanted : readerWanted (reloadIdle .tag (putReader h x s)) h = true := by
    rw [readerWanted_reloadIdle]
    exact hw
  have hends : sendReport h (some (.replaced machine template hours)) (reloadIdle .tag (putReader h x s)) =
      endIf .wrongMachine h (reloadIdle .tag (putReader h x s)) := rfl
  have hending : endIf .wrongMachine h (reloadIdle .tag (putReader h x s)) =
      enterEnding .wrongMachine h (reloadIdle .tag (putReader h x s)) := if_pos (by rwa [hctx])
  obtain ⟨-, hnew, hpumps⟩ := enterEnding_moves (s := reloadIdle .tag (putReader h x s)) .wrongMachine (by rwa [hctx])
  dsimp only
  rw [hends]
  refine ⟨?_, ?_, ?_⟩
  · rw [readers_endIf (by rw [hx]; exact hen) hwanted, hx]
  · rw [hending, hnew, hctx]
    simp
  · rw [hending, hpumps]
    simp

theorem replaced_elsewhere {h : Hose} (machine template : Nat) (hours : Option Nat)
    (hst : inDemand (hoseCtx s h).state = false) : sendReport h (some (.replaced machine template hours)) s = s := by
  simp [sendReport, hoseReplaced, endIf, hst]

/-- The first identity at an ARMED hose is authorised (R37, R77). -/
theorem sendReport_identified_armed {h : Hose} (machine template : Nat) (hours : Option Nat)
    (hst : (hoseCtx s h).state = .armed) :
    sendReport h (some (.identified machine template hours)) s =
      (authorise h { machine := machine, mode := .tag, template := some template, hours := hours } s).1 := by
  simp [sendReport, hoseIdentified, hst]

/-- Settles O49. -/
theorem tagFramesAreJudged : Obligations.TagFramesAreJudged := by
  intro h len payload crc s
  refine ⟨fun bytes hen => congrArg Host.Outcome.next (foldl_tagByte_disabled hen bytes),
    fun hen hph hpay hcrc hlo hhi => ?_⟩
  dsimp only
  rw [exec_tagFrame hen hph hpay hcrc hlo hhi]
  have hreturned (x : Reader) (machine : Nat) (hx : x.enabled = true) :=
    returned_outcome (s := s) (h := h) (x := x) machine (s.idu.readers.get h).lost hx
  refine ⟨judgeFrame_badCrc _ _ hcrc, fun cause hj => ?_, fun g id hj hid hm => ?_, fun g hj hne hlt => ?_,
    fun g hj hne hge => ?_⟩
  · rw [completeFrame_bad hj]
    rfl
  · have hframe := completeFrame_good (h := h) hj
    rw [goodFrame_present _ _ (r := huntingAgain s.itu.mono (s.idu.readers.get h)) hid hm] at hframe
    simp only [renewPresent, renew_hours] at hframe
    rw [hframe]
    refine ⟨fun hst => ?_, fun hst => ?_⟩
    · simp only [huntingAgain, hst]
      rfl
    · have hgrace : (decide ((huntingAgain s.itu.mono (s.idu.readers.get h)).reception = .grace) &&
          (huntingAgain s.itu.mono (s.idu.readers.get h)).lost) = (s.idu.readers.get h).lost := by
        simp [huntingAgain, hst]
      simp only [hgrace]
      obtain ⟨hquiet, hback⟩ := hreturned { huntingAgain s.itu.mono (s.idu.readers.get h) with
        goodFrames := satAdd 65535 (s.idu.readers.get h).goodFrames 1, lost := false, graceDeadline := none
        reception := .present
        present := some { id with
          template := g.template, lastFrame := s.itu.mono
          hours := if g.hours.isSome then g.hours else id.hours } } id.machine hen
      refine ⟨fun hno => congrArg Host.Outcome.next (hquiet hno), fun d hlost hpaused hd hw => ?_⟩
      obtain ⟨t, ht, hx, hctx⟩ := hback d hlost hpaused hd hw
      exact ⟨t, congrArg Host.Outcome.next ht, hx, hctx⟩
  · rw [completeFrame_builds hj hne hlt]
    rfl
  · rw [completeFrame_confirms hj hne rfl hge]
    generalize (growCandidate g s.itu.mono (s.idu.readers.get h).candidate).ident = id
    have hcomp := comparison_eq (afterGoodFrame s.itu.mono (s.idu.readers.get h))
    refine ⟨fun hc => ?_, fun hc => ?_, fun n hc hn => ?_⟩
    · rw [confirm_first (hcomp.trans hc)]
      refine ⟨fun hst => congrArg Host.Outcome.next (sendReport_identified_armed _ _ _ (by simpa using hst)),
        fun hst => congrArg Host.Outcome.next (sendReport_identified_elsewhere _ _ _ (by simpa using hst))⟩
    · rw [confirm_same (hcomp.trans hc)]
      obtain ⟨hquiet, hback⟩ := hreturned (confirmedReader id (afterGoodFrame s.itu.mono (s.idu.readers.get h)))
        id.machine hen
      refine ⟨fun hno => congrArg Host.Outcome.next (hquiet hno), fun d hlost hpaused hd hw => ?_⟩
      obtain ⟨t, ht, hx, hctx⟩ := hback d hlost hpaused hd hw
      exact ⟨t, congrArg Host.Outcome.next ht, hx, hctx⟩
    · rw [confirm_other (hcomp.trans hc) hn]
      refine ⟨fun hst => congrArg Host.Outcome.next (replaced_elsewhere _ _ _ (by simpa using hst)),
        fun d hst hd hw => ?_⟩
      exact ⟨_, rfl, replaced_ends (x := confirmedReader id (afterGoodFrame s.itu.mono (s.idu.readers.get h)))
        id.machine id.template id.hours hen hw hst hd⟩

end Sys2Proof.Machine
end

section
/-! PROOFS. AUTHORISE MANUAL: the grant with its reservations, and the refusal (R80, R88 to R90, R99). -/

namespace Sys2Proof.Machine

variable {s t u : State}

/-! ## A hose that has taken up its dispense -/

/-- What a dispense that has begun leaves at its hose, until its pump runs and then (R99). -/
structure Begun (h : Hose) (d : Dispense) (n : Nat) (s : State) : Prop where
  state : (hoseCtx s h).state = .priming ∨ (hoseCtx s h).state = .ready
  dispense : (hoseCtx s h).dispense = some d
  shadow : (s.hsc.shadows.get h).opened = true ∧ (s.hsc.shadows.get h).seq = d.seq
  bound : (s.idu.readers.get h).bound = some n

theorem Begun.of_eq {h : Hose} {d : Dispense} {n : Nat} (hs : Begun h d n s) (hctx : hoseCtx t h = hoseCtx s h)
    (hshadow : t.hsc.shadows.get h = s.hsc.shadows.get h) (hreader : t.idu.readers.get h = s.idu.readers.get h) :
    Begun h d n t := by
  obtain ⟨hstate, hdispense, hsh, hbound⟩ := hs
  exact ⟨by rwa [hctx], by rwa [hctx], by rwa [hshadow], by rwa [hreader]⟩

theorem refreshReader_bound (h : Hose) (s : State) :
    ((refreshReader h s).idu.readers.get h).bound = (s.idu.readers.get h).bound := by
  unfold refreshReader
  split
  · rfl
  · simp [resetReception]

theorem touchShadow_seq {h : Hose} {d : Dispense} (hd : (hoseCtx s h).dispense = some d)
    (hsh : (s.hsc.shadows.get h).opened = true) :
    ((touchShadow h s).hsc.shadows.get h).opened = true ∧ ((touchShadow h s).hsc.shadows.get h).seq = d.seq := by
  simp [touchShadow, hsh, saveShadow, hd, setShadow, shadowOf]

/-- The entry to another of its first states keeps it begun. -/
theorem Begun.enterState {h : Hose} {d : Dispense} {n : Nat} {st : HoseState} (hdispense : (hoseCtx s h).dispense = some d)
    (hshadow : (s.hsc.shadows.get h).opened = true) (hbound : (s.idu.readers.get h).bound = some n)
    (hst : st = .priming ∨ st = .ready) : Begun h d n (enterState h st s) := by
  unfold Machine.enterState
  generalize hv : refreshReader h (modHose h (fun c => { c with state := st }) s) = v
  have hd : (hoseCtx v h).dispense = some d := by simpa [← hv] using hdispense
  have hs : (hoseCtx v h).state = st := by simp [← hv]
  have hsh : (v.hsc.shadows.get h).opened = true := by simpa [← hv] using hshadow
  have hb : (v.idu.readers.get h).bound = some n := by
    rw [← hv, refreshReader_bound]
    simpa using hbound
  refine ⟨by simpa [hs] using hst, by simpa using hd, ?_, by simpa using hb⟩
  simpa using touchShadow_seq hd hsh

theorem Begun.enterReady {h : Hose} {d : Dispense} {n : Nat} (hs : Begun h d n s) : Begun h d n (enterReady h s) :=
  Begun.enterState (by simpa using hs.dispense) (by simpa using hs.shadow.1) (by simpa using hs.bound) (.inr rfl)

/-- What a turn of the other hose leaves. -/
def OtherKept (k : Hose) (s t : State) : Prop :=
  hoseCtx t (otherHose k) = hoseCtx s (otherHose k) ∧
    t.hsc.shadows.get (otherHose k) = s.hsc.shadows.get (otherHose k) ∧
    t.idu.readers.get (otherHose k) = s.idu.readers.get (otherHose k)

theorem hoseMoves.otherKept {k : Hose} (hm : hoseMoves k s t) : OtherKept k s t := by
  obtain ⟨-, -, -, -, hctx, hshadow, hreader, -⟩ := hm
  exact ⟨hctx, hshadow, hreader⟩

theorem otherKept_removeCause (f : Causes → Causes) (k : Hose) (s : State) : OtherKept k s (removeCause f k s) := by
  by_cases hst : (hoseCtx s k).state = .paused
  · cases hd : (hoseCtx s k).dispense with
    | none => simp [OtherKept, removeCause, hst, modDispense_eq_putHose, hd, otherHose_ne]
    | some d =>
      by_cases hf : f d.causes = {}
      · rw [removeCause_of_last hd f hst hf]
        exact (hoseMoves_enterState ..).otherKept
      · rw [removeCause_of_remaining hd f hst hf]
        simp [OtherKept, otherHose_ne]
  · simp [OtherKept, removeCause, hst]

theorem enterReady_eq_putHose (k : Hose) (s : State) :
    enterReady k s = enterState k .ready
      (putHose k { hoseCtx s k with timer := some (s.itu.mono + (s.hsc.params.get k).firstFlow * 1000) } s.hsc.pumps s) := by
  simp [enterReady, startTimer, modHose_eq_putHose]

theorem eq_otherHose {h k : Hose} (hk : k ≠ h) : h = otherHose k := by
  cases h <;> cases k <;> simp [otherHose] at hk ⊢

theorem otherKept_confirmHose (c : Comp) (k : Hose) (s : State) : OtherKept k s (confirmHose c k s) := by
  unfold confirmHose
  split
  · split
    · rw [enterReady_eq_putHose]
      exact (hoseMoves_enterState ..).otherKept
    · exact otherKept_removeCause ..
    · exact ⟨rfl, rfl, rfl⟩
  · exact ⟨rfl, rfl, rfl⟩

theorem Begun.confirmHose {h : Hose} {d : Dispense} {n : Nat} (hs : Begun h d n s) (c : Comp) (k : Hose) :
    Begun h d n (confirmHose c k s) := by
  by_cases hk : k = h
  · subst hk
    unfold Machine.confirmHose
    split
    · split
      · exact hs.enterReady
      next hst => exact absurd hs.state (by simp [hst])
      · exact hs
    · exact hs
  · obtain rfl : h = otherHose k := eq_otherHose hk
    obtain ⟨hctx, hshadow, hreader⟩ := otherKept_confirmHose c k s
    exact hs.of_eq hctx hshadow hreader

theorem Begun.modPump {h : Hose} {d : Dispense} {n : Nat} (hs : Begun h d n s) (c : Comp) (f : Pump → Pump) :
    Begun h d n (modPump c f s) := hs.of_eq rfl rfl rfl

/-- The pump that is asked leaves it begun, in PRIMING or in READY. -/
theorem Begun.joinDemand {h : Hose} {d : Dispense} {n : Nat} (hs : Begun h d n s) (c : Comp) :
    Begun h d n (joinDemand c h s) := by
  have hasked := hs.modPump c (fun p => { p with demand := p.demand.set h true })
  have hstart {v : State} (hv : Begun h d n v) : Begun h d n (startPump c v) := by
    unfold startPump
    dsimp only
    split
    · exact ((hv.modPump c _).modPump c _ |>.confirmHose c .h1).confirmHose c .h2
    · exact hv.modPump c _
  unfold Machine.joinDemand
  dsimp only
  split
  · exact hstart hasked
  · exact hstart hasked
  · exact hasked.enterReady
  · exact hasked

theorem stk_joinDemand (c : Comp) (h : Hose) (s : State) : (joinDemand c h s).stk = s.stk := by simp

theorem bil_joinDemand (c : Comp) (h : Hose) (s : State) : (joinDemand c h s).bil = s.bil := by simp

theorem joinDemand_demand (c : Comp) (h : Hose) (s : State) :
    ((joinDemand c h s).hsc.pumps.get c).demand.get h = true := by
  have hstart (v : State) : ((startPump c v).hsc.pumps.get c).demand = (v.hsc.pumps.get c).demand := by
    unfold startPump
    dsimp only
    split <;> simp [pumpRuns, modPump]
  unfold joinDemand
  dsimp only
  split
  · rw [hstart]; simp [modPump]
  · rw [hstart]; simp [modPump]
  · simp [modPump]
  · simp [modPump]

/-- A hose that takes up a granted dispense has begun it. -/
theorem begun_openDispense {h : Hose} {d : Dispense} {g : Granted} (hg : d.granted = some g) (s : State) :
    Begun h d g.machine (openDispense h d s) := by
  unfold openDispense
  simp only [hg]
  refine Begun.enterState ?_ ?_ ?_ (.inl rfl)
  · simp
  · simp [saveShadow, setShadow, shadowOf]
  · simp

theorem begun_reserveDispense {h : Hose} {d : Dispense} {g : Granted} (hg : d.granted = some g)
    (record : DispenseRecord) (s : State) : Begun h d g.machine (reserveDispense h d record s) :=
  begun_openDispense hg _

/-- The reservations of a granted dispense in the books. -/
theorem reserveDispense_books {h : Hose} {d : Dispense} {g : Granted} (hg : d.granted = some g)
    (record : DispenseRecord) (s : State) :
    compartment (reserveDispense h d record s) d.comp =
        { compartment s d.comp with
          committed := (compartment s d.comp).committed + d.committedVolume, op := draw (compartment s d.comp).op } ∧
      (reserveDispense h d record s).bil.contractors =
        s.bil.contractors.modify g.contractor (fun k => { k with committed := k.committed + d.committedAmount }) := by
  unfold reserveDispense
  simp only [hg]
  simp [compartment, modComp, commitAmount, modContractor]

/-! ## The checks of a manual authorisation -/

theorem classify_manual (n : Nat) (s : State) : (classify n .manual s).1 = s := by
  unfold classify
  split <;> rfl

theorem runChecks_manual {h : Hose} {tr : Trigger} (hmode : tr.mode = .manual) (s : State) : (runChecks h tr s).1 = s := by
  have hcls := classify_manual tr.machine s
  unfold runChecks
  rw [hmode]
  split
  · rfl
  · split
    next e => rw [e] at hcls; exact hcls
    next e =>
      rw [e] at hcls
      split <;> exact hcls

theorem runChecks_machine {h : Hose} {tr : Trigger} {w : State} {g : Grant} (hc : runChecks h tr s = (w, .ok g)) :
    g.granted.machine = tr.machine := by
  unfold runChecks at hc
  split at hc
  · simp at hc
  · split at hc
    · simp at hc
    · split at hc
      · simp at hc
      · obtain ⟨-, hg⟩ := Prod.mk.inj hc
        unfold presetCheck at hg
        dsimp only at hg
        split at hg
        · exact absurd hg (by simp)
        · obtain rfl := Except.ok.inj hg
          rfl

/-! ## The refusal (R80, R161) -/

theorem hoseCtx_raiseIf (b : Bool) (e : Event) (s : State) (k : Hose) : hoseCtx (raiseIf b e s) k = hoseCtx s k :=
  hoseCtx_congr (by simp) k

/-- What a refused authorisation leaves. -/
structure Refused (h : Hose) (n : Nat) (r : Reason) (s t : State) : Prop where
  ctx : hoseCtx t h =
    { idleCtx (hoseCtx s h) with note := some { reason := r, machine := n, mode := .manual, time := s.itu.clock } }
  event : ∀ q, hasEvent (t.prt.ports.get q).pending (Event.refusedOf h) = true
  full : r = .journalFull → ∀ q, hasEvent (t.prt.ports.get q).pending .journalFull = true
  other : hoseCtx t (otherHose h) = hoseCtx s (otherHose h)

theorem refuse_refused {h : Hose} {tr : Trigger} (hmode : tr.mode = .manual) (r : Reason) (s : State) :
    Refused h tr.machine r s (refuse h tr r s) where
  ctx := by
    simp only [refuse, hoseCtx_raiseIf, hoseCtx_raise]
    rw [(returnIdle_moves h _).2.2]
    simp [idleCtx, hmode]
  event := fun q => hasEvent_of_raises (Raises.raiseIf (.refl _) _ _) (hasEvent_raise (Event.refusedOf h) _ q)
  full := by
    rintro rfl q
    exact hasEvent_raise .journalFull _ q
  other := by
    simp only [refuse, hoseCtx_raiseIf, hoseCtx_raise]
    rw [(returnIdle_moves h _).1.other]
    simp [otherHose_ne]

section Request

variable {h : Hose} {n : Nat} {hours : Option Nat} (hn : n ≠ 0) (hmax : n ≤ 281474976710655)
  (hhours : ∀ x ∈ hours, x ≤ 9999999)
include hn hmax hhours

theorem authoriseManual_inRange :
    ¬ (n = 0 ∨ maxMachine < n ∨ (hours.map fun x => decide (9999999 < x)).getD false = true) := by
  rintro (hzero | hbig | hbad)
  · exact hn hzero
  · exact absurd hbig (not_lt.mpr hmax)
  · cases hours with
    | none => simp at hbad
    | some x => exact absurd (hhours x rfl) (not_le.mpr (by simpa using hbad))

theorem reqAuthoriseManual_armed (hst : (hoseCtx s h).state = .armed) :
    reqAuthoriseManual (hoseCode h) n hours s =
      ((authorise h { machine := n, mode := .manual, template := none, hours := hours } s).1,
       manualAnswer (authorise h { machine := n, mode := .manual, template := none, hours := hours } s).2) := by
  rw [reqAuthoriseManual, withHose_hoseCode, if_neg (authoriseManual_inRange hn hmax hhours)]
  simp [hst]

theorem reqAuthoriseManual_notInUse (hst : inUse (hoseCtx s h).state = false) :
    reqAuthoriseManual (hoseCode h) n hours s = (s, plain .notActive) := by
  rw [reqAuthoriseManual, withHose_hoseCode, if_neg (authoriseManual_inRange hn hmax hhours)]
  cases hc : (hoseCtx s h).state <;> simp [hc, inUse, hasDispense, inDemand] at hst <;> rfl

theorem reqAuthoriseManual_dispense (hst : hasDispense (hoseCtx s h).state = true) :
    reqAuthoriseManual (hoseCode h) n hours s = (s, plain .busy) := by
  rw [reqAuthoriseManual, withHose_hoseCode, if_neg (authoriseManual_inRange hn hmax hhours)]
  cases hc : (hoseCtx s h).state <;> simp [hc, hasDispense, inDemand] at hst <;> rfl

end Request

/-- Settles O40. -/
theorem manualAuthorisation : Obligations.ManualAuthorisation := by
  refine ⟨fun h n hours s w g ht hn hmax hhours hst hc => ?_,
    fun h n hours s ht hn hmax hhours => ⟨fun w r hst hc => ?_, fun hst => ?_, fun hst => ?_⟩⟩
  · rw [exec_eq_answered (k := .authoriseManual) rfl rfl ht,
      reqAuthoriseManual_armed hn hmax hhours (by simpa using hst)]
    have hw : w = wake s := by
      rw [← runChecks_manual (h := h) (tr := { machine := n, mode := .manual, template := none, hours := hours }) rfl
        (wake s), hc]
    subst hw
    have hmachine : g.granted.machine = n := runChecks_machine hc
    have hauth : authorise h { machine := n, mode := .manual, template := none, hours := hours } (wake s) =
        (grant h g (wake s), .ok (s.jnl.nextSeq, g.preset, g.limiter)) := by
      simp [authorise, hc]
    have hbegun := (begun_reserveDispense (h := h) (d := grantDispense (wake s).jnl.nextSeq g) (g := g.granted) rfl
      (grantRecord h ((hoseCtx (wake s) h).operator.getD 0) g)
      (setMarker g.granted.machine g.comp h (wake s))).joinDemand g.comp
    rw [← grant_eq] at hbegun
    obtain ⟨hcomp, hbill⟩ := reserveDispense_books (h := h) (d := grantDispense (wake s).jnl.nextSeq g) (g := g.granted)
      rfl (grantRecord h ((hoseCtx (wake s) h).operator.getD 0) g) (setMarker g.granted.machine g.comp h (wake s))
    obtain ⟨hstate, hdispense, ⟨hopened, hseq⟩, hbound⟩ := hbegun
    have hstk : compartment (grant h g (wake s)) g.comp = { compartment s g.comp with
        committed := (compartment s g.comp).committed + g.standard, op := draw (compartment s g.comp).op } := by
      rw [grant_eq, compartment, stk_joinDemand]
      refine hcomp.trans ?_
      simp [compartment, grantDispense]
    rw [hauth]
    refine ⟨_, rfl, hstate, by simpa using hdispense, ?_, ?_, ?_, ?_, ?_, ?_, ?_, hopened, by simpa [grantDispense] using hseq, ?_, ?_⟩
    · simp [grant_eq, setMarker, modEntry, modMtb]
    · simp [grant_eq, reserve_jnl, appended]
    · rw [hstk]
    · rw [hstk]
    · rw [grant_eq, bil_joinDemand]
      exact hbill.trans (by simp [grantDispense])
    · simp [grant_eq, modMeter, takeOwnership]
    · simp [grant_eq, modMeter, takeOwnership]
    · rw [hbound, hmachine]
    · rw [grant_eq]
      exact joinDemand_demand ..
  · rw [exec_eq_answered (k := .authoriseManual) rfl rfl ht,
      reqAuthoriseManual_armed hn hmax hhours (by simpa using hst)]
    have hw : w = wake s := by
      rw [← runChecks_manual (h := h) (tr := { machine := n, mode := .manual, template := none, hours := hours }) rfl
        (wake s), hc]
    subst hw
    have hauth : authorise h { machine := n, mode := .manual, template := none, hours := hours } (wake s) =
        (refuse h { machine := n, mode := .manual, template := none, hours := hours } r (wake s), .error r) := by
      simp [authorise, hc]
    obtain ⟨hctx, hevent, hfull, hother⟩ := refuse_refused (h := h)
      (tr := { machine := n, mode := .manual, template := none, hours := hours }) rfl r (wake s)
    rw [hauth]
    exact ⟨_, rfl, by simpa using hctx, fun q => ⟨hevent q, fun hr => hfull hr q⟩, by simp, by simp, by simp,
      by simp, by simp, by simpa using hother⟩
  · rw [exec_eq_answered (k := .authoriseManual) rfl rfl ht,
      reqAuthoriseManual_notInUse hn hmax hhours (by simpa using hst)]
  · rw [exec_eq_answered (k := .authoriseManual) rfl rfl ht,
      reqAuthoriseManual_dispense hn hmax hhours (by simpa using hst)]

end Sys2Proof.Machine
end

section
/-! PROOFS. The close of a dispense at the end of its settle time: meter, books, record, notices and hose (R8, R49, R56,
R70, R72, R109, R131, R135, R136, R163, R182). -/

namespace Sys2Proof.Machine

variable {s t u : State}

/-! ## Events raised along the way -/

theorem hasEvent_raise_iff (e e' : Event) (s : State) (q : Port) :
    hasEvent ((raise e' s).prt.ports.get q).pending e = (hasEvent (s.prt.ports.get q).pending e || decide (e' = e)) := by
  have hget : (raise e' s).prt.ports.get q =
      { s.prt.ports.get q with pending := (s.prt.ports.get q).pending ||| e'.bit } := by cases q <;> rfl
  have hbit : e'.bit.getLsbD e.code = decide (e' = e) := by cases e' <;> cases e <;> rfl
  simp [hget, hasEvent, hbit]

/-- An event kind of which nothing is said yet is as it was. -/
theorem raisedIf_of_prt {e : Event} (hprt : t.prt = s.prt) : raisedIf false e s t := by
  intro q
  rw [hprt, Bool.or_false]

theorem raisedIf.prt {b : Bool} {e : Event} (ht : raisedIf b e s t) (hprt : u.prt = t.prt) : raisedIf b e s u := by
  intro q
  rw [hprt]
  exact ht q

theorem raisedIf.raise_other {b : Bool} {e e' : Event} (ht : raisedIf b e s t) (hne : e' ≠ e) :
    raisedIf b e s (raise e' t) := by
  intro q
  rw [hasEvent_raise_iff, ht q, decide_eq_false hne, Bool.or_false]

theorem raisedIf.raiseIf_other {b b' : Bool} {e e' : Event} (ht : raisedIf b e s t) (hne : e' ≠ e) :
    raisedIf b e s (raiseIf b' e' t) := by
  unfold raiseIf
  split
  · exact ht.raise_other hne
  · exact ht

/-- Its own raise decides it. -/
theorem raisedIf.raiseIf_self {e : Event} (b : Bool) (ht : raisedIf false e s t) : raisedIf b e s (raiseIf b e t) := by
  intro q
  cases b with
  | false => exact ht q
  | true => simp [raiseIf, hasEvent_raise]

/-! ## The machine table (R49) -/

theorem lookup_map {g : MachineEntry → MachineEntry} (hg : ∀ e, (g e).number = e.number) (l : List MachineEntry)
    (n : Nat) : lookup (l.map g) n = (lookup l n).map g := by
  have hsame : (fun e : MachineEntry => e.number == n) ∘ g = fun e => e.number == n := by
    funext e
    simp [hg]
  rw [lookup, List.find?_map, hsame]
  rfl

section Entry

variable {f : MachineEntry → MachineEntry} (hf : ∀ e, (f e).number = e.number) (l : List MachineEntry)
include hf

theorem number_changed (n : Nat) (e : MachineEntry) : (if e.number == n then f e else e).number = e.number := by
  split
  · exact hf e
  · rfl

theorem lookup_map_self (n : Nat) : lookup (l.map fun e => if e.number == n then f e else e) n = (lookup l n).map f := by
  rw [lookup_map (number_changed hf n)]
  cases he : lookup l n with
  | none => rfl
  | some e => simp [(lookup_some he).2]

theorem lookup_map_other {n x : Nat} (hne : x ≠ n) :
    lookup (l.map fun e => if e.number == n then f e else e) x = lookup l x := by
  rw [lookup_map (number_changed hf n)]
  cases he : lookup l x with
  | none => rfl
  | some e => simp [(lookup_some he).2, hne]

end Entry

theorem lookup_removeEntry_self (n : Nat) (l : List MachineEntry) : lookup (removeEntry n l) n = none := by
  simp [lookup, removeEntry]

theorem lookup_removeEntry_other {n x : Nat} (hne : x ≠ n) (l : List MachineEntry) :
    lookup (removeEntry n l) x = lookup l x := by
  induction l with
  | nil => rfl
  | cons y rest ih =>
    unfold lookup removeEntry at ih ⊢
    cases hy : y.number == x
    · by_cases hyn : y.number = n
      · simpa [List.filter_cons, hyn, hy, Ne.symm hne] using ih
      · simpa [hyn, hy] using ih
    · have hyn : y.number ≠ n := by rw [eq_of_beq hy]; exact hne
      simp [hyn, hy]

theorem dropRemoved_lookup (n : Nat) (s : State) :
    lookup (dropRemoved n s).mtb.machines n =
      (lookup s.mtb.machines n).filter fun e => !(e.status == .removing && !hasMarker e) := by
  unfold dropRemoved
  cases he : lookup s.mtb.machines n with
  | none => simp [he]
  | some e =>
    cases hgone : e.status == .removing && !hasMarker e
    · simp [he, hgone, Option.filter]
    · simp [hgone, Option.filter, modMtb, lookup_removeEntry_self]

theorem dropRemoved_lookup_other {n x : Nat} (hne : x ≠ n) (s : State) :
    lookup (dropRemoved n s).mtb.machines x = lookup s.mtb.machines x := by
  unfold dropRemoved
  split
  · split
    · exact lookup_removeEntry_other hne _
    · rfl
  · rfl

/-- What a close leaves of the machine table, its watches and their event. -/
structure MachineClosed (n : Nat) (c : Comp) (standard gross : Nat) (hours : Option Nat) (s t : State) : Prop where
  entry : lookup t.mtb.machines n =
    ((lookup s.mtb.machines n).map (closeEntry c standard gross s.itu.clock hours)).filter
      fun e => !(e.status == .removing && !hasMarker e)
  others : ∀ x, x ≠ n → lookup t.mtb.machines x = lookup s.mtb.machines x
  rules : t.mtb.rules = s.mtb.rules.map fun r =>
    if (decide (0 < gross) && qualifies r n) = true then { r with watch := .armed (s.itu.clock + r.interval * 60) } else r
  resumed : raisedIf (s.mtb.rules.any fun r => decide (0 < gross) && qualifies r n && r.watch == .overdue) .groupResumed s t
  events : ∀ e, e ≠ .groupResumed → raisedIf false e s t

theorem watchClose_resumed (n time : Nat) (hprt : t.prt = s.prt) :
    raisedIf (t.mtb.rules.any fun r => qualifies r n && r.watch == .overdue) .groupResumed s (watchClose n time t) :=
  raisedIf.raiseIf_self _ (raisedIf_of_prt (t := modMtb _ t) hprt)

theorem watchClose_quiet (n time : Nat) (hprt : t.prt = s.prt) {e : Event} (he : e ≠ .groupResumed) :
    raisedIf false e s (watchClose n time t) :=
  (raisedIf_of_prt (t := modMtb _ t) hprt).raiseIf_other he.symm

theorem machineClose_closed (n : Nat) (c : Comp) (standard gross : Nat) (hours : Option Nat) (s : State) :
    MachineClosed n c standard gross hours s (machineClose n c standard gross hours s).1 := by
  have hnumber (e : MachineEntry) : (closeEntry c standard gross s.itu.clock hours e).number = e.number := rfl
  unfold machineClose
  dsimp only
  generalize hv : modEntry n (closeEntry c standard gross s.itu.clock hours) s = v
  have hmachines : v.mtb.machines =
      s.mtb.machines.map fun e => if e.number == n then closeEntry c standard gross s.itu.clock hours e else e := by
    rw [← hv]
    rfl
  have hrules : v.mtb.rules = s.mtb.rules := by rw [← hv]; rfl
  have hprt : v.prt = s.prt := by rw [← hv]; rfl
  have hclock : v.itu.clock = s.itu.clock := by rw [← hv]; rfl
  by_cases hg : 0 < gross
  · rw [if_pos hg, hclock]
    have hwatch : (watchClose n s.itu.clock v).mtb.machines = v.mtb.machines := by simp [watchClose, modMtb]
    refine ⟨?_, fun x hx => ?_, ?_, ?_, fun e he => ?_⟩
    · rw [dropRemoved_lookup, hwatch, hmachines, lookup_map_self hnumber]
    · rw [dropRemoved_lookup_other hx, hwatch, hmachines, lookup_map_other hnumber _ hx]
    · simp [watchClose, modMtb, hrules, hg, reloadWatch]
    · have hresumed := watchClose_resumed n s.itu.clock hprt
      rw [hrules] at hresumed
      simp only [hg, decide_true, Bool.true_and]
      exact hresumed.prt (by simp)
    · exact (watchClose_quiet n s.itu.clock hprt he).prt (by simp)
  · rw [if_neg hg]
    refine ⟨?_, fun x hx => ?_, ?_, ?_, fun e he => ?_⟩
    · rw [dropRemoved_lookup, hmachines, lookup_map_self hnumber]
    · rw [dropRemoved_lookup_other hx, hmachines, lookup_map_other hnumber _ hx]
    · simp [hrules, hg]
    · have hany : (s.mtb.rules.any fun r => decide (0 < gross) && qualifies r n && r.watch == .overdue) = false := by
        simp [hg]
      rw [hany]
      exact raisedIf_of_prt (by simpa using hprt)
    · exact raisedIf_of_prt (by simpa using hprt)

/-! ## The compartment (R131, R135, R136) -/

/-- What a close leaves of its compartment, and its notices. -/
structure StockClosed (c : Comp) (standard committed : Nat) (proving : Bool) (s t : State) : Prop where
  committed : (compartment t c).committed = (compartment s c).committed - committed
  op : (compartment t c).op = endDraw (compartment s c).op
  dispensed : (compartment t c).book.dispensed =
    if proving then (compartment s c).book.dispensed
    else min maxBook ((compartment s c).book.dispensed + standard)
  settings : (compartment t c).settings = (compartment s c).settings
  negative : raisedIf (!proving && decide (0 ≤ bookOf (compartment s c).book) &&
    decide (bookOf (compartment t c).book < 0)) .stockNegative s t
  notified : (compartment t c).notified = ((compartment s c).notified || (!proving && decide (standard ≠ 0) &&
    !(compartment s c).notified && decide (bookOf (compartment t c).book < (compartment s c).settings.level)))
  due : raisedIf (!proving && decide (standard ≠ 0) && !(compartment s c).notified &&
    decide (bookOf (compartment t c).book < (compartment s c).settings.level)) .restockDue s t
  events : ∀ e, e ≠ .stockNegative → e ≠ .restockDue → raisedIf false e s t

theorem stockClose_closed (c : Comp) (standard committed : Nat) (proving : Bool) (s : State) :
    StockClosed c standard committed proving s (stockClose c standard committed proving s) := by
  unfold stockClose
  dsimp only
  generalize hv : modComp c (bookClose standard committed proving) s = v
  have hcomp : compartment v c = bookClose standard committed proving (compartment s c) := by
    rw [← hv]
    simp [compartment, modComp]
  have hprt : v.prt = s.prt := by rw [← hv]; rfl
  cases hp : proving with
  | true =>
    rw [hp] at hcomp
    simp only [if_true]
    refine ⟨by rw [hcomp]; rfl, by rw [hcomp]; rfl, by rw [hcomp]; rfl, by rw [hcomp]; rfl, raisedIf_of_prt hprt, ?_,
      raisedIf_of_prt hprt, fun e _ _ => raisedIf_of_prt hprt⟩
    rw [hcomp]
    simp [bookClose]
  | false =>
    rw [hp] at hcomp
    simp only [Bool.false_eq_true, if_false]
    generalize hbelow : (decide (0 ≤ bookOf (compartment s c).book) && decide (bookOf (compartment v c).book < 0)) = below
    have hnotice : noticeDue standard (compartment v c) =
        (decide (standard ≠ 0) && !(compartment s c).notified &&
          decide (bookOf (compartment v c).book < (compartment s c).settings.level)) := by
      rw [noticeDue, hcomp]
      simp only [bookClose, ne_eq, decide_not]
      rfl
    have hbelow_raised : raisedIf below .stockNegative s (raiseIf below .stockNegative v) :=
      (raisedIf_of_prt hprt).raiseIf_self below
    have hquiet (e : Event) (he : e ≠ .stockNegative) : raisedIf false e s (raiseIf below .stockNegative v) :=
      (raisedIf_of_prt hprt).raiseIf_other he.symm
    have hkept : compartment (raiseIf below .stockNegative v) c = compartment v c := by simp [compartment]
    rw [hnotice]
    cases hdue : decide (standard ≠ 0) && !(compartment s c).notified &&
        decide (bookOf (compartment v c).book < (compartment s c).settings.level) with
    | false =>
      simp only [Bool.false_eq_true, if_false]
      refine ⟨?_, ?_, ?_, ?_, ?_, ?_, ?_, fun e he _ => hquiet e he⟩ <;>
        simp only [hkept, hbelow, hdue, Bool.not_false, Bool.true_and]
      · rw [hcomp]; rfl
      · rw [hcomp]; rfl
      · rw [hcomp]; rfl
      · rw [hcomp]; rfl
      · exact hbelow_raised
      · rw [hcomp]; simp [bookClose]
      · exact hquiet _ (by decide)
    | true =>
      have hsame : compartment (raise .restockDue (modComp c (fun x => { x with notified := true })
          (raiseIf below .stockNegative v))) c = { compartment v c with notified := true } := by
        simp [compartment, modComp]
      have hprt' : (modComp c (fun x => { x with notified := true }) (raiseIf below .stockNegative v)).prt =
          (raiseIf below .stockNegative v).prt := by simp
      simp only [if_true]
      refine ⟨?_, ?_, ?_, ?_, ?_, ?_, ?_, fun e he he' => ((hquiet e he).prt hprt').raise_other he'.symm⟩ <;>
        simp only [hsame, hbelow, hdue, Bool.not_false, Bool.true_and]
      · rw [hcomp]; rfl
      · rw [hcomp]; rfl
      · rw [hcomp]; rfl
      · rw [hcomp]; rfl
      · exact (hbelow_raised.prt hprt').raise_other (by decide)
      · simp
      · exact ((hquiet .restockDue (by decide)).prt hprt').raiseIf_self true

/-! ## The close as one expression (R109) -/

/-- What the close of a dispense is made from. -/
def closingOf (h : Hose) (d : Dispense) (s : State) : Closing :=
  { hose := h, seq := d.seq, comp := d.comp
    machine := d.granted.map fun g => (g.machine, g.hours)
    bill := d.granted.map fun g => (g.contractor, g.price, g.basis)
    figures := closeFigures (s.mtr.meters.get (hoseMeter h))
    mean := meanTemp s (hoseMeter h) d.sampling.sum d.sampling.n, committedVolume := d.committedVolume
    committedAmount := d.committedAmount
    residual := residualOf d (closeFigures (s.mtr.meters.get (hoseMeter h))).gross
      (if d.grossAtEnding.isNone then spend s else s).fresh
    pauseCount := d.pauseCount, outcome := d.outcome.getD .interrupted, faultKind := d.faultKind, flags := d.flags
    proving := d.proving }

/-- The state whose books are closed: the meter's totals are taken, and a value of the counter may be used up. -/
def closing (h : Hose) (d : Dispense) (s : State) : State :=
  modMeter (hoseMeter h) closeMeter (if d.grossAtEnding.isNone then spend s else s)

/-- The proving result a close stores. -/
def closingResult (h : Hose) (d : Dispense) (s : State) : Option ProvingResult :=
  provingResult d (s.mtr.meters.get (hoseMeter h)) (closeFigures (s.mtr.meters.get (hoseMeter h))).gross

theorem closeDispense_eq {h : Hose} {d : Dispense} (hd : (hoseCtx s h).dispense = some d) :
    closeDispense h s = raise .dispenseClosed (enterState h (restState (s.hsc.faults.get h))
      (letGo h (closingResult h d s) (bookDispense (closingOf h d s) (closing h d s)))) := by
  have hfaults : (letGo h (closingResult h d s) (bookDispense (closingOf h d s) (closing h d s))).hsc.faults =
      s.hsc.faults := by
    simp only [letGo_frame, bookDispense_frame, closing, modMeter_frame]
    split <;> rfl
  rw [← hfaults, closeDispense, hd]
  rfl

/-- The change a close makes of the DISPENSE record's body. -/
def closedBody (k : Closing) (backward : Bool) (ctl : Nat) : Body → Body
  | .dispense d =>
    .dispense { d with
      flags := { k.flags with
        hoursBackward := backward, channelLow := k.figures.channelLow, tempFallback := k.flags.tempFallback || k.mean.2 }
      outcome := some k.outcome
      figures := some
        { counted := k.figures.pulses, pulsesA := k.figures.pulsesA, pulsesB := k.figures.pulsesB
          reverse := k.figures.reverse, gross := k.figures.gross, standard := standardOf k.figures.gross ctl
          meanTemp := k.mean.1, ctl := ctl, amount := closeAmount k (standardOf k.figures.gross ctl)
          residual := k.residual, pauseCount := k.pauseCount }
      faultKind := if k.outcome = .fault ∨ k.outcome = .interrupted then k.faultKind else none }
  | b => b

/-- Whether the hours a dispense brought are behind the machine's. -/
def closingBackward (k : Closing) (s : State) : Bool :=
  match k.machine with
  | some (number, hours) => ((lookup s.mtb.machines number).map (hoursBackward hours)).getD false
  | none => false

theorem bookDispense_eq (k : Closing) (s : State) :
    bookDispense k s =
      closeRecord k.seq (closedBody k (closingBackward k s) (ctlAt s k.comp k.mean.1))
        (stockClose k.comp (standardOf k.figures.gross (ctlAt s k.comp k.mean.1)) k.committedVolume k.proving
          (closeBill k (closeAmount k (standardOf k.figures.gross (ctlAt s k.comp k.mean.1)))
            (closeMachine k (standardOf k.figures.gross (ctlAt s k.comp k.mean.1)) s))) := by
  unfold bookDispense closeMachine closeBill closingBackward
  cases k.machine with
  | none => rfl
  | some m => rfl

end Sys2Proof.Machine
end

section
/-! PROOFS. What the close of a dispense leaves, part by part (R109). -/

namespace Sys2Proof.Machine

variable {s t u : State}

@[simp] theorem closing_frame (h : Hose) (d : Dispense) (s : State) :
    (closing h d s).mtb = s.mtb ∧ (closing h d s).bil = s.bil ∧ (closing h d s).hsc = s.hsc ∧
      (closing h d s).stk = s.stk ∧ (closing h d s).jnl = s.jnl ∧ (closing h d s).cal = s.cal ∧
      (closing h d s).itu = s.itu ∧ (closing h d s).prt = s.prt ∧ (closing h d s).idu = s.idu ∧
      (closing h d s).mtr = (modMeter (hoseMeter h) closeMeter s).mtr := by
  unfold closing
  split <;> exact ⟨rfl, rfl, rfl, rfl, rfl, rfl, rfl, rfl, rfl, rfl⟩

/-- A hose that has let go and rests. -/
def atRest (h : Hose) (st : HoseState) (result : Option ProvingResult) (w : State) : State :=
  raise .dispenseClosed (enterState h st (letGo h result w))

theorem closeDispense_atRest {h : Hose} {d : Dispense} (hd : (hoseCtx s h).dispense = some d) :
    closeDispense h s = atRest h (restState (s.hsc.faults.get h)) (closingResult h d s)
      (bookDispense (closingOf h d s) (closing h d s)) := closeDispense_eq hd

@[simp] theorem atRest_frame (h : Hose) (st : HoseState) (result : Option ProvingResult) (w : State) :
    (atRest h st result w).mtr = w.mtr ∧ (atRest h st result w).mtb = w.mtb ∧ (atRest h st result w).bil = w.bil ∧
      (atRest h st result w).stk = w.stk ∧ (atRest h st result w).jnl = w.jnl ∧
      (atRest h st result w).cal = (letGo h result w).cal := by
  simp [atRest]

theorem atRest_compartment (h : Hose) (st : HoseState) (result : Option ProvingResult) (w : State) (c : Comp) :
    compartment (atRest h st result w) c = compartment w c := by
  simp [compartment]

theorem letGo_cal (h : Hose) (result : Option ProvingResult) (w : State) :
    (letGo h result w).cal =
      match result with
      | some r => { w.cal with results := w.cal.results.set h (some r) }
      | none => w.cal := by
  unfold letGo
  cases result <;> rfl

theorem letGo_hose (h : Hose) (result : Option ProvingResult) (w : State) :
    hoseCtx (letGo h result w) h = { note := (hoseCtx w h).note, state := (hoseCtx w h).state } ∧
      hoseCtx (letGo h result w) (otherHose h) = hoseCtx w (otherHose h) ∧
      ((letGo h result w).hsc.shadows.get h).opened = false ∧ ((letGo h result w).idu.readers.get h).bound = none := by
  cases result <;> cases h <;> exact ⟨rfl, rfl, rfl, rfl⟩

theorem touchShadow_closed {h : Hose} (hs : (s.hsc.shadows.get h).opened = false) : touchShadow h s = s := by
  simp [touchShadow, hs]

/-- What the hose at rest holds. -/
theorem atRest_hose (h : Hose) (st : HoseState) (result : Option ProvingResult) (w : State) :
    hoseCtx (atRest h st result w) h = { state := st, note := (hoseCtx w h).note } ∧
      hoseCtx (atRest h st result w) (otherHose h) = hoseCtx w (otherHose h) ∧
      ((atRest h st result w).hsc.shadows.get h).opened = false ∧
      ((atRest h st result w).idu.readers.get h).bound = none := by
  obtain ⟨hctx, hother, -, hbound⟩ := letGo_hose h result w
  have htouch : touchShadow h (refreshReader h (modHose h (fun c => { c with state := st }) (letGo h result w))) =
      refreshReader h (modHose h (fun c => { c with state := st }) (letGo h result w)) :=
    touchShadow_closed (by simp)
  refine ⟨?_, ?_, ?_, ?_⟩
  · simp [atRest, hctx]
  · rw [atRest, hoseCtx_raise, hoseCtx_enterState_other, hother]
  · rw [atRest, enterState, htouch]
    simp
  · rw [atRest, enterState, htouch]
    simp only [raise_frame, refreshReader_bound]
    simpa using hbound

/-- Events of the books are not touched by the hose's own. -/
theorem atRest_event {b : Bool} {e : Event} {h : Hose} {st : HoseState} {result : Option ProvingResult} {w : State}
    (hw : raisedIf b e s w) (hclosed : e ≠ .dispenseClosed) (hchange : e ≠ Event.ofHose h) :
    raisedIf b e s (atRest h st result w) := by
  have hlet : raisedIf b e s (touchShadow h (refreshReader h
      (modHose h (fun c => { c with state := st }) (letGo h result w)))) := hw.prt (by simp)
  exact (hlet.raise_other hchange.symm).raise_other hclosed.symm

theorem bookEvent_ne (h : Hose) : Event.groupResumed ≠ Event.ofHose h ∧ Event.stockNegative ≠ Event.ofHose h ∧
    Event.restockDue ≠ Event.ofHose h := by
  cases h <;> decide

/-! ## The books -/

section Books

variable (k : Closing) (s : State)

/-- The standard volume of a close (R131). -/
def closeStandard (k : Closing) (s : State) : Nat := standardOf k.figures.gross (ctlAt s k.comp k.mean.1)

theorem bookDispense_jnl :
    (bookDispense k s).jnl =
      (closeRecord k.seq (closedBody k (closingBackward k s) (ctlAt s k.comp k.mean.1)) s).jnl := by
  rw [bookDispense_eq]
  simp [closeRecord, modJnl]

theorem bookDispense_mtb : (bookDispense k s).mtb = (closeMachine k (closeStandard k s) s).mtb := by
  rw [bookDispense_eq]
  simp [closeStandard]

theorem bookDispense_bil :
    (bookDispense k s).bil = (closeBill k (closeAmount k (closeStandard k s)) s).bil := by
  rw [bookDispense_eq]
  unfold closeBill
  split <;> simp [closeStandard, billingClose, modContractor]

/-- The state whose compartment is closed: machine and contractor have closed. -/
def billed (k : Closing) (s : State) : State :=
  closeBill k (closeAmount k (closeStandard k s)) (closeMachine k (closeStandard k s) s)

theorem billed_stk : (billed k s).stk = s.stk := by
  unfold billed
  simp

theorem billed_prt : (billed k s).prt = (closeMachine k (closeStandard k s) s).prt := by
  unfold billed closeBill
  split <;> simp [billingClose, modContractor]

theorem StockClosed.of_books {s t u : State} {c : Comp} {standard committed : Nat} {proving : Bool}
    (hs : StockClosed c standard committed proving s t) (hstk : u.stk = t.stk) (hprt : u.prt = t.prt) :
    StockClosed c standard committed proving s u := by
  obtain ⟨hcommitted, hop, hdispensed, hsettings, hnegative, hnotified, hdue, hevents⟩ := hs
  have hcomp : compartment u c = compartment t c := by simp only [compartment, hstk]
  rw [← hcomp] at hcommitted hop hdispensed hsettings hnegative hnotified hdue
  exact ⟨hcommitted, hop, hdispensed, hsettings, hnegative.prt hprt, hnotified, hdue.prt hprt,
    fun e he he' => (hevents e he he').prt hprt⟩

/-- What the books make of the compartment, and its notices. -/
theorem bookDispense_stock :
    StockClosed k.comp (closeStandard k s) k.committedVolume k.proving (billed k s) (bookDispense k s) := by
  rw [bookDispense_eq]
  exact StockClosed.of_books (stockClose_closed k.comp (closeStandard k s) k.committedVolume k.proving (billed k s))
    rfl rfl

end Books

/-- A kind's raise is seen from the state before a part that left the ports. -/
theorem raisedIf.of_prt {b : Bool} {e : Event} (ht : raisedIf b e t u) (hprt : t.prt = s.prt) : raisedIf b e s u := by
  intro q
  rw [← hprt]
  exact ht q

theorem raisedIf.later {b : Bool} {e : Event} (h1 : raisedIf false e s t) (h2 : raisedIf b e t u) : raisedIf b e s u := by
  intro q
  rw [h2 q, h1 q, Bool.or_false]

theorem raisedIf.kept {b : Bool} {e : Event} (h1 : raisedIf b e s t) (h2 : raisedIf false e t u) : raisedIf b e s u := by
  intro q
  rw [h2 q, h1 q, Bool.or_false]

/-- The machine of a close, where one was granted. -/
theorem closeMachine_closed {k : Closing} {n : Nat} {hours : Option Nat} (hk : k.machine = some (n, hours))
    (standard : Nat) (s : State) :
    MachineClosed n k.comp standard k.figures.gross hours s (closeMachine k standard s) := by
  rw [closeMachine, hk]
  exact machineClose_closed ..

theorem closeMachine_quiet {k : Closing} {e : Event} (he : e ≠ .groupResumed) (standard : Nat) (s : State) :
    raisedIf false e s (closeMachine k standard s) := by
  cases hk : k.machine with
  | none =>
    rw [closeMachine, hk]
    exact raisedIf_of_prt rfl
  | some m =>
    obtain ⟨n, hours⟩ := m
    exact (closeMachine_closed hk standard s).events e he

/-! ## The record and the results -/

theorem closedBody_dispense {k : Closing} {b : Bool} {ctl : Nat} : closedBody k b ctl = fun body =>
    match body with
    | .dispense d =>
      .dispense { d with
        flags := { k.flags with
          hoursBackward := b, channelLow := k.figures.channelLow, tempFallback := k.flags.tempFallback || k.mean.2 }
        outcome := some k.outcome
        figures := some
          { counted := k.figures.pulses, pulsesA := k.figures.pulsesA, pulsesB := k.figures.pulsesB
            reverse := k.figures.reverse, gross := k.figures.gross, standard := standardOf k.figures.gross ctl
            meanTemp := k.mean.1, ctl := ctl, amount := closeAmount k (standardOf k.figures.gross ctl)
            residual := k.residual, pauseCount := k.pauseCount }
        faultKind := if k.outcome = .fault ∨ k.outcome = .interrupted then k.faultKind else none }
    | b => b := by
  funext body
  cases body <;> rfl

theorem provingResult_some {d : Dispense} {m : MeterState} {gross : Nat} {e : EndCause} {k : Captured}
    (hproving : d.proving = true) (hout : d.outcome = some .proving) (hgross : 0 < gross) (he : d.endCause = some e)
    (hk : m.captured = some k) :
    provingResult d m gross =
      some { seq := d.seq, gross := gross, kFactor := k.kFactor, meterFactor := k.meterFactor, endCause := e } := by
  simp [provingResult, hproving, hout, hgross, he, hk]

theorem provingResult_none {d : Dispense} {m : MeterState} {gross : Nat}
    (hno : d.proving = false ∨ d.outcome ≠ some .proving ∨ gross = 0) : provingResult d m gross = none := by
  have hcond : (d.proving && d.outcome == some .proving && decide (0 < gross)) = false := by
    rcases hno with hno | hno | hno
    · simp [hno]
    · simp [beq_eq_false_iff_ne.mpr hno]
    · simp [hno]
  simp [provingResult, hcond]

/-! ## The figures of a close, in the terms of its dispense -/

section Figures

variable (h : Hose) (d : Dispense) (s : State)

theorem closingBackward_eq :
    closingBackward (closingOf h d s) (closing h d s) =
      match d.granted.bind (·.hours), (d.granted.bind fun g => lookup s.mtb.machines g.machine).bind (·.hours) with
      | some given, some last => decide (given < last)
      | _, _ => false := by
  cases hg : d.granted with
  | none => simp [closingBackward, closingOf, hg]
  | some g =>
    simp only [closingBackward, closingOf, hg, Option.map_some, closing_frame, Option.bind_some]
    cases lookup s.mtb.machines g.machine with
    | none => cases g.hours <;> rfl
    | some e => cases hh : g.hours <;> cases he : e.hours <;> simp [hoursBackward, he]

theorem closeAmount_eq (standard : Nat) :
    closeAmount (closingOf h d s) standard =
      match d.granted with
      | some g =>
        roundNat ((if g.basis = .standard then standard else runningGross (s.mtr.meters.get (hoseMeter h))) * g.price)
          10000
      | none => 0 := by
  cases hg : d.granted with
  | none => simp [closeAmount, closingOf, hg]
  | some g => cases hb : g.basis <;> simp [closeAmount, closingOf, hg, hb, amountOf, closeFigures]

end Figures

/-! ## What the books leave, in the terms of the dispense -/

theorem closeEntry_eq (c : Comp) (standard gross time : Nat) (hours : Option Nat) (e : MachineEntry) :
    closeEntry c standard gross time hours e =
      { e with
        consumed := e.consumed.set c (min max32 (e.consumed.get c + standard))
        marker := e.marker.set c none
        lastFill := if 0 < gross then some time else e.lastFill
        hours :=
          match hours, e.hours with
          | some given, some last => some (max last given)
          | some given, none => some given
          | none, last => last } := by
  cases hours with
  | none => rfl
  | some given =>
    cases he : e.hours with
    | none => simp [closeEntry, he, satAdd]
    | some last =>
      have hmax : (if last ≤ given then some given else some last) = some (max last given) := by
        split <;> congr 1 <;> omega
      simp [closeEntry, he, satAdd, hmax]

theorem hasMarker_eq_false_iff (e : MachineEntry) : hasMarker e = false ↔ e.marker = ⟨none, none⟩ := by
  cases hm : e.marker with
  | mk m1 m2 => cases m1 <;> cases m2 <;> simp [hasMarker, hm]

/-- A machine's entry stays, unless it was to be removed and has no marker left. -/
theorem kept_entry (e : MachineEntry) :
    (some e).filter (fun e => !(e.status == .removing && !hasMarker e)) =
      if e.status = .removing ∧ e.marker = ⟨none, none⟩ then none else some e := by
  simp only [← hasMarker_eq_false_iff]
  by_cases hst : e.status = .removing <;> cases hm : hasMarker e <;> simp [Option.filter, hst, hm]

section Booked

variable (h : Hose) {d : Dispense} {g : Granted} (s : State)

/-- The machine table as the close leaves it. -/
theorem booked_machine (hg : d.granted = some g) :
    MachineClosed g.machine d.comp (closeStandard (closingOf h d s) (closing h d s))
      (runningGross (s.mtr.meters.get (hoseMeter h))) g.hours (closing h d s)
      (closeMachine (closingOf h d s) (closeStandard (closingOf h d s) (closing h d s)) (closing h d s)) := by
  have hmachine : (closingOf h d s).machine = some (g.machine, g.hours) := by simp [closingOf, hg]
  exact closeMachine_closed hmachine _ _

theorem booked_entry {e : MachineEntry} (hg : d.granted = some g) (he : lookup s.mtb.machines g.machine = some e) :
    lookup (bookDispense (closingOf h d s) (closing h d s)).mtb.machines g.machine =
      (some (closeEntry d.comp (closeStandard (closingOf h d s) (closing h d s))
        (runningGross (s.mtr.meters.get (hoseMeter h))) s.itu.clock g.hours e)).filter
          fun e => !(e.status == .removing && !hasMarker e) := by
  rw [bookDispense_mtb, (booked_machine h s hg).entry]
  simp only [closing_frame, he, Option.map_some]

theorem booked_others {x : Nat} (hg : d.granted = some g) (hx : x ≠ g.machine) :
    lookup (bookDispense (closingOf h d s) (closing h d s)).mtb.machines x = lookup s.mtb.machines x := by
  rw [bookDispense_mtb, (booked_machine h s hg).others x hx]
  simp only [closing_frame]

theorem qualifies_eq (r : GroupRule) (gross number : Nat) :
    (decide (0 < gross) && qualifies r number) =
      (decide (0 < gross) && r.active && decide (0 < r.interval) && decide (r.low ≤ number ∧ number ≤ r.high)) := by
  simp [qualifies, inRange, Bool.and_assoc]

theorem booked_rules (hg : d.granted = some g) :
    (bookDispense (closingOf h d s) (closing h d s)).mtb.rules = s.mtb.rules.map fun r =>
      if (decide (0 < runningGross (s.mtr.meters.get (hoseMeter h))) && r.active && decide (0 < r.interval) &&
          decide (r.low ≤ g.machine ∧ g.machine ≤ r.high)) = true then
        { r with watch := .armed (s.itu.clock + r.interval * 60) }
      else r := by
  rw [bookDispense_mtb, (booked_machine h s hg).rules]
  simp only [closing_frame, qualifies_eq]

theorem booked_resumed (hg : d.granted = some g) :
    raisedIf (s.mtb.rules.any fun r => (decide (0 < runningGross (s.mtr.meters.get (hoseMeter h))) && r.active &&
      decide (0 < r.interval) && decide (r.low ≤ g.machine ∧ g.machine ≤ r.high)) && r.watch == .overdue) .groupResumed s
      (bookDispense (closingOf h d s) (closing h d s)) := by
  have hresumed := (booked_machine h s hg).resumed
  simp only [closing_frame, qualifies_eq] at hresumed
  have hstock := (bookDispense_stock (closingOf h d s) (closing h d s)).events .groupResumed (by decide) (by decide)
  exact ((hresumed.prt (billed_prt _ _)).kept hstock).of_prt (by simp)

theorem booked_stock :
    StockClosed d.comp (closeStandard (closingOf h d s) (closing h d s)) d.committedVolume d.proving
      (billed (closingOf h d s) (closing h d s)) (bookDispense (closingOf h d s) (closing h d s)) :=
  bookDispense_stock (closingOf h d s) (closing h d s)

theorem billed_compartment (c : Comp) :
    compartment (billed (closingOf h d s) (closing h d s)) c = compartment s c := by
  simp [compartment, billed_stk]

theorem booked_contractor {x : Contractor} (hg : d.granted = some g) (hx : s.bil.contractors[g.contractor]? = some x) :
    (bookDispense (closingOf h d s) (closing h d s)).bil.contractors[g.contractor]? =
      some { x with
        committed := x.committed - d.committedAmount
        accrued := min max32
          (x.accrued + closeAmount (closingOf h d s) (closeStandard (closingOf h d s) (closing h d s))) } := by
  have hbill : (closingOf h d s).bill = some (g.contractor, g.price, g.basis) := by simp [closingOf, hg]
  rw [bookDispense_bil, closeBill, hbill]
  simp [billingClose, modContractor, modBil, hx, satAdd, closingOf]

theorem booked_alone (hg : d.granted = none) :
    (bookDispense (closingOf h d s) (closing h d s)).bil = s.bil ∧
      (bookDispense (closingOf h d s) (closing h d s)).mtb = s.mtb := by
  have hbill : (closingOf h d s).bill = none := by simp [closingOf, hg]
  have hmachine : (closingOf h d s).machine = none := by simp [closingOf, hg]
  rw [bookDispense_bil, bookDispense_mtb, closeBill, hbill, closeMachine, hmachine]
  simp

/-- An event kind that the machine table does not raise, as the compartment left it. -/
theorem booked_event {b : Bool} {e : Event} (he : e ≠ .groupResumed)
    (hstock : raisedIf b e (billed (closingOf h d s) (closing h d s)) (bookDispense (closingOf h d s) (closing h d s))) :
    raisedIf b e s (bookDispense (closingOf h d s) (closing h d s)) :=
  (((closeMachine_quiet he _ _).prt (billed_prt _ _)).later hstock).of_prt (by simp)

theorem booked_negative :
    raisedIf (!d.proving && decide (0 ≤ bookOf (compartment s d.comp).book) &&
      decide (bookOf (compartment (bookDispense (closingOf h d s) (closing h d s)) d.comp).book < 0)) .stockNegative s
      (bookDispense (closingOf h d s) (closing h d s)) := by
  have hnegative := (booked_stock h (d := d) s).negative
  rw [billed_compartment] at hnegative
  exact booked_event h s (by decide) hnegative

theorem booked_due :
    raisedIf (!d.proving && decide (closeStandard (closingOf h d s) (closing h d s) ≠ 0) &&
      !(compartment s d.comp).notified &&
      decide (bookOf (compartment (bookDispense (closingOf h d s) (closing h d s)) d.comp).book <
        (compartment s d.comp).settings.level)) .restockDue s
      (bookDispense (closingOf h d s) (closing h d s)) := by
  have hdue := (booked_stock h (d := d) s).due
  rw [billed_compartment] at hdue
  exact booked_event h s (by decide) hdue

end Booked

theorem closedBody_booked {h : Hose} {d : Dispense} {o : DispenseOutcome} {atEnding : Nat} (s : State)
    (ho : d.outcome = some o) (hat : d.grossAtEnding = some atEnding) (b : Bool) (ctl : Nat) (x : DispenseRecord) :
    closedBody (closingOf h d s) b ctl (.dispense x) =
      .dispense { x with
        outcome := some o, faultKind := if o = .fault ∨ o = .interrupted then d.faultKind else none
        flags := { d.flags with
          hoursBackward := b
          tempFallback := d.flags.tempFallback || (meanTemp s (hoseMeter h) d.sampling.sum d.sampling.n).2
          channelLow := netA (s.mtr.meters.get (hoseMeter h)).counts != netB (s.mtr.meters.get (hoseMeter h)).counts }
        figures := some
          { counted := countedPulses (s.mtr.meters.get (hoseMeter h)).counts
            pulsesA := netA (s.mtr.meters.get (hoseMeter h)).counts
            pulsesB := netB (s.mtr.meters.get (hoseMeter h)).counts
            reverse := max (s.mtr.meters.get (hoseMeter h)).counts.aRev (s.mtr.meters.get (hoseMeter h)).counts.bRev
            gross := runningGross (s.mtr.meters.get (hoseMeter h))
            standard := standardOf (runningGross (s.mtr.meters.get (hoseMeter h))) ctl
            meanTemp := (meanTemp s (hoseMeter h) d.sampling.sum d.sampling.n).1, ctl := ctl
            amount := closeAmount (closingOf h d s) (standardOf (runningGross (s.mtr.meters.get (hoseMeter h))) ctl)
            residual := runningGross (s.mtr.meters.get (hoseMeter h)) - atEnding
            pauseCount := d.pauseCount } } := by
  simp [closedBody, closingOf, ho, hat, residualOf, closeFigures]

/-- Settles O42: the close is the hose at rest over the closed books, and each part of the statement is one lemma about
those. -/
theorem settleEndClosesDispense : Obligations.SettleEndClosesDispense := by
  intro h n d s hst htimer hd
  have hexec : exec (.settleEnd h) s = .next (closeDispense h (reachTime n s)) := by
    simp [exec, execSettleEnd, hoseTimeout_due htimer, hst]
  have hd' : (hoseCtx (reachTime n s) h).dispense = some d := hd
  rw [closeDispense_atRest hd'] at hexec
  obtain ⟨hctx, hother, hshadow, hbound⟩ := atRest_hose h (restState ((reachTime n s).hsc.faults.get h))
    (closingResult h d (reachTime n s)) (bookDispense (closingOf h d (reachTime n s)) (closing h d (reachTime n s)))
  have hcomp : (closingOf h d (reachTime n s)).comp = d.comp := rfl
  have hgross : (closingOf h d (reachTime n s)).figures.gross = runningGross (s.mtr.meters.get (hoseMeter h)) := rfl
  have hstd : closeStandard (closingOf h d (reachTime n s)) (closing h d (reachTime n s)) =
      roundNat (runningGross (s.mtr.meters.get (hoseMeter h)) *
        ctlAt s d.comp (meanTemp s (hoseMeter h) d.sampling.sum d.sampling.n).1) 1000000 := by
    have hctl (x : Int) : ctlAt (closing h d (reachTime n s)) d.comp x = ctlAt s d.comp x := by
      simp [ctlAt, compartment]
    rw [closeStandard, hcomp, hgross, hctl]
    rfl
  have hjnl := bookDispense_jnl (closingOf h d (reachTime n s)) (closing h d (reachTime n s))
  have hstock := booked_stock h (d := d) (reachTime n s)
  have hamount := closeAmount_eq h d (reachTime n s)
  have hresult : closingResult h d (reachTime n s) =
      provingResult d (s.mtr.meters.get (hoseMeter h)) (runningGross (s.mtr.meters.get (hoseMeter h))) := rfl
  refine ⟨_, hexec, ?_, ?_, hshadow, hbound, ?_, ?_, ?_, ?_, ?_, ?_, ?_, ?_, ?_, ?_, ?_, ?_, ?_, ?_⟩
  · rw [hctx]
    simp [hoseCtx]
  · simp [modMeter]
    rfl
  · simp only [atRest_frame, hjnl]
    exact closedAt_closeRecord _ _ _
  · intro o atEnding ho hat
    simp only [atRest_frame, hjnl, closeRecord, modJnl, closing_frame]
    refine congrArg (fun f => { s.jnl with ring := s.jnl.ring.map f }) (funext fun r => ?_)
    have hback := closingBackward_eq h d (reachTime n s)
    have hseq : (closingOf h d (reachTime n s)).seq = d.seq := rfl
    have hctl : ctlAt (closing h d (reachTime n s)) d.comp (meanTemp s (hoseMeter h) d.sampling.sum d.sampling.n).1 =
        ctlAt s d.comp (meanTemp s (hoseMeter h) d.sampling.sum d.sampling.n).1 := by
      simp [ctlAt, compartment]
    have hmean : (closingOf h d (reachTime n s)).mean = meanTemp s (hoseMeter h) d.sampling.sum d.sampling.n := rfl
    by_cases hr : r.seq = d.seq ∧ r.isOpen = true
    · rw [if_pos (by simpa [hseq] using hr), if_pos hr]
      obtain ⟨seq, openTime, closeTime, body⟩ := r
      cases body with
      | dispense x =>
        rw [hback]
        simp only [closedBody_booked (reachTime n s) ho hat, hamount, hcomp, hmean, hctl]
        rfl
      | receipt x => rfl
      | reconcile x => rfl
      | adjust x => rfl
      | fault x => rfl
    · rw [if_neg (by simpa [hseq] using hr), if_neg hr]
  · intro g e hg he
    have hentry := booked_entry h (reachTime n s) hg he
    rw [hstd, closeEntry_eq, kept_entry] at hentry
    simp only [atRest_frame]
    exact hentry
  · intro g hg
    refine ⟨fun x hx => ?_, ?_, ?_⟩
    · simp only [atRest_frame]
      exact booked_others h (reachTime n s) hg hx
    · simp only [atRest_frame]
      exact booked_rules h (reachTime n s) hg
    · exact atRest_event (booked_resumed h (reachTime n s) hg) (by decide) (bookEvent_ne h).1
  · rw [atRest_compartment, hstock.committed, billed_compartment]
    rfl
  · rw [atRest_compartment, hstock.op, billed_compartment]
    rfl
  · rw [atRest_compartment, hstock.dispensed, billed_compartment, hstd]
    rfl
  · refine ⟨?_, ?_, ?_⟩
    · simp only [atRest_compartment]
      exact atRest_event (booked_negative h (d := d) (reachTime n s)) (by decide) (bookEvent_ne h).2.1
    · rw [atRest_compartment, hstock.notified, billed_compartment, hstd]
      rfl
    · have hdue := booked_due h (d := d) (reachTime n s)
      rw [hstd] at hdue
      simp only [atRest_compartment]
      exact atRest_event hdue (by decide) (bookEvent_ne h).2.2
  · intro g x hg hx
    simp only [atRest_frame, booked_contractor h (reachTime n s) hg hx, hstd, hamount, hg]
    rfl
  · intro hg
    simp only [atRest_frame]
    exact booked_alone h (reachTime n s) hg
  · intro cause c hproving hout hpos hcause hcap
    rw [hresult, provingResult_some hproving hout hpos hcause hcap]
    simp only [atRest_frame, letGo_cal]
    simp
  · intro hno
    rw [hresult, provingResult_none hno]
    simp only [atRest_frame, letGo_cal]
    simp
  · exact fun q => hasEvent_raise .dispenseClosed _ q
  · rw [hother]
    simp [hoseCtx]

end Sys2Proof.Machine
end

section
/-! PROOFS. The input events: emergency stop, power-fail warning, ignition and supply (R119, R120, R150, R155, R188, R189,
R190, R194). -/

namespace Sys2Proof.Machine

variable {s t u : State}

/-! ## The emergency stop (R119, R188) -/

/-- What the emergency stop makes of a hose's context. -/
structure HoseStopped (h : Hose) (s : State) (x : HoseCtx) : Prop where
  armed : (hoseCtx s h).state = .armed → x = idleCtx (hoseCtx s h)
  flowing : ∀ d, inDemand (hoseCtx s h).state = true → (hoseCtx s h).dispense = some d →
    x = endingCtx .estop s.itu.mono d (hoseCtx s h)
  kept : inUse (hoseCtx s h).state = false ∨ (hoseCtx s h).state = .ending → x = hoseCtx s h

theorem stopHoseNow_ctx (h : Hose) (s : State) : HoseStopped h s (hoseCtx (stopHoseNow h s) h) := by
  refine ⟨fun hst => ?_, fun d hdem hd => ?_, fun hst => ?_⟩
  · rw [stopHoseNow, if_pos hst]
    exact (returnIdle_moves h s).2.2
  · have harmed : (hoseCtx s h).state ≠ .armed := fun e => by simp [e, inDemand] at hdem
    rw [stopHoseNow, if_neg harmed, endIf, if_pos hdem]
    exact (enterEnding_moves .estop hd).2.1
  · have harmed : (hoseCtx s h).state ≠ .armed := by
      rintro e
      simp [e, inUse] at hst
    have hdem : inDemand (hoseCtx s h).state = false := by
      rcases hst with hst | hst
      · simp only [inUse, hasDispense, Bool.or_eq_false_iff] at hst
        exact hst.1.1
      · rw [hst]
        rfl
    rw [stopHoseNow, if_neg harmed, endIf, hdem]
    rfl

theorem stopHoseNow_other (h : Hose) (s : State) :
    hoseCtx (stopHoseNow h s) (otherHose h) = hoseCtx s (otherHose h) := by
  unfold stopHoseNow endIf
  split
  · exact (returnIdle_moves h s).1.other
  · split
    · exact enterEnding_other ..
    · rfl

/-- It begins from any state that agrees in the hose's context and the time base. -/
theorem HoseStopped.congr {h : Hose} {x : HoseCtx} (hx : HoseStopped h u x) (hctx : hoseCtx u h = hoseCtx s h)
    (hmono : u.itu.mono = s.itu.mono) : HoseStopped h s x := by
  obtain ⟨harmed, hflowing, hkept⟩ := hx
  rw [hctx] at harmed hflowing hkept
  rw [hmono] at hflowing
  exact ⟨harmed, hflowing, hkept⟩

theorem stopHoses_ctx (h : Hose) (s : State) :
    HoseStopped h s (hoseCtx (stopHoseNow .h2 (stopHoseNow .h1 s)) h) := by
  cases h with
  | h1 =>
    have hother : hoseCtx (stopHoseNow .h2 (stopHoseNow .h1 s)) .h1 = hoseCtx (stopHoseNow .h1 s) .h1 :=
      stopHoseNow_other .h2 _
    rw [hother]
    exact stopHoseNow_ctx .h1 s
  | h2 => exact (stopHoseNow_ctx .h2 (stopHoseNow .h1 s)).congr (stopHoseNow_other .h1 s) (by simp)

theorem emergencyStop_eq (hlatch : s.itu.latch = false) :
    emergencyStop s = raise .estop (settleIf .estop
      (stopHoseNow .h2 (stopHoseNow .h1 (modItu (fun x => { x with latch := true }) s)))) := by
  simp [emergencyStop, hlatch]

/-- What the emergency stop leaves. -/
structure EmergencyStopped (s t : State) : Prop where
  latch : t.itu.latch = true
  event : ∀ q, hasEvent (t.prt.ports.get q).pending .estop = true
  hose : ∀ h, HoseStopped h s (hoseCtx t h)
  receipt : receiptRuns s.rcp.receipt.state = true → t.rcp.receipt =
    { s.rcp.receipt with state := .settling, outcome := some .estop, timer := some (s.itu.mono + 20000) }
  rest : t.tpi = s.tpi ∧ t.jnl = s.jnl ∧ t.stk = s.stk ∧ t.mtr = s.mtr

theorem emergencyStop_stops (hlatch : s.itu.latch = false) : EmergencyStopped s (emergencyStop s) := by
  rw [emergencyStop_eq hlatch]
  generalize hv : modItu (fun x => { x with latch := true }) s = v
  have hctx (h : Hose) : hoseCtx v h = hoseCtx s h := by rw [← hv]; rfl
  have hmono : v.itu.mono = s.itu.mono := by rw [← hv]; rfl
  have hset : v.itu.latch = true := by rw [← hv]; rfl
  refine ⟨by simp [hset], fun q => hasEvent_raise .estop _ q, fun h => ?_, fun hruns => ?_, ?_⟩
  · have hhose := (stopHoses_ctx h v).congr (hctx h) hmono
    simpa [hoseCtx] using hhose
  · have hrcp : v.rcp = s.rcp := by rw [← hv]; rfl
    simp [settleIf_receipt, hrcp, hruns, hmono]
  · simp [← hv, modItu]

/-! ## The power-fail warning (R120, R189) -/

/-- A hose that the warning has closed. -/
def Closed (h : Hose) (s : State) : Prop := inUse (hoseCtx s h).state = false ∧ (hoseCtx s h).dispense = none

/-- A hose has a dispense exactly in the states of one. -/
def Owns (h : Hose) (s : State) : Prop := (hoseCtx s h).dispense.isSome = hasDispense (hoseCtx s h).state

theorem inUse_restState (l : FaultLevel) : inUse (restState l) = false := by
  cases l <;> rfl

theorem closeDispense_closes {h : Hose} {d : Dispense} (hd : (hoseCtx s h).dispense = some d) :
    Closed h (closeDispense h s) := by
  rw [closeDispense_atRest hd]
  have hctx := (atRest_hose h (restState (s.hsc.faults.get h)) (closingResult h d s)
    (bookDispense (closingOf h d s) (closing h d s))).1
  exact ⟨by rw [hctx]; exact inUse_restState _, by rw [hctx]⟩

theorem interruptHose_closes {h : Hose} (hs : Owns h s) : Closed h (interruptHose h s) := by
  cases hst : hasDispense (hoseCtx s h).state with
  | true =>
    obtain ⟨d, hd⟩ := Option.isSome_iff_exists.mp (hs.trans hst)
    rw [interruptHose, if_pos hst]
    refine closeDispense_closes (d := { d with outcome := some .interrupted, endCause := none }) ?_
    have hkept : hoseCtx (saveShadow true h (stopTimer h s)) h = { hoseCtx s h with timer := none } := by
      simp [stopTimer]
    simp [modDispense_eq_putHose, hkept, hd]
  | false =>
    have hnone : (hoseCtx s h).dispense = none := by simpa [Owns, hst] using hs
    rw [interruptHose, hst, if_neg (by decide)]
    split
    · have hctx := (returnIdle_moves h s).2.2
      exact ⟨by rw [hctx]; rfl, by rw [hctx]; exact hnone⟩
    · next harmed => exact ⟨by simp [inUse, hst, harmed], hnone⟩

theorem interruptHose_other (h : Hose) (s : State) :
    hoseCtx (interruptHose h s) (otherHose h) = hoseCtx s (otherHose h) := by
  unfold interruptHose
  split
  · rw [closeDispense_other]
    simp [stopTimer, modDispense_eq_putHose, otherHose_ne]
  · split
    · exact (returnIdle_moves h s).1.other
    · rfl

theorem interruptHoses_closes (h : Hose) (hs : Owns h s) : Closed h (interruptHoses s) := by
  have hkept (P : Hose → State → Prop) (hP : ∀ v w : State, hoseCtx v h = hoseCtx w h → P h w → P h v) (v : State)
      (hv : P h v) : P h (interruptHose (otherHose h) v) := by
    refine hP _ v ?_ hv
    simpa only [otherHose_otherHose] using interruptHose_other (otherHose h) v
  have howns (v w : State) (e : hoseCtx v h = hoseCtx w h) (hw : Owns h w) : Owns h v := by
    rwa [Owns, e]
  have hclosed (v w : State) (e : hoseCtx v h = hoseCtx w h) (hw : Closed h w) : Closed h v := by
    rwa [Closed, e]
  exact forHoses_reaches (A := Owns h) (B := Closed h)
    (hasDispense (hoseCtx s .h1).state && hasDispense (hoseCtx s .h2).state) h (fun v => interruptHose_closes)
    (hkept Owns howns) (hkept Closed hclosed) (fun v hv => hv) hs

theorem interruptReceipt_closes (hs : s.rcp.receipt.docket.isSome = (s.rcp.receipt.state != .idle)) :
    (interruptReceipt s).rcp.receipt.state = .idle ∧ (interruptReceipt s).rcp.receipt.docket = none := by
  have hclose {v : State} {d : Docket} (hd : v.rcp.receipt.docket = some d) :
      (closeReceiptNow .interrupted v).rcp.receipt.state = .idle ∧
        (closeReceiptNow .interrupted v).rcp.receipt.docket = none := by
    rw [closeReceiptNow, hd]
    simp [modReceipt]
  cases hst : s.rcp.receipt.state with
  | idle =>
    have hnone : s.rcp.receipt.docket = none := by simpa [hst] using hs
    simp [interruptReceipt, hst, hnone]
  | docketed =>
    obtain ⟨d, hd⟩ := Option.isSome_iff_exists.mp (by rw [hs, hst]; rfl : s.rcp.receipt.docket.isSome = true)
    simp only [interruptReceipt, hst]
    exact hclose hd
  | receiving | held | settling =>
    obtain ⟨d, hd⟩ := Option.isSome_iff_exists.mp (by rw [hs, hst]; rfl : s.rcp.receipt.docket.isSome = true)
    simp only [interruptReceipt, hst]
    exact hclose (v := saveReceiptShadow true s) (by simpa using hd)

theorem clearLeaks_leaks (s : State) (m : MeterId) :
    (clearLeaks s).mtr.meters.get m = { s.mtr.meters.get m with leaks := {} } := by
  cases m <;> rfl

/-- Where nothing holds a compartment it is FREE. -/
theorem op_free {x : Holdings} (hx : x.Claims) {c : Comp} (hstake : ∀ h, x.stake h = none) (hdocket : x.docket = none)
    (hreconcile : x.reconcile c = none) : x.op c = .free := by
  have hcount : x.drawCount c = 0 := by simp [Holdings.drawCount, Holdings.draws, hstake, boolCode]
  cases hx.claim c with
  | receiving hreceives _ _ _ => simp [Holdings.receives, hdocket] at hreceives
  | reconciling _ hrec _ _ => simp [hreconcile] at hrec
  | free _ _ _ hop => exact hop
  | drawn _ _ n hsome _ => omega

/-- What the warning leaves, from a state whose contexts and claims agree. -/
theorem powerFailStarts_closes (howners : ownersOk s = true) (hclaims : claimsOk s = true) :
    (∀ h, inUse (hoseCtx (powerFailStarts s) h).state = false ∧ (hoseCtx (powerFailStarts s) h).dispense = none) ∧
      (powerFailStarts s).rcp.receipt.state = .idle ∧ (powerFailStarts s).rcp.receipt.docket = none ∧
      (powerFailStarts s).tpi.reconciles = ⟨none, none⟩ ∧ (∀ c, (compartment (powerFailStarts s) c).op = .free) ∧
      (∀ m, ((powerFailStarts s).mtr.meters.get m).owned = false ∧ ((powerFailStarts s).mtr.meters.get m).leaks = {}) ∧
      (∀ c, ((powerFailStarts s).hsc.pumps.get c).state = .stopped) := by
  have ho := (ownersOk_iff s).mp howners
  have hchanges := (moves_powerFailStarts (may := fun _ => False) s).changes
  have ho' := ho.changes hchanges
  have hk' := ((claimsOk_iff s).mp hclaims).changes ho hchanges
  have hhose (h : Hose) : Closed h (powerFailStarts s) := by
    have hclosed := interruptHoses_closes h (s := s) (by simpa [Owns, holdings] using ho.stake h)
    unfold Closed at hclosed ⊢
    simpa [powerFailStarts, hoseCtx] using hclosed
  have hreceipt : (powerFailStarts s).rcp.receipt.state = .idle ∧ (powerFailStarts s).rcp.receipt.docket = none := by
    have hclosed := interruptReceipt_closes (s := interruptHoses s) (by simpa [holdings] using ho.docket)
    simpa [powerFailStarts] using hclosed
  have hreconciles : (powerFailStarts s).tpi.reconciles = ⟨none, none⟩ := by
    simp only [powerFailStarts, clearLeaks_frame, abortReconcile_running]
    rfl
  have hrests (h : Hose) : hasDispense (hoseCtx (powerFailStarts s) h).state = false := by
    have hrest := (hhose h).1
    simp only [inUse, Bool.or_eq_false_iff] at hrest
    exact hrest.1
  refine ⟨hhose, hreceipt.1, hreceipt.2, hreconciles, fun c => ?_, fun m => ⟨?_, ?_⟩, fun c => ?_⟩
  · exact op_free hk' (fun h => by simp [holdings, (hhose h).2]) (by simp [holdings, hreceipt.2])
      (by simp only [holdings, hreconciles]; cases c <;> rfl)
  · have hhoses (h : Hose) : ((powerFailStarts s).mtr.meters.get (hoseMeter h)).owned = false :=
      (ho'.owned h).trans (hrests h)
    cases m with
    | m1 => exact hhoses .h1
    | m2 => exact hhoses .h2
    | mi =>
      refine ho'.inlet.trans ?_
      simp [holdings, hreceipt.1, Holdings.flows, receiptRuns]
  · rw [powerFailStarts]
    simp only [clearLeaks_leaks]
  · have hpumps : (powerFailStarts s).hsc.pumps = (interruptHoses s).hsc.pumps := by simp [powerFailStarts]
    rw [hpumps]
    cases c <;> rfl

/-! ## Its end, and the ignition (R189, R194) -/

theorem powerFailEnds_eq (s : State) :
    powerFailEnds s =
      let v := activatePrices
        (if (clearLeaks s).cal.on && !inputActive (clearLeaks s) .calSwitch then endCalibration (clearLeaks s)
          else clearLeaks s)
      if v.itu.standby then v else startIdle v := rfl

structure PowerBack (s t : State) : Prop where
  itu : t.itu = if s.itu.standby then s.itu else { s.itu with idleDeadline := some (s.itu.mono + s.itu.idleInterval * 60000) }
  cal : inputActive s .calSwitch = false → t.cal.on = false
  leaks : ∀ m, (t.mtr.meters.get m).leaks = {}

theorem powerFailEnds_back (s : State) : PowerBack s (powerFailEnds s) := by
  rw [powerFailEnds_eq]
  generalize hv : (if (clearLeaks s).cal.on && !inputActive (clearLeaks s) .calSwitch then endCalibration (clearLeaks s)
    else clearLeaks s) = v
  have hitu : v.itu = s.itu := by rw [← hv]; split <;> simp
  have hcal (hswitch : inputActive s .calSwitch = false) : v.cal.on = false := by
    have hswitch' : inputActive (clearLeaks s) .calSwitch = false := by simpa [inputActive] using hswitch
    rw [← hv, hswitch']
    cases hon : (clearLeaks s).cal.on with
    | false => simpa using hon
    | true => simp [(endCalibration_ended (clearLeaks s)).cal]
  have hleaks (m : MeterId) : (v.mtr.meters.get m).leaks = {} := by
    have hmtr : v.mtr = (clearLeaks s).mtr := by rw [← hv]; split <;> simp
    rw [hmtr, clearLeaks_leaks]
  dsimp only
  cases hstandby : s.itu.standby with
  | true => exact ⟨by simp [hitu, hstandby], fun h => by simp [hitu, hstandby, hcal h], fun m => by simp [hitu, hstandby, hleaks]⟩
  | false =>
    exact ⟨by simp [hitu, hstandby, startIdle, modItu], fun h => by simp [hitu, hstandby, hcal h],
      fun m => by simp [hitu, hstandby, hleaks]⟩

/-- The wake and the reload of the idle timer on the ignition. -/
theorem ignition_reloads (s : State) :
    (reloadIdle .ignition (wake s)).itu.standby = false ∧
      ((s.itu.standby = true ∨ s.itu.idleSources.getLsbD 5 = true) →
        (reloadIdle .ignition (wake s)).itu.idleDeadline = some (s.itu.mono + s.itu.idleInterval * 60000)) ∧
      { reloadIdle .ignition (wake s) with itu := s.itu } = s := by
  have hcode : IdleSource.ignition.code = 5 := rfl
  unfold reloadIdle wake
  rw [hcode]
  cases hstandby : s.itu.standby <;> simp only [hstandby, startIdle, modItu, Bool.false_eq_true, if_true, if_false] <;>
    cases hsource : s.itu.idleSources.getLsbD 5 <;> simp only [Bool.false_eq_true, if_true, if_false]
  · exact ⟨hstandby, by simp, trivial⟩
  all_goals exact ⟨trivial, fun _ => trivial, trivial⟩

/-- Settles O59: each input row is the input's event in the part that has taken the change. -/
theorem inputEventsAct : Obligations.InputEventsAct := by
  refine ⟨fun s hin => ?_, fun s hin howners hclaims => ?_, fun s hin => ?_, fun s hin => ?_, fun s hin => ?_,
    fun i c s hmem hin => ?_⟩
  · refine ⟨_, (exec_inputRow .estop true s).trans (congrArg _ (changeInput_of_change hin)), ?_⟩
    cases hlatch : s.itu.latch with
    | true =>
      have hstop : inputEvent .estop true (withInput .estop true s) = withInput .estop true s := by
        have hlatch' : (withInput .estop true s).itu.latch = true := hlatch
        simp [inputEvent, emergencyStop, hlatch']
      rw [hstop]
      exact ⟨by simp, hlatch, fun _ => rfl, fun h => absurd h (by decide)⟩
    | false =>
      have hstop : inputEvent .estop true (withInput .estop true s) = emergencyStop (withInput .estop true s) := rfl
      have hlatch' : (withInput .estop true s).itu.latch = false := hlatch
      rw [hstop]
      obtain ⟨hset, hevent, hhose, hreceipt, hrest⟩ := emergencyStop_stops hlatch'
      refine ⟨?_, hset, fun h => absurd h (by decide), fun _ =>
        ⟨hevent, fun h => (hhose h).armed, fun h => (hhose h).flowing, fun h => (hhose h).kept, hreceipt, ?_⟩⟩
      · simp [inputActive, withInput, modInput]
      · simp
  · obtain ⟨hhose, hstate, hdocket, hreconciles, hop, hmeters, hpumps⟩ :=
      powerFailStarts_closes (s := withInput .powerfail true s) howners hclaims
    refine ⟨_, (exec_inputRow .powerfail true s).trans (congrArg _ (changeInput_of_change hin)), ?_, hhose, hstate, hdocket,
      hreconciles, hop, hmeters, hpumps, ?_⟩
    · simp [powerFail, inputActive, inputEvent, powerFailStarts, withInput, modInput]
    · simp [inputEvent, powerFailStarts, withInput, modInput]
  · obtain ⟨hitu, hcal, hleaks⟩ := powerFailEnds_back (withInput .powerfail false s)
    refine ⟨_, (exec_inputRow .powerfail false s).trans (congrArg _ (changeInput_of_change hin)), ?_, fun hstandby => ?_,
      fun hstandby => ?_, fun hswitch => hcal hswitch, hleaks⟩
    · rw [powerFail, inputActive]
      simp only [inputEvent, hitu]
      split <;> exact inputActive_withInput .powerfail false s
    · have hstandby' : (withInput .powerfail false s).itu.standby = false := hstandby
      simp only [inputEvent, hitu, hstandby']
      rfl
    · have hstandby' : (withInput .powerfail false s).itu.standby = true := hstandby
      simp only [inputEvent, hitu, hstandby', if_true]
  · obtain ⟨hstandby, hdeadline, hrest⟩ := ignition_reloads (withInput .ignition true s)
    refine ⟨_, (exec_inputRow .ignition true s).trans (congrArg _ (changeInput_of_change hin)), ?_, hstandby, hdeadline, ?_⟩
    · simp [inputEvent, inputActive, withInput, modInput]
    · exact congrArg (fun v => { v with itu := s.itu }) hrest
  · refine ⟨_, (exec_inputRow .supplyLow true s).trans (congrArg _ (changeInput_of_change hin)), ?_,
      fun q => hasEvent_raise .supplyLow _ q, rfl⟩
    simp [inputEvent, inputActive, withInput, modInput]
  · have hrow : c = inputRow i false ∧ ∀ v, inputEvent i false v = v := by
      simp only [List.mem_cons, Prod.mk.injEq, List.not_mem_nil, or_false] at hmem
      rcases hmem with ⟨rfl, rfl⟩ | ⟨rfl, rfl⟩ | ⟨rfl, rfl⟩ | ⟨rfl, rfl⟩ | ⟨rfl, rfl⟩ <;> exact ⟨rfl, fun _ => rfl⟩
    rw [hrow.1, exec_inputRow, changeInput_of_change hin, hrow.2]
    exact ⟨_, rfl, by simp, rfl⟩

end Sys2Proof.Machine
end

section
/-! PROOFS. What a start leaves (R123, R151, R156, R173, R195, R203). -/

namespace Sys2Proof.Machine

open Holdings

variable {s t u : State}

/-! ## What a start raises -/

section

variable {a : Prt}

theorem raises_evalRollover (hs : Raises a s.prt) : Raises a (evalRollover s).prt := by
  unfold evalRollover
  split
  · exact Raises.raise (by simpa using hs) _
  · exact hs

theorem raises_expireWatch (i : Nat) (hs : Raises a s.prt) : Raises a (expireWatch i s).prt := by
  unfold expireWatch
  split
  · split
    · exact Raises.raise (by simpa using hs) _
    · exact hs
  · exact hs

theorem raises_expireWatches (hs : Raises a s.prt) : Raises a (expireWatches s).prt := by
  unfold expireWatches
  generalize List.range 8 = l
  induction l generalizing s with
  | nil => exact hs
  | cons i rest ih => exact ih (raises_expireWatch i hs)

theorem raises_beforeBooks (hs : Raises a s.prt) : Raises a (beforeBooks s).prt :=
  raises_expireWatches (raises_evalRollover (hs.raiseIf _ _))

theorem raises_writeAllDeferred (hs : Raises a s.prt) : Raises a (writeAllDeferred s).prt := by
  have hone (src : Source) {v : State} (hv : Raises a v.prt) : Raises a (writeDeferred src v).prt := by
    unfold writeDeferred
    split
    · exact hv
    · split
      · exact hv
      · exact raises_takeSlot _ _ _ (by simpa using hv)
  exact hone _ (hone _ (hone _ (hone _ hs)))

theorem raises_activatePrices (hs : Raises a s.prt) : Raises a (activatePrices s).prt := by
  have hone (c : Comp) {v : State} (hv : Raises a v.prt) : Raises a (activatePrice c v).prt := by
    unfold activatePrice
    split
    · exact hv
    · split
      · refine Raises.raise ?_ _
        simp only [modPrice_frame]
        exact raises_takeSlot _ _ _ hv
      · exact hv
  exact hone _ (hone _ hs)

end

/-! ## The committed volumes (R128) -/

/-- The committed volumes of the compartments are the same. -/
def SameCommitted (a b : Stk) : Prop := ∀ c, (b.comps.get c).committed = (a.comps.get c).committed

theorem SameCommitted.refl (a : Stk) : SameCommitted a a := fun _ => rfl

theorem SameCommitted.trans {a b c : Stk} (h : SameCommitted a b) (h' : SameCommitted b c) : SameCommitted a c :=
  fun k => (h' k).trans (h k)

/-- A change of one compartment that keeps its committed volume. -/
theorem sameCommitted_modComp {f : Compartment → Compartment} (hf : ∀ k, (f k).committed = k.committed) (c : Comp)
    (s : State) : SameCommitted s.stk (modComp c f s).stk := by
  intro k
  by_cases hk : k = c
  · subst hk
    simp [modComp, hf]
  · simp [modComp, hk]

theorem sameCommitted_stockClose (c : Comp) (standard : Nat) (proving : Bool) (s : State) :
    SameCommitted s.stk (stockClose c standard 0 proving s).stk := by
  have hbook : SameCommitted s.stk (modComp c (bookClose standard 0 proving) s).stk :=
    sameCommitted_modComp (f := bookClose standard 0 proving) (fun _ => rfl) c s
  unfold stockClose
  dsimp only
  split
  · exact hbook
  · split
    · refine hbook.trans ?_
      simp only [raise_frame]
      generalize hb : (decide (0 ≤ bookOf (compartment s c).book) &&
        decide (bookOf (compartment (modComp c (bookClose standard 0 proving) s) c).book < 0)) = below
      have hkept := sameCommitted_modComp (f := fun x => { x with notified := true }) (fun _ => rfl) c
        (raiseIf below .stockNegative (modComp c (bookClose standard 0 proving) s))
      simpa only [raiseIf_frame] using hkept
    · simpa only [raiseIf_frame] using hbook

theorem sameCommitted_bookDispense {k : Closing} (hk : k.committedVolume = 0) (s : State) :
    SameCommitted s.stk (bookDispense k s).stk := by
  rw [bookDispense_eq, hk]
  have hstock := sameCommitted_stockClose k.comp (closeStandard k s) k.proving (billed k s)
  rw [billed_stk] at hstock
  exact hstock

theorem sameCommitted_startupClose (h : Hose) (s : State) : SameCommitted s.stk (startupClose h s).stk := by
  unfold startupClose
  dsimp only
  split
  · simp only [raise_frame, setShadow_frame]
    split
    · exact sameCommitted_bookDispense rfl (modMeter _ _ s)
    · exact .refl _
  · exact .refl _

theorem sameCommitted_bookReceipt (seq : Nat) (c : Comp) (expected : Nat) (gross : Option Nat) (mean : Int)
    (level : Option Nat) (o : ReceiptOutcome) (s : State) :
    SameCommitted s.stk (bookReceipt seq c expected gross mean level o s).stk := by
  unfold bookReceipt
  dsimp only
  simp only [raiseIf_frame, raise_frame, modRcp_frame, closeRecord_frame, stockReceipt]
  refine sameCommitted_modComp (fun k => ?_) c s
  unfold evalReturn
  split <;> rfl

theorem sameCommitted_startupReceipt (s : State) : SameCommitted s.stk (startupReceipt s).stk := by
  unfold startupReceipt
  dsimp only
  split
  · split
    · split
      · exact sameCommitted_bookReceipt _ _ _ _ _ _ _ (modMeter _ _ s)
      · exact sameCommitted_bookReceipt _ _ _ _ _ _ _ s
    · exact .refl _
  · exact .refl _

theorem sameCommitted_closeBooks (s : State) : SameCommitted s.stk (closeBooks s).stk :=
  closeBooks_preserves (P := fun v => SameCommitted s.stk v.stk)
    (fun h v hv => hv.trans (sameCommitted_startupClose h v)) (fun _ hv => hv)
    (fun v hv => hv.trans (sameCommitted_startupReceipt v)) (fun v hv => by simpa using hv) s (.refl _)

/-! ## The levels of the inputs -/

theorem takeLevels_input (s : State) (i : Input) :
    (takeLevels s).itu.inputs.get i =
      { s.itu.inputs.get i with
        active := (s.itu.inputs.get i).level != (s.itu.inputs.get i).activeLow, heldAt := none } := by
  cases i <;> rfl

theorem setLevels_input (levels : BitVec 12) (s : State) (i : Input) :
    (setLevels levels s).itu.inputs.get i = { s.itu.inputs.get i with level := levels.getLsbD i.ctorIdx } := by
  cases i <;> rfl

/-! ## The start -/

/-- The part from which a start goes out: nothing volatile stands, and the inputs have been read. -/
structure Cleared (s u : State) : Prop where
  mtr : u.mtr = (volatileReset s).mtr
  tpi : u.tpi = (volatileReset s).tpi
  idu : u.idu = (volatileReset s).idu
  bil : u.bil = (volatileReset s).bil
  hsc : u.hsc = (volatileReset s).hsc
  stk : u.stk = (volatileReset s).stk
  rcp : u.rcp = (volatileReset s).rcp
  jnl : u.jnl = (volatileReset s).jnl
  cal : u.cal = (volatileReset s).cal
  prt : Raises (volatileReset s).prt u.prt
  idle : u.itu.idleInterval = s.itu.idleInterval
  inputs : ∀ i, inputActive u i = ((u.itu.inputs.get i).level != (s.itu.inputs.get i).activeLow)

/-- What a start leaves. -/
structure StartLeft (s t : State) : Prop where
  hoses : ∀ h, hoseCtx t h = { state := restState (s.hsc.faults.get h) } ∧ (t.hsc.shadows.get h).opened = false ∧
    t.idu.readers.get h = {}
  hsc : t.hsc.faults = s.hsc.faults ∧ t.hsc.pumps = ⟨{}, {}⟩ ∧ t.hsc.map = s.hsc.map ∧ t.hsc.params = s.hsc.params
  rcp : t.rcp.receipt = {} ∧ t.rcp.shadow.opened = false ∧ t.rcp.fault = s.rcp.fault
  cal : t.cal = { on := false, results := ⟨none, none⟩ } ∧ t.tpi.reconciles = ⟨none, none⟩
  meters : ∀ m, (t.mtr.meters.get m).owned = false ∧ (t.mtr.meters.get m).params = (s.mtr.meters.get m).params
  comps : ∀ c, (compartment t c).op = .free ∧ (compartment t c).committed = 0 ∧
    (compartment t c).params = (compartment s c).params ∧ (compartment t c).strapping = (compartment s c).strapping
  contractors : ∀ i, (contractorOf t i).committed = 0
  records : ∀ r ∈ t.jnl.ring, r.isOpen = false
  inputs : ∀ i, inputActive t i = ((t.itu.inputs.get i).level != (s.itu.inputs.get i).activeLow)
  idle : t.itu.standby = false ∧ t.itu.idleDeadline = some (t.itu.mono + s.itu.idleInterval * 60000)
  ports : ∀ q, hasEvent (t.prt.ports.get q).pending .startup = true ∧ (t.prt.ports.get q).mask = 0xFFFFFF#24 ∧
    (t.prt.ports.get q).answer = none ∧ (t.prt.ports.get q).phase = .ready

/-- What stands after the close of the books in a start. -/
def afterBooks (lost : Bool) (s : State) : State :=
  let v := activatePrices (writeAllDeferred s)
  let w := if lost then recordFault .part .clockLost false none v else v
  startIdle (modItu (fun x => { x with standby := false }) w)

theorem startUp_eq (lost : Bool) (s : State) : startUp lost s = afterBooks lost (closeBooks (beforeBooks s)) := by
  unfold startUp afterBooks closeBooks beforeBooks
  rfl

theorem afterBooks_stk (lost : Bool) (s : State) : (afterBooks lost s).stk = s.stk := by
  cases lost <;> simp [afterBooks, startIdle, modItu]

theorem raises_afterBooks {a : Prt} (lost : Bool) (hs : Raises a s.prt) : Raises a (afterBooks lost s).prt := by
  have hprices := raises_activatePrices (raises_writeAllDeferred hs)
  unfold afterBooks
  generalize activatePrices (writeAllDeferred s) = v at hprices
  cases lost with
  | false => exact hprices
  | true => exact raises_recordFault _ _ _ _ hprices

theorem afterBooks_idle (lost : Bool) (s : State) : (afterBooks lost s).itu.standby = false ∧
    (afterBooks lost s).itu.idleDeadline = some ((afterBooks lost s).itu.mono + s.itu.idleInterval * 60000) := by
  cases lost <;> simp [afterBooks, startIdle, modItu]

/-- A lost clock is a fault of the part. -/
theorem afterBooks_lost (s : State) (q : Port) :
    hasEvent ((afterBooks true s).prt.ports.get q).pending .fault = true :=
  hasEvent_raise .fault _ q

section

variable (hu : Cleared s u)
include hu

theorem Cleared.stopped : Stopped s u := .of_frame hu.mtr hu.tpi hu.bil hu.hsc hu.stk hu.rcp hu.jnl

theorem raises_startUp (lost : Bool) : Raises (volatileReset s).prt (startUp lost u).prt := by
  rw [startUp_eq]
  exact raises_afterBooks lost (closeBooks_preserves (P := fun v => Raises (volatileReset s).prt v.prt)
    (fun h _ hv => raises_startupClose h hv) (fun _ hv => hv) (fun _ hv => raises_startupReceipt hv)
    (fun _ hv => raises_startupReconciles hv) _ (raises_beforeBooks hu.prt))

theorem startUp_committed (lost : Bool) (c : Comp) : (compartment (startUp lost u) c).committed = 0 := by
  have hbooks := sameCommitted_closeBooks (beforeBooks u) c
  have hbefore : (beforeBooks u).stk = u.stk := by simp [beforeBooks]
  rw [hbefore, hu.stk] at hbooks
  rw [startUp_eq, compartment, afterBooks_stk, hbooks]
  cases c <;> rfl

theorem startUp_hoseCtx (lost : Bool) (h : Hose) :
    hoseCtx (startUp lost u) h = { state := restState (s.hsc.faults.get h) } := by
  have hhoses : (startUp lost u).hsc.hoses = (volatileReset s).hsc.hoses := by simp [hu.hsc]
  rw [hoseCtx, hhoses]
  cases h <;> rfl

theorem startUp_receipt (lost : Bool) : (startUp lost u).rcp.receipt = {} := by
  simp [hu.rcp, volatileReset]

theorem startUp_reconciles (lost : Bool) : (startUp lost u).tpi.reconciles = ⟨none, none⟩ := by
  simp [hu.tpi, volatileReset]

/-- Nothing is in progress after a start, as nothing was before. -/
theorem vacant_startUp (lost : Bool) : Vacant (holdings (startUp lost u)) := by
  have hvacant := vacant_closeBooks hu.stopped.vacant
  have hchanges := changes_startUp lost u
  have ho := hvacant.owners.changes hchanges
  have hk := hvacant.claims.changes hvacant.owners hchanges
  have hc := hvacant.committed_shares.changes hvacant.owners hchanges
  have hstake (h : Hose) : (holdings (startUp lost u)).stake h = none := by simp [holdings, startUp_hoseCtx hu]
  have hholds (h : Hose) : (holdings (startUp lost u)).holds h = false := by rw [← ho.stake, hstake]; rfl
  have hphase : (holdings (startUp lost u)).phase = .idle := by simp only [holdings, startUp_receipt hu]
  have hdocket : (holdings (startUp lost u)).docket = none := by simp only [holdings, startUp_receipt hu]; rfl
  have hreconcile (c : Comp) : (holdings (startUp lost u)).reconcile c = none := by
    simp only [holdings, startUp_reconciles hu]
    cases c <;> rfl
  have howned (h : Hose) : (holdings (startUp lost u)).owned (hoseMeter h) = false := by rw [ho.owned, hholds]
  refine ⟨hholds, hstake, fun m => ?_, hphase, hdocket, ?_, hreconcile, fun c => op_free hk hstake hdocket (hreconcile c),
    fun i => by simp [hc i, share, hstake]⟩
  · cases m with
    | m1 => exact howned .h1
    | m2 => exact howned .h2
    | mi => exact ho.inlet.trans (by rw [hphase]; rfl)
  · exact ho.started.trans (by rw [hphase]; rfl)

/-- No record is OPEN after a start, and no shadow. -/
theorem startUp_records (lost : Bool) (hring : ringOk s.jnl = true) (hrecords : recordsOk s = true) :
    (holdings (startUp lost u)).opens = [] ∧ (∀ h, (holdings (startUp lost u)).shadow h = none) ∧
      (holdings (startUp lost u)).receiptShadow = none := by
  have hv := vacant_startUp hu lost
  have hr := records_startUp lost hu.stopped hring ((recordsOk_iff s).mp hrecords)
  have hshadow (h : Hose) : (holdings (startUp lost u)).shadow h = none := by rw [hr.shadow, hv.stake]; rfl
  have hreceipt : (holdings (startUp lost u)).receiptShadow = none := by rw [hr.receiptShadow, hv.docket]; rfl
  refine ⟨List.eq_nil_iff_forall_not_mem.mpr fun p hp => ?_, hshadow, hreceipt⟩
  have hnumber := hr.backed p hp
  match ho : p.2 with
  | none => simp [ho, number] at hnumber
  | some (.hose h) => simp [ho, number, hshadow] at hnumber
  | some .receipt => simp [ho, number, hreceipt] at hnumber
  | some (.reconcile c) => simp [ho, number, hv.reconcile] at hnumber

theorem startUp_idle (lost : Bool) : (startUp lost u).itu.standby = false ∧
    (startUp lost u).itu.idleDeadline = some ((startUp lost u).itu.mono + s.itu.idleInterval * 60000) := by
  rw [startUp_eq]
  have hbefore : (closeBooks (beforeBooks u)).itu = u.itu :=
    closeBooks_preserves (P := fun v => v.itu = u.itu) (fun h v hv => by simpa using hv) (fun _ hv => hv)
      (fun v hv => by simpa using hv) (fun v hv => by simpa using hv) _ (by simp [beforeBooks])
  generalize closeBooks (beforeBooks u) = v at hbefore ⊢
  have hidle := afterBooks_idle lost v
  rwa [hbefore, hu.idle] at hidle

theorem startUp_ports (lost : Bool) (q : Port) :
    hasEvent ((startUp lost u).prt.ports.get q).pending .startup = true ∧
      ((startUp lost u).prt.ports.get q).mask = 0xFFFFFF#24 ∧ ((startUp lost u).prt.ports.get q).answer = none ∧
      ((startUp lost u).prt.ports.get q).phase = .ready := by
  have hraises := raises_startUp hu lost
  have hstartup : hasEvent ((volatileReset s).prt.ports.get q).pending .startup = true := by
    have hbit : hasEvent Event.startup.bit .startup = true := by decide
    cases q <;> exact hbit
  refine ⟨hasEvent_of_raises hraises hstartup, ?_⟩
  obtain ⟨set, hset⟩ := hraises.get q
  rw [hset]
  cases q <;> exact ⟨rfl, rfl, rfl⟩

theorem startUp_inputs (lost : Bool) (i : Input) : inputActive (startUp lost u) i =
    (((startUp lost u).itu.inputs.get i).level != (s.itu.inputs.get i).activeLow) := by
  have hinputs : (startUp lost u).itu.inputs = u.itu.inputs := by simp
  have hactive := hu.inputs i
  rw [inputActive] at hactive ⊢
  rw [hinputs, hactive]

omit hu in
theorem opened_of_shadow {w : State} {h : Hose} (hnone : (holdings w).shadow h = none) :
    (w.hsc.shadows.get h).opened = false := by
  simp only [holdings] at hnone
  split at hnone
  · contradiction
  next hclosed => exact eq_false_of_ne_true hclosed

omit hu in
theorem opened_of_receiptShadow {w : State} (hnone : (holdings w).receiptShadow = none) : w.rcp.shadow.opened = false := by
  simp only [holdings] at hnone
  split at hnone
  · contradiction
  next hclosed => exact eq_false_of_ne_true hclosed

omit hu in
theorem closed_of_opens {w : State} (hopens : (holdings w).opens = []) (r : Record) (hr : r ∈ w.jnl.ring) :
    r.isOpen = false := by
  by_contra hopen
  have hmem : (r.seq, r.body.operation) ∈ (holdings w).opens :=
    List.mem_map.mpr ⟨r, List.mem_filter.mpr ⟨hr, by simpa using hopen⟩, rfl⟩
  rw [hopens] at hmem
  exact absurd hmem (by simp)

/-- A start leaves the part as the tables have it. -/
theorem startUp_leaves (lost : Bool) (hring : ringOk s.jnl = true) (hrecords : recordsOk s = true)
    (hparams : SameParams s (startUp lost u)) : StartLeft s (startUp lost u) := by
  have hv := vacant_startUp hu lost
  obtain ⟨hopens, hshadow, hreceipt⟩ := startUp_records hu lost hring hrecords
  have hidu : (startUp lost u).idu = (volatileReset s).idu := by simp [hu.idu]
  refine
    { hoses := fun h => ⟨startUp_hoseCtx hu lost h, opened_of_shadow (hshadow h), ?_⟩
      hsc := ?_
      rcp := ⟨startUp_receipt hu lost, opened_of_receiptShadow hreceipt, by simp [hu.rcp]⟩
      cal := ⟨by simp [hu.cal, volatileReset], startUp_reconciles hu lost⟩
      meters := fun m => ⟨hv.owned m, hparams.meters m⟩
      comps := fun c => ⟨hv.op c, startUp_committed hu lost c, hparams.comps c⟩
      contractors := hv.committed
      records := closed_of_opens hopens
      inputs := startUp_inputs hu lost
      idle := startUp_idle hu lost
      ports := startUp_ports hu lost }
  · rw [hidu]
    cases h <;> rfl
  · simp [hu.hsc, volatileReset]

end

/-! ## The two starts -/

theorem cleared_takeLevels (s : State) : Cleared s (takeLevels (volatileReset s)) where
  mtr := by simp
  tpi := by simp
  idu := by simp
  bil := by simp
  hsc := by simp
  stk := by simp
  rcp := by simp
  jnl := by simp
  cal := by simp
  prt := .of_eq (by simp)
  idle := by simp
  inputs i := by rw [inputActive, takeLevels_input]; simp

theorem cleared_hardwareReset (levels : BitVec 12) (battery : Bool) (down : Nat) (s : State) :
    ∃ u, Cleared s u ∧ hardwareReset levels battery down s = startUp (!battery) u ∧ u.itu.mono = 0 ∧
      (∀ i, (u.itu.inputs.get i).level = levels.getLsbD i.ctorIdx) ∧ u.itu.latch = inputActive u .estop ∧
      u.itu.clockValid = battery ∧ u.itu.clock = (if battery then min max32 (s.itu.clock + down) else 0) := by
  generalize hw : takeLevels (setLevels levels (volatileReset s)) = w
  generalize hv : modItu (fun x => { x with
    latch := x.inputs.estop.active, clock := if battery then satAdd max32 x.clock down else 0, clockValid := battery
    mono := 0 }) w = v
  have hinputs : (raiseIf v.itu.latch .estop v).itu.inputs = w.itu.inputs := by rw [← hv]; simp [modItu]
  have hlatch : v.itu.latch = w.itu.inputs.estop.active := by rw [← hv]; rfl
  refine ⟨raiseIf v.itu.latch .estop v, ?_, ?_, ?_, fun i => ?_, ?_, ?_, ?_⟩
  · refine ⟨?_, ?_, ?_, ?_, ?_, ?_, ?_, ?_, ?_, (Raises.of_eq ?_).raiseIf _ _, ?_, fun i => ?_⟩
    case refine_12 =>
      rw [inputActive, hinputs, ← hw, takeLevels_input, setLevels_input]
      simp
    all_goals simp [← hv, ← hw, modItu]
  · rw [hardwareReset, hw]
    subst hv
    rfl
  · simp [← hv, modItu]
  · rw [hinputs, ← hw, takeLevels_input, setLevels_input]
  · have hsame : (raiseIf v.itu.latch .estop v).itu.latch = v.itu.latch := by simp
    rw [inputActive, hinputs, hsame, hlatch]
    rfl
  · simp [← hv, modItu]
  · simp [← hv, ← hw, modItu, satAdd]

theorem recordsOk_wake (s : State) : recordsOk (wake s) = recordsOk s := by
  obtain ⟨_, _, hw⟩ := wake_eq s
  rw [hw]
  rfl

theorem StartLeft.of_wake (h : StartLeft (wake s) t) : StartLeft s t := by
  obtain ⟨hhoses, hhsc, hrcp, hcal, hmeters, hcomps, hcontractors, hrecords, hinputs, hidle, hports⟩ := h
  have hcomp (c : Comp) : compartment (wake s) c = compartment s c := by simp [compartment]
  simp only [wake_frame, hcomp] at hhoses hhsc hrcp hmeters hcomps hinputs hidle
  exact ⟨hhoses, hhsc, hrcp, hcal, hmeters, hcomps, hcontractors, hrecords, hinputs, hidle, hports⟩

/-- Settles O60: both starts go out from a cleared part, and what a start leaves is the same. -/
theorem resetAndRestartStartThePart : Obligations.ResetAndRestartStartThePart := by
  unfold Obligations.ResetAndRestartStartThePart
  intro started
  have hstarted {s t : State} (h : StartLeft s t) : started s t :=
    ⟨h.hoses, h.hsc.1, h.hsc.2.1, h.hsc.2.2.1, h.hsc.2.2.2, h.rcp.1, h.rcp.2.1, h.rcp.2.2, h.cal.1, h.cal.2, h.meters,
      h.comps, h.contractors, h.records, h.inputs, h.idle.1, h.idle.2, h.ports⟩
  refine ⟨fun levels battery down s hring hrecords => ?_, fun s ht => ⟨fun huse => ?_, fun huse hring hrecords => ?_⟩⟩
  · obtain ⟨u, hu, heq, hmono, hlevel, hlatch, hvalid, hclock⟩ := cleared_hardwareReset levels battery down s
    have hparams : SameParams s (hardwareReset levels battery down s) :=
      (Leap.reset (may := fun p => p = .reset) levels battery down s rfl).sameParams (by simp)
    refine ⟨_, rfl, ?_⟩
    rw [heq] at hparams ⊢
    refine ⟨hstarted (startUp_leaves hu (!battery) hring hrecords hparams), by simpa using hmono, by simpa using hlevel, ?_,
      by simpa using hvalid, by simpa using hclock, fun hb q => ?_⟩
    · have hinputs : (startUp (!battery) u).itu.inputs = u.itu.inputs := by simp
      rw [inputActive, hinputs]
      simpa [inputActive] using hlatch
    · subst hb
      rw [startUp_eq]
      exact afterBooks_lost _ q
  · rw [exec_eq_answered rfl rfl ht, reqRestart, partInUse_wake, huse]
    rfl
  · have hparams : SameParams (wake s) (restartNow (wake s)) :=
      (Leap.restart (may := fun p => p = .restart) (wake s) rfl).sameParams (by simp)
    rw [exec_eq_answered rfl rfl ht, reqRestart, partInUse_wake, huse, if_neg (by decide)]
    have hleft := startUp_leaves (cleared_takeLevels (wake s)) false (by simpa using hring) (by rwa [recordsOk_wake])
      hparams
    refine ⟨_, rfl, hstarted hleft.of_wake, ?_, ?_, ?_, ?_, fun i => ?_⟩
    · simp [restartNow]
    · simp [restartNow]
    · simp [restartNow]
    · simp [restartNow]
    · have hinputs : (restartNow (wake s)).itu.inputs = (takeLevels (volatileReset (wake s))).itu.inputs := by
        simp [restartNow]
      rw [hinputs, takeLevels_input]
      simp

end Sys2Proof.Machine
end

section
/-! PROOFS. What a fault at a hose leaves, by the hose's state (R113 to R117, R167). -/

namespace Sys2Proof.Machine

variable {s t u : State}

/-! ## The fault's record and events -/

theorem recordFault_stored (src : Source) (kind : FaultKind) (locked : Bool) (volume : Option Nat) (s : State) :
    faultStored src kind locked volume s (recordFault src kind locked volume s) := by
  refine ⟨fun hfree => ?_, fun hfree => ?_⟩
  · have hpos : 0 < freeSlots s.jnl := Nat.pos_of_ne_zero hfree
    simp only [recordFault, if_pos hpos, raise_frame, writeClosed_eq, raiseIf_jnl]
    rfl
  · simp [recordFault, hfree, modJnl]

theorem recordFault_raised (src : Source) (kind : FaultKind) (locked : Bool) (volume : Option Nat) (s : State)
    {e : Event} (he : e ≠ .journalLow) : raisedIf (decide (e = .fault)) e s (recordFault src kind locked volume s) := by
  have hbefore : raisedIf false e s (if 0 < freeSlots s.jnl then
      writeClosed (.fault { source := src, kind := kind, locked := locked, volume := volume, repeats := none }) s
    else modJnl (fun j => { j with
      deferred := j.deferred.set src (some (holdFault s.itu.clock kind locked volume (j.deferred.get src))) }) s) := by
    split
    · rw [writeClosed_eq]
      exact (raisedIf_of_prt (t := { s with jnl := appended s true _ }) rfl).raiseIf_other he.symm
    · exact raisedIf_of_prt rfl
  by_cases hfault : e = .fault
  · subst hfault
    exact raisedIf.raiseIf_self true hbefore
  · rw [decide_eq_false hfault]
    exact hbefore.raise_other (Ne.symm hfault)

/-- The level, the record or deferred entry, and the events of a fault at a hose. -/
theorem setHoseFault_taken (h : Hose) (kind : FaultKind) (locked : Bool) (volume : Option Nat) (s : State) :
    faultTaken (hoseSource h) kind locked volume (s.hsc.faults.get h) s (setHoseFault h kind locked volume s) := by
  have hstored := recordFault_stored (hoseSource h) kind locked volume
    (setFault h (if locked then .locked kind else .halted kind) s)
  have hraised {e : Event} (he : e ≠ .journalLow) := recordFault_raised (hoseSource h) kind locked volume
    (setFault h (if locked then .locked kind else .halted kind) s) he
  refine ⟨?_, ?_, ?_⟩
  · unfold setHoseFault faultStored
    simp only [raiseIf_jnl]
    exact hstored
  · exact ((hraised (e := .fault) (by decide)).raiseIf_other (by decide)).of_prt rfl
  · exact ((hraised (e := .locked) (by decide)).raiseIf_self _).of_prt rfl

theorem setInletFault_taken (kind : FaultKind) (locked : Bool) (volume : Option Nat) (s : State) :
    faultTaken .inlet kind locked volume s.rcp.fault s (setInletFault kind locked volume s) := by
  have hstored := recordFault_stored .inlet kind locked volume
    (modRcp (fun x => { x with fault := if locked then .locked kind else .halted kind }) s)
  have hraised {e : Event} (he : e ≠ .journalLow) := recordFault_raised .inlet kind locked volume
    (modRcp (fun x => { x with fault := if locked then .locked kind else .halted kind }) s) he
  refine ⟨?_, ?_, ?_⟩
  · unfold setInletFault faultStored
    simp only [raiseIf_jnl]
    exact hstored
  · exact ((hraised (e := .fault) (by decide)).raiseIf_other (by decide)).of_prt rfl
  · exact ((hraised (e := .locked) (by decide)).raiseIf_self _).of_prt rfl

theorem setHoseFault_faults (h : Hose) (kind : FaultKind) (locked : Bool) (volume : Option Nat) (s : State) :
    (setHoseFault h kind locked volume s).hsc.faults =
      s.hsc.faults.set h (if locked then .locked kind else .halted kind) := by
  simp [setHoseFault, setFault]

/-- Neither of a fault's events is raised. -/
def Quiet (s t : State) : Prop := raisedIf false .fault s t ∧ raisedIf false .locked s t

theorem Quiet.of_prt (h : t.prt = s.prt) : Quiet s t := ⟨raisedIf_of_prt h, raisedIf_of_prt h⟩

theorem Quiet.trans (h : Quiet s t) (h' : Quiet t u) : Quiet s u := ⟨h.1.later h'.1, h.2.later h'.2⟩

theorem Quiet.raise (h : Quiet s t) {e : Event} (hf : e ≠ .fault) (hl : e ≠ .locked) : Quiet s (Machine.raise e t) :=
  ⟨h.1.raise_other hf, h.2.raise_other hl⟩

theorem Event.ofHose_ne (h : Hose) : Event.ofHose h ≠ .fault ∧ Event.ofHose h ≠ .locked := by
  cases h <;> decide

theorem hoseMoves.quiet {h : Hose} (hm : hoseMoves h s t) : Quiet s t := by
  obtain ⟨-, hprt, -⟩ := hm
  have hraise : Quiet s (Machine.raise (Event.ofHose h) s) :=
    (Quiet.of_prt rfl).raise (Event.ofHose_ne h).1 (Event.ofHose_ne h).2
  exact ⟨hraise.1.prt hprt, hraise.2.prt hprt⟩

theorem faultRaised.later {locked : Bool} {before : FaultLevel} (h : faultRaised locked before s t) (hq : Quiet t u) :
    faultRaised locked before s u := ⟨h.1.kept hq.1, h.2.kept hq.2⟩

theorem faultTaken.later {src : Source} {kind : FaultKind} {locked : Bool} {volume : Option Nat} {before : FaultLevel}
    (h : faultTaken src kind locked volume before s t) (hjnl : u.jnl = t.jnl) (hq : Quiet t u) :
    faultTaken src kind locked volume before s u := by
  obtain ⟨hstored, hraised⟩ := h
  refine ⟨?_, hraised.later hq⟩
  unfold faultStored at hstored ⊢
  rwa [hjnl]

/-- It is a fault from any state with the same journal and clock that raised neither event. -/
theorem faultTaken.before {src : Source} {kind : FaultKind} {locked : Bool} {volume : Option Nat} {before : FaultLevel}
    (h : faultTaken src kind locked volume before s t) (hjnl : s.jnl = u.jnl) (hclock : s.itu.clock = u.itu.clock)
    (hq : Quiet u s) : faultTaken src kind locked volume before u t := by
  obtain ⟨hstored, hfault, hlocked⟩ := h
  refine ⟨?_, hq.1.later hfault, hq.2.later hlocked⟩
  unfold faultStored appended at hstored ⊢
  rwa [hjnl, hclock] at hstored

/-! ## By the hose's state -/

/-- The parts that a fault at a hose leaves, but for the end of a dispense. -/
def SameBooks (s t : State) : Prop := t.mtr = s.mtr ∧ t.stk = s.stk ∧ t.bil = s.bil ∧ t.mtb = s.mtb ∧ t.rcp = s.rcp

theorem hoseMoves.books {h : Hose} (hm : hoseMoves h s t) : SameBooks s t ∧ t.jnl = s.jnl ∧ t.hsc.faults = s.hsc.faults := by
  obtain ⟨hrest, -, hhsc, -⟩ := hm
  exact ⟨⟨(congrArg State.mtr hrest :), (congrArg State.stk hrest :), (congrArg State.bil hrest :), (congrArg State.mtb hrest :),
    (congrArg State.rcp hrest :)⟩, (congrArg State.jnl hrest :), by rw [hhsc]⟩

/-- A fault at a hose, with what it makes of the hose's context. -/
structure FaultAt (h : Hose) (kind : FaultKind) (locked : Bool) (volume : Option Nat) (x : HoseCtx) (s t : State) : Prop where
  ctx : hoseCtx t h = x
  other : hoseCtx t (otherHose h) = hoseCtx s (otherHose h)
  faults : t.hsc.faults = s.hsc.faults.set h (if locked then .locked kind else .halted kind)
  taken : faultTaken (hoseSource h) kind locked volume (s.hsc.faults.get h) s t
  books : SameBooks s t

section

variable {h : Hose} (kind : FaultKind) (locked : Bool) (volume : Option Nat)

theorem setHoseFault_at (h : Hose) (s : State) :
    FaultAt h kind locked volume (hoseCtx s h) s (setHoseFault h kind locked volume s) where
  ctx := hoseCtx_of_hoses (by simp) h
  other := hoseCtx_of_hoses (by simp) _
  faults := setHoseFault_faults ..
  taken := setHoseFault_taken ..
  books := by simp [SameBooks]

variable {kind locked volume}

/-- A further move of the hose after its fault. -/
theorem FaultAt.move {x y : HoseCtx} (hf : FaultAt h kind locked volume x s t) (hm : hoseMoves h t u)
    (hctx : hoseCtx u h = y) : FaultAt h kind locked volume y s u := by
  obtain ⟨⟨hmtr, hstk, hbil, hmtb, hrcp⟩, hjnl, hfaults⟩ := hm.books
  obtain ⟨hmtr', hstk', hbil', hmtb', hrcp'⟩ := hf.books
  exact ⟨hctx, hm.other.trans hf.other, hfaults.trans hf.faults, hf.taken.later hjnl hm.quiet, hmtr.trans hmtr',
    hstk.trans hstk', hbil.trans hbil', hmtb.trans hmtb', hrcp.trans hrcp'⟩

/-- A change of the hose's context after its fault. -/
theorem FaultAt.put {x : HoseCtx} (hf : FaultAt h kind locked volume x s t) (y : HoseCtx) :
    FaultAt h kind locked volume y s (putHose h y t.hsc.pumps t) := by
  obtain ⟨-, hother, hfaults, htaken, hbooks⟩ := hf
  have hother' : hoseCtx (putHose h y t.hsc.pumps t) (otherHose h) = hoseCtx t (otherHose h) := by simp [otherHose_ne]
  exact ⟨by simp, hother'.trans hother, hfaults, htaken.later rfl (.of_prt rfl), hbooks⟩

/-- A fault ends a dispense that flows. -/
theorem hoseFault_flowing {d : Dispense} (hdem : inDemand (hoseCtx s h).state = true) (hd : (hoseCtx s h).dispense = some d) :
    FaultAt h kind false volume (endingCtx .fault s.itu.mono { d with faultKind := some kind } (hoseCtx s h)) s
        (hoseFault h kind volume s) ∧
      (hoseFault h kind volume s).hsc.pumps = s.hsc.pumps.set d.comp (leftPump h (s.hsc.pumps.get d.comp)) := by
  have heq : hoseFault h kind volume s = enterEnding .fault h
      (modDispense h (fun d => { d with faultKind := some kind }) (setHoseFault h kind false volume s)) := by
    cases hst : (hoseCtx s h).state <;> simp [hst, inDemand] at hdem <;> simp [hoseFault, hst]
  have hset := setHoseFault_at kind false volume h s
  rw [heq]
  generalize hv : setHoseFault h kind false volume s = v at hset ⊢
  have hpumps : v.hsc.pumps = s.hsc.pumps := by simp [← hv]
  have hmono : v.itu.mono = s.itu.mono := by simp [← hv]
  rw [modDispense_eq_putHose]
  obtain ⟨hmoves, hctx, hleft⟩ := enterEnding_moves (h := h) .fault (s := putHose h { hoseCtx v h with
    dispense := (hoseCtx v h).dispense.map fun d => { d with faultKind := some kind } } v.hsc.pumps v)
    (d := { d with faultKind := some kind }) (by simp [hset.ctx, hd])
  refine ⟨(hset.put _).move hmoves ?_, ?_⟩
  · rw [hctx]
    simp [hset.ctx, endingCtx, hmono]
  · rw [hleft]
    simp [hpumps]

/-- A fault in ENDING makes the outcome FAULT. -/
theorem hoseFault_ending {d : Dispense} (hst : (hoseCtx s h).state = .ending) (hd : (hoseCtx s h).dispense = some d)
    (hno : d.outcome ≠ some .fault) :
    FaultAt h kind false volume
      { hoseCtx s h with
        dispense := some { d with outcome := some .fault, faultKind := some kind, endCause := none } } s
      (hoseFault h kind volume s) := by
  have hset := setHoseFault_at kind false volume h s
  have heq : hoseFault h kind volume s =
      modDispense h (fun d => { d with outcome := some .fault, faultKind := some kind, endCause := none })
        (setHoseFault h kind false volume s) := by
    simp [hoseFault, hst, hd, hno]
  rw [heq, modDispense_eq_putHose, hset.ctx, hd]
  exact hset.put _

/-- A further fault in ENDING locks the hose and closes the dispense. -/
theorem hoseFault_ending_again {d : Dispense} (hst : (hoseCtx s h).state = .ending)
    (hd : (hoseCtx s h).dispense = some d) (ho : d.outcome = some .fault) :
    hoseFault h kind volume s = closeDispense h (setHoseFault h kind true volume s) := by
  simp [hoseFault, hst, hd, ho]

theorem putHose_self (h : Hose) (s : State) : putHose h (hoseCtx s h) s.hsc.pumps s = s := by
  cases h <;> rfl

/-- A fault of a hose that rests. -/
theorem hoseFault_idle (hst : (hoseCtx s h).state = .idle ∨ (hoseCtx s h).state = .armed) :
    FaultAt h kind false volume { idleCtx (hoseCtx s h) with state := .halted } s (hoseFault h kind volume s) := by
  have hset := setHoseFault_at kind false volume h s
  have heq : hoseFault h kind volume s = enterState h .halted
      (modHose h (fun c => { c with timer := none, operator := none, requested := none })
        (setHoseFault h kind false volume s)) := by
    rcases hst with hst | hst <;> simp [hoseFault, hst]
  rw [heq, modHose_eq_putHose]
  exact hset.move (hoseMoves_enterState ..) (by simp [hset.ctx, idleCtx])

theorem hoseFault_halted (hst : (hoseCtx s h).state = .halted ∨ (hoseCtx s h).state = .locked) :
    FaultAt h kind true volume { hoseCtx s h with state := .locked } s (hoseFault h kind volume s) := by
  have hset := setHoseFault_at kind true volume h s
  rcases hst with hst | hst
  · have heq : hoseFault h kind volume s = enterState h .locked (setHoseFault h kind true volume s) := by
      simp [hoseFault, hst]
    have hmoves := hoseMoves_enterState h .locked (hoseCtx (setHoseFault h kind true volume s) h)
      (setHoseFault h kind true volume s).hsc.pumps (setHoseFault h kind true volume s)
    rw [putHose_self] at hmoves
    rw [heq]
    exact hset.move hmoves (by simp [hset.ctx])
  · have heq : hoseFault h kind volume s = setHoseFault h kind true volume s := by simp [hoseFault, hst]
    have hctx : { hoseCtx s h with state := .locked } = hoseCtx s h := by rw [← hst]
    rw [heq, hctx]
    exact hset

end

end Sys2Proof.Machine
end

section
/-! PROOFS. A fault that closes a dispense, and the meters under a pulse (R5, R6, R116). -/

namespace Sys2Proof.Machine

variable {s t u : State}

/-! ## The close of a dispense by a further fault -/

theorem quiet_closeDispense {h : Hose} {d : Dispense} (hd : (hoseCtx s h).dispense = some d) :
    Quiet s (closeDispense h s) := by
  have hevent {e : Event} (hresumed : e ≠ .groupResumed) (hnegative : e ≠ .stockNegative) (hdue : e ≠ .restockDue)
      (hclosed : e ≠ .dispenseClosed) (hchange : e ≠ Event.ofHose h) : raisedIf false e s (closeDispense h s) := by
    rw [closeDispense_atRest hd]
    have hbooks := booked_event h s hresumed ((booked_stock h (d := d) s).events e hnegative hdue)
    exact atRest_event hbooks hclosed hchange
  exact ⟨hevent (by decide) (by decide) (by decide) (by decide) (Event.ofHose_ne h).1.symm,
    hevent (by decide) (by decide) (by decide) (by decide) (Event.ofHose_ne h).2.symm⟩

/-- The journal after the close of a dispense is that of the close of its record. -/
theorem closeDispense_jnl {h : Hose} {d : Dispense} (hd : (hoseCtx s h).dispense = some d) :
    ∃ b ctl, (closeDispense h s).jnl = (closeRecord d.seq (closedBody (closingOf h d s) b ctl) s).jnl := by
  refine ⟨closingBackward (closingOf h d s) (closing h d s),
    ctlAt (closing h d s) (closingOf h d s).comp (closingOf h d s).mean.1, ?_⟩
  rw [closeDispense_atRest hd]
  simp only [atRest_frame, bookDispense_jnl, closeRecord, modJnl, closing_frame]
  rfl

theorem closeDispense_mtr {h : Hose} {d : Dispense} (hd : (hoseCtx s h).dispense = some d) :
    (closeDispense h s).mtr = (modMeter (hoseMeter h) closeMeter s).mtr := by
  rw [closeDispense_atRest hd]
  simp only [atRest_frame, bookDispense_frame, closing_frame]

/-- The record of a dispense that has ended with FAULT keeps its kind in the close. -/
theorem closedBody_fault {h : Hose} {d : Dispense} (ho : d.outcome = some .fault) (b : Bool) (ctl : Nat) (s : State)
    (y : DispenseRecord) : ∃ z : DispenseRecord, closedBody (closingOf h d s) b ctl (.dispense y) = .dispense z ∧
      z.outcome = some .fault ∧ z.faultKind = d.faultKind :=
  ⟨_, rfl, by simp [closingOf, ho], by simp [closingOf, ho]⟩

/-- What a further fault in ENDING leaves. -/
structure FaultCloses (h : Hose) (kind : FaultKind) (volume : Option Nat) (d : Dispense) (s t : State) : Prop where
  ctx : hoseCtx t h = { state := .locked, note := (hoseCtx s h).note }
  other : hoseCtx t (otherHose h) = hoseCtx s (otherHose h)
  faults : t.hsc.faults = s.hsc.faults.set h (.locked kind)
  raised : faultRaised true (s.hsc.faults.get h) s t
  owned : (t.mtr.meters.get (hoseMeter h)).owned = false
  shadow : (t.hsc.shadows.get h).opened = false
  record : freeSlots s.jnl ≠ 0 →
    ∃ r ∈ t.jnl.ring, r.seq = s.jnl.nextSeq ∧ r.body = faultBody (hoseSource h) kind true volume
  closed : ClosedAt d.seq t.jnl
  kept : ∀ r y, r ∈ s.jnl.ring → r.seq = d.seq → r.isOpen = true → r.body = .dispense y →
    ∃ z : DispenseRecord, z.outcome = some .fault ∧ z.faultKind = d.faultKind ∧
      { r with closeTime := some s.itu.clock, body := .dispense z } ∈ t.jnl.ring

/-- A record of the journal stands in it after a fault. -/
theorem mem_of_faultStored {src : Source} {kind : FaultKind} {locked : Bool} {volume : Option Nat} {r : Record}
    (hf : faultStored src kind locked volume s t) (hr : r ∈ s.jnl.ring) : r ∈ t.jnl.ring := by
  obtain ⟨hfree, hfull⟩ := hf
  by_cases hslots : freeSlots s.jnl = 0
  · rw [hfull hslots]
    exact hr
  · rw [hfree hslots]
    exact List.mem_append_left _ hr

/-- The record of a fault stands as it was written after another record has been closed. -/
theorem faultStored.after_closeRecord {src : Source} {kind : FaultKind} {locked : Bool} {volume : Option Nat}
    (hf : faultStored src kind locked volume s t) (hfree : freeSlots s.jnl ≠ 0) (seq : Nat) (f : Body → Body) :
    ∃ r ∈ (closeRecord seq f t).jnl.ring, r.seq = s.jnl.nextSeq ∧ r.body = faultBody src kind locked volume := by
  have hnew := hf.1 hfree
  refine ⟨_, List.mem_map.mpr ⟨_, by rw [hnew]; exact List.mem_append_right _ (List.mem_singleton.mpr rfl), rfl⟩, ?_⟩
  simp [Record.isOpen]

theorem hoseFault_closes {h : Hose} {kind : FaultKind} {volume : Option Nat} {d : Dispense}
    (hst : (hoseCtx s h).state = .ending) (hd : (hoseCtx s h).dispense = some d) (ho : d.outcome = some .fault) :
    FaultCloses h kind volume d s (hoseFault h kind volume s) := by
  rw [hoseFault_ending_again hst hd ho]
  have hset := setHoseFault_at kind true volume h s
  have hclock : (setHoseFault h kind true volume s).itu = s.itu := by simp
  generalize setHoseFault h kind true volume s = v at hset hclock ⊢
  have hdv : (hoseCtx v h).dispense = some d := by rw [hset.ctx, hd]
  obtain ⟨hctx, hother, hshadow, -⟩ := atRest_hose h (restState (v.hsc.faults.get h)) (closingResult h d v)
    (bookDispense (closingOf h d v) (closing h d v))
  rw [← closeDispense_atRest hdv] at hctx hother hshadow
  obtain ⟨b, ctl, hjnl⟩ := closeDispense_jnl hdv
  have hlocked : v.hsc.faults.get h = .locked kind := by simp [hset.faults]
  refine ⟨?_, ?_, ?_, hset.taken.2.later (quiet_closeDispense hdv), ?_, hshadow, fun hfree => ?_, ?_,
    fun r y hr hseq hopen hbody => ?_⟩
  · rw [hctx, hlocked]
    rw [← hset.ctx]
    simp [hoseCtx, restState]
  · rw [hother, ← hset.other]
    simp [hoseCtx]
  · simpa using hset.faults
  · rw [closeDispense_mtr hdv]
    simp [modMeter, closeMeter]
  · rw [hjnl]
    exact hset.taken.1.after_closeRecord hfree _ _
  · rw [hjnl]
    exact closedAt_closeRecord _ _ _
  · obtain ⟨z, hz, houtcome, hkind⟩ := closedBody_fault (h := h) ho b ctl v y
    refine ⟨z, houtcome, hkind, ?_⟩
    rw [hjnl]
    refine List.mem_map.mpr ⟨r, mem_of_faultStored hset.taken.1 hr, ?_⟩
    rw [if_pos (by simp [hseq, hopen]), hbody, hz, hclock]

/-! ## The counts of the meters -/

/-- A meter's counts and agreement are as they were, and the other meters. -/
structure CountsStay (m : MeterId) (a b : Mtr) : Prop where
  counts : (b.meters.get m).counts = (a.meters.get m).counts
  disagreed : (b.meters.get m).disagreed = (a.meters.get m).disagreed
  others : ∀ n, n ≠ m → b.meters.get n = a.meters.get n

theorem CountsStay.refl (m : MeterId) (a : Mtr) : CountsStay m a a := ⟨rfl, rfl, fun _ _ => rfl⟩

theorem CountsStay.of_eq {m : MeterId} {a b : Mtr} (h : b = a) : CountsStay m a b := h ▸ .refl m b

theorem CountsStay.trans {m : MeterId} {a b c : Mtr} (h : CountsStay m a b) (h' : CountsStay m b c) : CountsStay m a c :=
  ⟨h'.counts.trans h.counts, h'.disagreed.trans h.disagreed, fun n hn => (h'.others n hn).trans (h.others n hn)⟩

theorem countsStay_modMeter {m : MeterId} {f : MeterState → MeterState} (hcounts : ∀ x, (f x).counts = x.counts)
    (hdisagreed : ∀ x, (f x).disagreed = x.disagreed) (s : State) : CountsStay m s.mtr (modMeter m f s).mtr :=
  ⟨by simp [modMeter, hcounts], by simp [modMeter, hdisagreed], fun n hn => by simp [modMeter, hn]⟩

theorem countsStay_closeMeter (m : MeterId) (s : State) : CountsStay m s.mtr (modMeter m closeMeter s).mtr :=
  countsStay_modMeter (f := closeMeter) (fun _ => rfl) (fun _ => rfl) s

theorem countsStay_closeDispense (h : Hose) (s : State) : CountsStay (hoseMeter h) s.mtr (closeDispense h s).mtr := by
  cases hd : (hoseCtx s h).dispense with
  | none => exact .of_eq (by simp [closeDispense, hd])
  | some d =>
    rw [closeDispense_mtr hd]
    exact countsStay_closeMeter _ s

theorem countsStay_hoseFault (h : Hose) (kind : FaultKind) (volume : Option Nat) (s : State) :
    CountsStay (hoseMeter h) s.mtr (hoseFault h kind volume s).mtr := by
  unfold hoseFault
  split
  case h_6 =>
    split
    · have hclose := countsStay_closeDispense h (setHoseFault h kind true volume s)
      simpa using hclose
    · exact .of_eq (by simp)
  all_goals exact .of_eq (by simp)

theorem countsStay_overrunTest (h : Hose) (s : State) : CountsStay (hoseMeter h) s.mtr (overrunTest h s).mtr := by
  unfold overrunTest
  split
  · split
    · exact countsStay_hoseFault h .overrun none (modDispense h _ s)
    · exact .refl _ _
  · exact .refl _ _

/-- The state that a count report's tests see: the dispense has taken the count in. -/
def countTaken (h : Hose) (pulses gross : Nat) (s : State) : State :=
  shadowHundred h pulses (modDispense h (takeCount (currentTemp s (hoseMeter h)) pulses gross) s)

theorem countTaken_hoseCtx (h : Hose) (pulses gross : Nat) (s : State) :
    hoseCtx (countTaken h pulses gross s) h = { hoseCtx s h with
      dispense := (hoseCtx s h).dispense.map (takeCount (currentTemp s (hoseMeter h)) pulses gross) } := by
  have hhoses : (countTaken h pulses gross s).hsc.hoses =
      (modDispense h (takeCount (currentTemp s (hoseMeter h)) pulses gross) s).hsc.hoses := by simp [countTaken]
  rw [hoseCtx_of_hoses hhoses, modDispense_eq_putHose]
  simp

/-- What a count report does, by the hose's state (R100, R101, R104, R108, R115). -/
def countTests (h : Hose) (st : HoseState) (noFlow : Nat) (s : State) : State :=
  match st with
  | .ready => slowTest h (presetTest h (overrunTest h (enterState h .flowing (startTimer h noFlow s))))
  | .flowing | .slowing => slowTest h (presetTest h (overrunTest h (startTimer h noFlow s)))
  | .paused => presetTest h (overrunTest h s)
  | .ending => overrunTest h s
  | _ => s

theorem hoseCount_eq (h : Hose) (pulses gross : Nat) (s : State) :
    hoseCount h pulses gross s =
      countTests h (hoseCtx s h).state ((s.hsc.params.get h).noFlow * 1000) (countTaken h pulses gross s) := by
  have hstate : (hoseCtx s h).state = (hoseCtx (countTaken h pulses gross s) h).state := by
    rw [countTaken_hoseCtx]
  have hparams : s.hsc.params = (countTaken h pulses gross s).hsc.params := by simp [countTaken]
  rw [hstate, hparams]
  rfl

theorem countsStay_hoseCount (h : Hose) (pulses gross : Nat) (s : State) :
    CountsStay (hoseMeter h) s.mtr (hoseCount h pulses gross s).mtr := by
  rw [hoseCount_eq]
  have hmtr : (countTaken h pulses gross s).mtr = s.mtr := by simp [countTaken]
  rw [← hmtr]
  unfold countTests
  split
  · simp only [slowTest_frame, presetTest_frame]
    exact CountsStay.trans (.of_eq (by simp)) (countsStay_overrunTest h _)
  · simp only [slowTest_frame, presetTest_frame]
    exact CountsStay.trans (.of_eq (by simp)) (countsStay_overrunTest h _)
  · simp only [slowTest_frame, presetTest_frame]
    exact CountsStay.trans (.of_eq (by simp)) (countsStay_overrunTest h _)
  · simp only [presetTest_frame]
    exact countsStay_overrunTest h _
  · exact countsStay_overrunTest h _
  · exact .refl _ _

theorem countsStay_closeReceiptNow (o : ReceiptOutcome) (s : State) : CountsStay .mi s.mtr (closeReceiptNow o s).mtr := by
  unfold closeReceiptNow
  split
  · exact .refl _ _
  · dsimp only
    simp only [reloadIdle_frame, raise_frame, modReceipt_frame, bookReceipt_frame]
    split
    · exact countsStay_closeMeter .mi s
    · exact .refl _ _

theorem countsStay_inletFault (kind : FaultKind) (volume : Option Nat) (s : State) :
    CountsStay .mi s.mtr (inletFault kind volume s).mtr := by
  unfold inletFault
  split
  case h_3 =>
    split
    · have hclose (o : ReceiptOutcome) := countsStay_closeReceiptNow o (setInletFault kind true volume s)
      simpa [closeSettled] using hclose _
    · exact .of_eq (by simp)
  all_goals exact .of_eq (by simp)

theorem countsStay_sendCount (m : MeterId) (pulses gross : Nat) (s : State) :
    CountsStay m s.mtr (sendCount m pulses gross s).mtr := by
  cases m with
  | m1 => exact countsStay_hoseCount .h1 pulses gross s
  | m2 => exact countsStay_hoseCount .h2 pulses gross s
  | mi => exact .of_eq (by simp [sendCount])

theorem countsStay_sendChannel (m : MeterId) (s : State) : CountsStay m s.mtr (sendChannel m s).mtr := by
  have hhose (h : Hose) : CountsStay (hoseMeter h) s.mtr (hoseChannel h s).mtr := by
    unfold hoseChannel
    split
    · exact countsStay_hoseFault h .channel none s
    · exact .refl _ _
  cases m with
  | m1 => exact hhose .h1
  | m2 => exact hhose .h2
  | mi =>
    simp only [sendChannel, inletChannel]
    split
    case h_4 => exact .refl _ _
    all_goals exact countsStay_inletFault .channel none s

end Sys2Proof.Machine
end

section
/-! PROOFS. Leaks of an unowned meter (R18, R19, R116, R117, R133, R148). -/

namespace Sys2Proof.Machine

variable {s t u : State}

/-! ## The fault of a leak -/

/-- Whether a hose is HALTED or LOCKED. -/
def haltedBefore (s : State) (h : Hose) : Bool := (hoseCtx s h).state == .halted || (hoseCtx s h).state == .locked

/-- What a leak makes of the context of its hose. -/
def leakCtx (s : State) (h : Hose) : HoseCtx :=
  if haltedBefore s h then { hoseCtx s h with state := .locked } else { idleCtx (hoseCtx s h) with state := .halted }

/-- A leak is a fault of a hose that rests. -/
theorem hoseLeak_at {h : Hose} (volume : Nat) (hrest : hasDispense (hoseCtx s h).state = false) :
    FaultAt h .leak (haltedBefore s h) (some volume) (leakCtx s h) s (hoseLeak h volume s) := by
  rw [hoseLeak, hrest, if_neg (by decide), leakCtx]
  cases hst : (hoseCtx s h).state with
  | idle | armed =>
    have hbefore : haltedBefore s h = false := by simp [haltedBefore, hst]
    rw [hbefore]
    exact hoseFault_idle (by simp [hst])
  | halted | locked =>
    have hbefore : haltedBefore s h = true := by simp [haltedBefore, hst]
    rw [hbefore]
    exact hoseFault_halted (by simp [hst])
  | priming | ready | flowing | slowing | paused | ending => simp [hst, hasDispense, inDemand] at hrest

/-- Where no receipt flows or settles a leak is the inlet's fault, and its level alone. -/
theorem inletLeak_eq (volume : Nat) (hrest : s.rcp.receipt.state = .idle ∨ s.rcp.receipt.state = .docketed) :
    inletLeak volume s = setInletFault .leak (s.rcp.fault != .clear) (some volume) s := by
  have hcode : (s.rcp.fault.code != 0) = (s.rcp.fault != .clear) := by cases s.rcp.fault <;> rfl
  rcases hrest with hrest | hrest <;> simp [inletLeak, inletFault, hrest, hcode]

/-! ## The leak report -/

/-- What a LEAK report has done before the fault: totals and book are taken, and the part is awake. -/
structure LeakTaken (m : MeterId) (c : Comp) (pulses gross : Nat) (losses : Int) (s v : State) : Prop where
  standby : v.itu.standby = false
  meters : v.mtr.meters = s.mtr.meters.set m
    { totalise pulses gross (s.mtr.meters.get m) with leaks := {} }
  book : (compartment v c).book = { (compartment s c).book with losses := clampBook losses }
  jnl : v.jnl = s.jnl
  clock : v.itu.clock = s.itu.clock
  hsc : v.hsc = s.hsc
  rcp : v.rcp = s.rcp
  quiet : Quiet s v

theorem quiet_stockLeak (c : Comp) (delta : Int) (s : State) : Quiet s (stockLeak c delta s) :=
  ⟨(raisedIf_of_prt (t := modComp c _ s) rfl).raiseIf_other (by decide),
    (raisedIf_of_prt (t := modComp c _ s) rfl).raiseIf_other (by decide)⟩

theorem stockLeak_book (c : Comp) (delta : Int) (s : State) : (compartment (stockLeak c delta s) c).book =
    { (compartment s c).book with losses := clampBook ((compartment s c).book.losses + delta) } := by
  simp [stockLeak, compartment, modComp]

theorem leakTaken (m : MeterId) (c : Comp) (pulses gross : Nat) (delta : Int) (s : State) :
    LeakTaken m c pulses gross ((compartment s c).book.losses + delta) s
      (stockLeak c delta (wake (modMeter m (fun x => { totalise pulses gross x with leaks := {} }) s))) := by
  generalize hv : modMeter m (fun x => { totalise pulses gross x with leaks := {} }) s = v
  have hcomp : compartment (wake v) c = compartment s c := by simp [← hv, compartment]
  have hquiet : Quiet s (wake v) := .of_prt (by simp [← hv])
  refine ⟨?_, ?_, ?_, ?_, ?_, ?_, ?_, hquiet.trans (quiet_stockLeak c delta _)⟩
  · have hitu : (stockLeak c delta (wake v)).itu = (wake v).itu := by simp [stockLeak]
    rw [hitu]
    exact wake_standby v
  · have hmtr : (stockLeak c delta (wake v)).mtr = v.mtr := by simp [stockLeak]
    rw [hmtr, ← hv]
    rfl
  · rw [stockLeak_book, hcomp]
  all_goals simp [stockLeak, ← hv]

/-- The meter whose leak counts have taken an arrival. -/
def leaked (m : MeterId) (ch : Channel) (other : Bool) (s : State) : State :=
  modMeter m (fun x => { x with leaks := countPulse ch other x.leaks }) s

/-- The gross volume of a leak. -/
def leakGross (x : MeterState) (pulses : Nat) : Nat := pulses * x.params.meterFactor / (x.params.kFactor * 1000)

/-- Its standard volume. -/
def leakStandard (s : State) (m : MeterId) (pulses : Nat) : Nat :=
  standardOf (leakGross (s.mtr.meters.get m) pulses) (ctlAt s (meterComp s m) (currentTemp s m).1)

theorem meterComp_leaked (n m : MeterId) (ch : Channel) (other : Bool) (s : State) :
    meterComp (leaked m ch other s) n = meterComp s n := by
  have howned : ((leaked m ch other s).mtr.meters.get .mi).owned = (s.mtr.meters.get .mi).owned := by
    cases m <;> rfl
  have hinlet : (leaked m ch other s).mtr.inletComp = s.mtr.inletComp := by simp [leaked]
  have hreceipt : (leaked m ch other s).rcp = s.rcp := by simp [leaked]
  cases n with
  | m1 | m2 => rfl
  | mi => simp only [meterComp, howned, hreceipt, hinlet]

theorem currentTemp_leaked (n m : MeterId) (ch : Channel) (other : Bool) (s : State) :
    currentTemp (leaked m ch other s) n = currentTemp s n := by
  simp only [currentTemp, meterComp_leaked]
  rfl

section

variable {m : MeterId} {ch : Channel} {other : Bool}

/-- A leak beyond the threshold is sent with the fault's source. -/
theorem unownedPulse_sent (habove : (s.mtr.meters.get m).params.leakThreshold <
      leakCounter (countPulse ch other (s.mtr.meters.get m).leaks)) :
    let pulses := leakCounter (countPulse ch other (s.mtr.meters.get m).leaks)
    unownedPulse m ch other s = sendLeak m (meterComp s m) (leakStandard s m pulses)
      (wake (modMeter m (fun x => { totalise pulses (leakGross (s.mtr.meters.get m) pulses) x with leaks := {} }) s)) := by
  intro pulses
  have hx : (leaked m ch other s).mtr.meters.get m =
      { s.mtr.meters.get m with leaks := countPulse ch other (s.mtr.meters.get m).leaks } := by
    simp [leaked, modMeter]
  have hctl (t : Int) : ctlAt (leaked m ch other s) (meterComp s m) t = ctlAt s (meterComp s m) t := rfl
  have hunowned : unownedPulse m ch other s = reportLeak m (leaked m ch other s) := by
    rw [unownedPulse]
    exact if_pos (by rw [← leaked, hx]; exact habove)
  have hmeters : modMeter m
        (fun x => { totalise (leakCounter x.leaks) (leakGross (s.mtr.meters.get m) pulses) x with leaks := {} })
        (leaked m ch other s) =
      modMeter m (fun x => { totalise pulses (leakGross (s.mtr.meters.get m) pulses) x with leaks := {} }) s := by
    cases m <;> rfl
  have hgross : grossOf (s.mtr.meters.get m).params.kFactor (s.mtr.meters.get m).params.meterFactor pulses =
      leakGross (s.mtr.meters.get m) pulses := rfl
  rw [hunowned, reportLeak]
  simp only [meterComp_leaked, currentTemp_leaked, hx, hctl]
  change sendLeak m _ (standardOf (grossOf _ _ pulses) _) (wake (modMeter m (fun x =>
    { totalise (leakCounter x.leaks) (grossOf _ _ pulses) x with leaks := {} }) _)) = _
  rw [hgross, hmeters]
  rfl

end

end Sys2Proof.Machine
end

section
/-! PROOFS. A pulse arrival is counted as it is classified, and what leaks and channel disagreements report (R4 to R6, R18
to R20, R113 to R117, R133, R148). -/

namespace Sys2Proof.Machine

variable {s t u v : State}

/-! ## Leaks -/

/-- What a leak of a hose's meter leaves. -/
structure HoseLeaks (h : Hose) (c : Comp) (pulses gross standard : Nat) (s t : State) : Prop where
  standby : t.itu.standby = false
  meters : t.mtr.meters = s.mtr.meters.set (hoseMeter h)
    { totalise pulses gross (s.mtr.meters.get (hoseMeter h)) with leaks := {} }
  book : (compartment t c).book =
    { (compartment s c).book with losses := clampBook ((compartment s c).book.losses + standard) }
  level : t.hsc.faults.get h = if haltedBefore s h then .locked .leak else .halted .leak
  taken : faultTaken (hoseSource h) .leak (haltedBefore s h) (some standard) (s.hsc.faults.get h) s t
  receipt : t.rcp.receipt = s.rcp.receipt
  other : hoseCtx t (otherHose h) = hoseCtx s (otherHose h)
  ctx : hoseCtx t h = leakCtx s h

theorem hoseLeak_leaks {h : Hose} {c : Comp} {pulses gross standard : Nat}
    (hv : LeakTaken (hoseMeter h) c pulses gross ((compartment s c).book.losses + standard) s v)
    (hrest : hasDispense (hoseCtx s h).state = false) : HoseLeaks h c pulses gross standard s (hoseLeak h standard v) := by
  have hctx (g : Hose) : hoseCtx v g = hoseCtx s g := by rw [hoseCtx, hv.hsc]; rfl
  have hbefore : haltedBefore v h = haltedBefore s h := by rw [haltedBefore, hctx]; rfl
  have hleak : leakCtx v h = leakCtx s h := by rw [leakCtx, hbefore, hctx]; rfl
  have hf := hoseLeak_at (s := v) (h := h) standard (by rw [hctx]; exact hrest)
  have hitu : (hoseLeak h standard v).itu = v.itu := by
    unfold hoseLeak
    split <;> simp
  rw [hbefore, hleak] at hf
  obtain ⟨hx, hother, hfaults, htaken, hmtr, hstk, -, -, hrcp⟩ := hf
  refine ⟨by rw [hitu]; exact hv.standby, by rw [hmtr]; exact hv.meters, ?_, ?_, ?_, by rw [hrcp, hv.rcp], ?_, hx⟩
  · rw [compartment, hstk]
    exact hv.book
  · rw [hfaults]
    simp
  · rw [hv.hsc] at htaken
    exact htaken.before hv.jnl hv.clock hv.quiet
  · rw [hother, hctx]

/-- What a leak of the inlet's meter leaves. -/
structure InletLeaks (c : Comp) (pulses gross standard : Nat) (s t : State) : Prop where
  standby : t.itu.standby = false
  meters : t.mtr.meters = s.mtr.meters.set .mi { totalise pulses gross (s.mtr.meters.get .mi) with leaks := {} }
  book : (compartment t c).book =
    { (compartment s c).book with losses := clampBook ((compartment s c).book.losses - standard) }
  level : t.rcp.fault = if s.rcp.fault != .clear then .locked .leak else .halted .leak
  taken : faultTaken .inlet .leak (s.rcp.fault != .clear) (some standard) s.rcp.fault s t
  receipt : t.rcp.receipt = s.rcp.receipt
  hoses : ∀ h, hoseCtx t h = hoseCtx s h

theorem inletLeak_leaks {c : Comp} {pulses gross standard : Nat}
    (hv : LeakTaken .mi c pulses gross ((compartment s c).book.losses + -(standard : Int)) s v)
    (hrest : s.rcp.receipt.state = .idle ∨ s.rcp.receipt.state = .docketed) :
    InletLeaks c pulses gross standard s (inletLeak standard v) := by
  have htaken := setInletFault_taken .leak (s.rcp.fault != .clear) (some standard) v
  have hlevel := setInletFault_level .leak (s.rcp.fault != .clear) (some standard) v
  rw [inletLeak_eq standard (by rw [hv.rcp]; exact hrest), hv.rcp]
  rw [hv.rcp] at htaken
  refine ⟨by simpa using hv.standby, by simpa using hv.meters, ?_, ?_, htaken.before hv.jnl hv.clock hv.quiet,
    by simp [hv.rcp], fun h => by simp [hoseCtx, hv.hsc]⟩
  · rw [Int.sub_eq_add_neg, ← hv.book]
    simp [compartment]
  · exact hlevel

/-! ## The arrivals -/

/-- The meter whose counts have taken an arrival. -/
def arrived (m : MeterId) (ch : Channel) (other : Bool) (s : State) : State :=
  modMeter m (fun x => { x with counts := countPulse ch other x.counts }) s

/-- Its agreement has ended (R6). -/
def disagreeing (m : MeterId) (s : State) : State := modMeter m (fun x => { x with disagreed := true }) s

section

variable (m : MeterId) (ch : Channel) (other : Bool) (s : State)

theorem arrived_meter : (arrived m ch other s).mtr.meters.get m =
    { s.mtr.meters.get m with counts := countPulse ch other (s.mtr.meters.get m).counts } := by
  simp [arrived, modMeter]

theorem ownedPulse_eq {x : MeterState}
    (hx : x = { s.mtr.meters.get m with counts := countPulse ch other (s.mtr.meters.get m).counts }) :
    ownedPulse m ch other s =
      let v := if disagrees x then disagreeing m (arrived m ch other s) else arrived m ch other s
      let w :=
        if countedPulses x.counts = countedPulses (s.mtr.meters.get m).counts then v
        else sendCount m (countedPulses x.counts) (runningGross x) v
      if disagrees x then sendChannel m w else w := by
  rw [hx, ← arrived_meter m ch other s]
  rfl

theorem disagrees_eq_false_iff (x : MeterState) :
    disagrees x = false ↔ x.disagreed = true ∨ ∀ k ∈ x.captured, netDifference x.counts ≤ k.window := by
  cases hk : x.captured <;> cases hd : x.disagreed <;> simp [disagrees, hk, hd]

end

section

variable {m : MeterId} {ch : Channel} {other : Bool} (hfail : powerFail s = false)

theorem exec_pulseArrival_failing (hfail : powerFail s = true) : exec (.pulseArrival m ch other) s = .next s := by
  simp [exec, execPulseArrival, pulse, hfail]

include hfail

theorem exec_pulseArrival_owned (howned : (s.mtr.meters.get m).owned = true) :
    exec (.pulseArrival m ch other) s = .next (ownedPulse m ch other s) := by
  simp [exec, execPulseArrival, pulse, hfail, howned]

theorem exec_pulseArrival_unowned (howned : (s.mtr.meters.get m).owned = false) :
    exec (.pulseArrival m ch other) s = .next (unownedPulse m ch other s) := by
  simp [exec, execPulseArrival, pulse, hfail, howned]

end

/-- Where the counts stay, a CHANNEL report is all that an arrival sends. -/
theorem ownedPulse_channel {m : MeterId} {ch : Channel} {other : Bool} {k : Captured}
    (hcounts : countedPulses (countPulse ch other (s.mtr.meters.get m).counts) = countedPulses (s.mtr.meters.get m).counts)
    (hagreed : (s.mtr.meters.get m).disagreed = false) (hk : (s.mtr.meters.get m).captured = some k)
    (hwindow : k.window < netDifference (countPulse ch other (s.mtr.meters.get m).counts)) :
    ownedPulse m ch other s = sendChannel m (disagreeing m (arrived m ch other s)) := by
  rw [ownedPulse_eq m ch other s rfl]
  simp [disagrees, hk, hagreed, hwindow, hcounts]

/-- Where the meter stays as it agrees, a count report is all that it sends. -/
theorem ownedPulse_agreeing {m : MeterId} {ch : Channel} {other : Bool}
    (hagrees : (s.mtr.meters.get m).disagreed = true ∨
      ∀ k ∈ (s.mtr.meters.get m).captured, netDifference (countPulse ch other (s.mtr.meters.get m).counts) ≤ k.window) :
    ownedPulse m ch other s =
      if countedPulses (countPulse ch other (s.mtr.meters.get m).counts) = countedPulses (s.mtr.meters.get m).counts then
        arrived m ch other s
      else
        sendCount m (countedPulses (countPulse ch other (s.mtr.meters.get m).counts))
          (runningGross { s.mtr.meters.get m with counts := countPulse ch other (s.mtr.meters.get m).counts })
          (arrived m ch other s) := by
  rw [ownedPulse_eq m ch other s rfl]
  have hdis := (disagrees_eq_false_iff
    { s.mtr.meters.get m with counts := countPulse ch other (s.mtr.meters.get m).counts }).mpr hagrees
  simp [hdis]

/-- An arrival is counted, and a meter beyond its window no longer agrees. -/
theorem ownedPulse_counted (m : MeterId) (ch : Channel) (other : Bool) (s : State) :
    ((ownedPulse m ch other s).mtr.meters.get m).counts = countPulse ch other (s.mtr.meters.get m).counts ∧
      (∀ n, n ≠ m → (ownedPulse m ch other s).mtr.meters.get n = s.mtr.meters.get n) ∧
      ∀ k ∈ (s.mtr.meters.get m).captured, k.window < netDifference (countPulse ch other (s.mtr.meters.get m).counts) →
        ((ownedPulse m ch other s).mtr.meters.get m).disagreed = true := by
  rw [ownedPulse_eq m ch other s rfl]
  generalize hx : { s.mtr.meters.get m with counts := countPulse ch other (s.mtr.meters.get m).counts } = x
  have hcounts : x.counts = countPulse ch other (s.mtr.meters.get m).counts := by rw [← hx]
  generalize hv : (if disagrees x then disagreeing m (arrived m ch other s) else arrived m ch other s) = v
  have hmeter : v.mtr.meters.get m = { x with disagreed := x.disagreed || disagrees x } := by
    rw [← hv]
    cases disagrees x <;> simp [disagreeing, arrived, modMeter, hx]
  have hothers (n : MeterId) (hn : n ≠ m) : v.mtr.meters.get n = s.mtr.meters.get n := by
    rw [← hv]
    cases disagrees x <;> simp [disagreeing, arrived, modMeter, hn]
  dsimp only
  generalize hw : (if countedPulses x.counts = countedPulses (s.mtr.meters.get m).counts then v
    else sendCount m (countedPulses x.counts) (runningGross x) v) = w
  have hvw : CountsStay m v.mtr w.mtr := by
    rw [← hw]
    split
    · exact .refl _ _
    · exact countsStay_sendCount m _ _ v
  have hstay : CountsStay m v.mtr (if disagrees x then sendChannel m w else w).mtr := by
    split
    · exact hvw.trans (countsStay_sendChannel m w)
    · exact hvw
  refine ⟨?_, fun n hn => (hstay.others n hn).trans (hothers n hn), fun k hk hwindow => ?_⟩
  · rw [hstay.counts, hmeter, hcounts]
  · rw [hstay.disagreed, hmeter]
    have hcaptured : x.captured = some k := by rw [← hx]; exact hk
    cases hd : x.disagreed <;> simp [disagrees, hcaptured, hd, hcounts, hwindow]

end Sys2Proof.Machine
end

section
/-! PROOFS. The channel faults of a meter's owner, and the arrivals as a whole (R6, R114 to R116, R148). -/

namespace Sys2Proof.Machine

variable {s t u v : State}

/-! ## A further fault of a settling receipt (R148) -/

/-- What a further fault leaves of a settling receipt. -/
structure InletCloses (kind : FaultKind) (volume : Option Nat) (e : Docket) (s t : State) : Prop where
  receipt : t.rcp.receipt = {}
  fault : t.rcp.fault = .locked kind
  shadow : t.rcp.shadow.opened = false
  raised : faultRaised true s.rcp.fault s t
  owned : t.mtr.meters.mi.owned = false
  op : (compartment t e.comp).op = .free
  record : freeSlots s.jnl ≠ 0 → ∃ y ∈ t.jnl.ring, y.seq = s.jnl.nextSeq ∧ y.body = faultBody .inlet kind true volume
  closed : ClosedAt e.seq t.jnl
  hsc : t.hsc = s.hsc

theorem Quiet.prt (h : Quiet s t) (hprt : u.prt = t.prt) : Quiet s u := ⟨h.1.prt hprt, h.2.prt hprt⟩

theorem Quiet.raiseIf (h : Quiet s t) (b : Bool) {e : Event} (hf : e ≠ .fault) (hl : e ≠ .locked) :
    Quiet s (Machine.raiseIf b e t) := ⟨h.1.raiseIf_other hf, h.2.raiseIf_other hl⟩

theorem quiet_bookReceipt (seq : Nat) (c : Comp) (expected : Nat) (gross : Option Nat) (mean : Int) (level : Option Nat)
    (o : ReceiptOutcome) (s : State) : Quiet s (bookReceipt seq c expected gross mean level o s) := by
  unfold bookReceipt
  dsimp only
  refine Quiet.raiseIf (Quiet.raise (.of_prt ?_) (by decide) (by decide)) _ (by decide) (by decide)
  simp [stockReceipt]

theorem quiet_closeReceiptNow (o : ReceiptOutcome) {d : Docket} (hd : s.rcp.receipt.docket = some d)
    (hx : s.rcp.receipt.started.isSome = true) : Quiet s (closeReceiptNow o s) := by
  rw [closeReceiptNow_started o hd hx]
  have hbook := quiet_bookReceipt d.seq d.comp d.expected (some (runningGross s.mtr.meters.mi))
    (meanTemp s .mi s.rcp.receipt.sampling.sum s.rcp.receipt.sampling.n).1 (endLevel s d.comp) o (modMeter .mi closeMeter s)
  generalize bookReceipt d.seq d.comp d.expected (some (runningGross s.mtr.meters.mi)) _ _ o _ = w at hbook ⊢
  have hw : Quiet s w := (Quiet.of_prt (t := modMeter .mi closeMeter s) (by simp)).trans hbook
  have hchange : Quiet s (raise .receiptChange (modReceipt (fun _ => {}) w)) :=
    (hw.prt (by simp)).raise (by decide) (by decide)
  exact hchange.prt (by simp)

theorem closeRecord_of_receipt_jnl (seq : Nat) (f : Body → Body) (c : Comp) (standard : Nat) (s : State) :
    (closeRecord seq f (stockReceipt c standard (modMeter .mi closeMeter s))).jnl = (closeRecord seq f s).jnl := rfl

theorem closeReceiptNow_jnl (o : ReceiptOutcome) {d : Docket} (hd : s.rcp.receipt.docket = some d)
    (hx : s.rcp.receipt.started.isSome = true) : ∃ f, (closeReceiptNow o s).jnl = (closeRecord d.seq f s).jnl := by
  rw [closeReceiptNow_started o hd hx]
  refine ⟨?body, ?jnl⟩
  case jnl =>
    simp only [reloadIdle_frame, raise_frame, modReceipt_frame, bookReceipt, raiseIf_jnl, modRcp_frame]
    exact closeRecord_of_receipt_jnl _ _ _ _ s

theorem inletFault_closes {kind : FaultKind} {volume : Option Nat} {e : Docket} (hst : s.rcp.receipt.state = .settling)
    (ho : s.rcp.receipt.outcome = some .fault) (hd : s.rcp.receipt.docket = some e)
    (hx : s.rcp.receipt.started.isSome = true) : InletCloses kind volume e s (inletFault kind volume s) := by
  have heq : inletFault kind volume s = closeReceiptNow .fault (setInletFault kind true volume s) := by
    simp [inletFault, hst, ho, closeSettled]
  have htaken := setInletFault_taken kind true volume s
  have hlevel := setInletFault_level kind true volume s
  have hreceipt : (setInletFault kind true volume s).rcp.receipt = s.rcp.receipt := by simp
  have hhsc : (setInletFault kind true volume s).hsc = s.hsc := by simp
  rw [heq]
  generalize setInletFault kind true volume s = v at htaken hlevel hreceipt hhsc ⊢
  have hd' : v.rcp.receipt.docket = some e := by rw [hreceipt, hd]
  have hx' : v.rcp.receipt.started.isSome = true := by rw [hreceipt, hx]
  obtain ⟨hempty, hfault, hshadow, hmeters, hop, -, hclosed, -, -⟩ := closeReceiptNow_closed .fault hd' hx'
  refine ⟨hempty, hfault.trans hlevel, hshadow, htaken.2.later (quiet_closeReceiptNow .fault hd' hx'), ?_, hop,
    fun hfree => ?_, hclosed, by simp [hhsc]⟩
  · rw [hmeters]
    rfl
  · obtain ⟨f, hjnl⟩ := closeReceiptNow_jnl .fault hd' hx'
    rw [hjnl]
    exact htaken.1.after_closeRecord hfree _ _

/-! ## The clauses -/

theorem unownedPulse_below {m : MeterId} {ch : Channel} {other : Bool}
    (hbelow : leakCounter (countPulse ch other (s.mtr.meters.get m).leaks) ≤ (s.mtr.meters.get m).params.leakThreshold) :
    unownedPulse m ch other s = leaked m ch other s := by
  have hmeter : (leaked m ch other s).mtr.meters.get m =
      { s.mtr.meters.get m with leaks := countPulse ch other (s.mtr.meters.get m).leaks } := by
    simp [leaked, modMeter]
  rw [unownedPulse]
  exact if_neg (by rw [← leaked, hmeter]; exact not_lt.mpr hbelow)

section Leak

variable {ch : Channel} {other : Bool} (howners : ownersOk s = true)
include howners

theorem leak_hose {h : Hose} (howned : (s.mtr.meters.get (hoseMeter h)).owned = false)
    (habove : (s.mtr.meters.get (hoseMeter h)).params.leakThreshold <
      leakCounter (countPulse ch other (s.mtr.meters.get (hoseMeter h)).leaks)) :
    let pulses := leakCounter (countPulse ch other (s.mtr.meters.get (hoseMeter h)).leaks)
    HoseLeaks h (meterComp s (hoseMeter h)) pulses (leakGross (s.mtr.meters.get (hoseMeter h)) pulses)
      (leakStandard s (hoseMeter h) pulses) s (unownedPulse (hoseMeter h) ch other s) := by
  intro pulses
  have hrest : hasDispense (hoseCtx s h).state = false := (((ownersOk_iff s).mp howners).owned h).symm.trans howned
  have hsend (c : Comp) (standard : Nat) (v : State) :
      sendLeak (hoseMeter h) c standard v = hoseLeak h standard (stockLeak c standard v) := by cases h <;> rfl
  rw [unownedPulse_sent habove, hsend]
  exact hoseLeak_leaks (leakTaken (hoseMeter h) _ _ _ _ s) hrest

theorem leak_inlet (howned : (s.mtr.meters.get .mi).owned = false)
    (habove : (s.mtr.meters.get .mi).params.leakThreshold <
      leakCounter (countPulse ch other (s.mtr.meters.get .mi).leaks)) :
    let pulses := leakCounter (countPulse ch other (s.mtr.meters.get .mi).leaks)
    InletLeaks (meterComp s .mi) pulses (leakGross (s.mtr.meters.get .mi) pulses) (leakStandard s .mi pulses) s
      (unownedPulse .mi ch other s) := by
  intro pulses
  have hflows : Holdings.flows s.rcp.receipt.state = false := ((ownersOk_iff s).mp howners).inlet.symm.trans howned
  have hrest : s.rcp.receipt.state = .idle ∨ s.rcp.receipt.state = .docketed := by
    cases hst : s.rcp.receipt.state <;> simp [hst, Holdings.flows, receiptRuns] at hflows ⊢
  rw [unownedPulse_sent habove]
  exact inletLeak_leaks (leakTaken .mi _ _ _ _ s) hrest

end Leak

/-- The meter of an arrival that ends its agreement; nothing else has changed. -/
def channelled (m : MeterId) (ch : Channel) (other : Bool) (s : State) : State := disagreeing m (arrived m ch other s)

theorem channelled_frame (m : MeterId) (ch : Channel) (other : Bool) (s : State) :
    (channelled m ch other s).hsc = s.hsc ∧ (channelled m ch other s).rcp = s.rcp ∧
      (channelled m ch other s).jnl = s.jnl ∧ (channelled m ch other s).itu = s.itu ∧
      (channelled m ch other s).prt = s.prt := ⟨rfl, rfl, rfl, rfl, rfl⟩

theorem faultRaised.before {locked : Bool} {level : FaultLevel} (h : faultRaised locked level s t) (hq : Quiet u s) :
    faultRaised locked level u t := ⟨hq.1.later h.1, hq.2.later h.2⟩

theorem sendChannel_hose (h : Hose) (s : State) : sendChannel (hoseMeter h) s =
    if hasDispense (hoseCtx s h).state then hoseFault h .channel none s else s := by
  cases h <;> rfl

theorem sendChannel_inlet (s : State) : sendChannel .mi s =
    if Holdings.flows s.rcp.receipt.state then inletFault .channel none s else s := by
  cases hst : s.rcp.receipt.state <;> simp [sendChannel, inletChannel, hst, Holdings.flows, receiptRuns]

/-- What a fault of the inlet leaves of a receipt that runs or settles. -/
structure InletFaulted (kind : FaultKind) (x : Receipt) (s t : State) : Prop where
  receipt : t.rcp.receipt = x
  level : t.rcp.fault = .halted kind
  taken : faultTaken .inlet kind false none s.rcp.fault s t

theorem quiet_enterSettling (o : ReceiptOutcome) (s : State) : Quiet s (enterSettling o s) := by
  have hraise : Quiet s (raise .receiptChange (touchReceiptShadow (modReceipt (fun r => { r with state := .settling })
      (receiptTimer 20000 (modReceipt (fun r => { r with outcome := some o }) s))))) :=
    Quiet.raise (.of_prt (by simp)) (by decide) (by decide)
  exact hraise.prt (by simp [enterSettling, enterReceipt])

theorem inletFault_flowing (kind : FaultKind) (hruns : receiptRuns s.rcp.receipt.state = true) :
    InletFaulted kind
      { s.rcp.receipt with state := .settling, outcome := some .fault, timer := some (s.itu.mono + 20000) } s
      (inletFault kind none s) := by
  obtain ⟨hlevel, hreceipt, -, hjnl⟩ := inletFault_faulted kind hruns
  refine ⟨hreceipt, hlevel, (setInletFault_taken kind false none s).later hjnl ?_⟩
  rw [inletFault_of_runs kind none hruns]
  exact quiet_enterSettling .fault _

theorem inletFault_settling (kind : FaultKind) (hst : s.rcp.receipt.state = .settling)
    (hno : s.rcp.receipt.outcome ≠ some .fault) :
    InletFaulted kind { s.rcp.receipt with outcome := some .fault } s (inletFault kind none s) := by
  have heq : inletFault kind none s =
      modReceipt (fun r => { r with outcome := some .fault }) (setInletFault kind false none s) := by
    simp [inletFault, hst, hno]
  rw [heq]
  exact ⟨by simp [modReceipt], by simp [modReceipt, setInletFault],
    (setInletFault_taken kind false none s).later (by simp) (.of_prt (by simp))⟩

/-- Settles O46: each clause is one case of the arrival, and its fault is taken in the meter that has counted. -/
theorem pulseArrivalsAreCounted : Obligations.PulseArrivalsAreCounted := by
  refine ⟨fun m ch other s => ?_, fun h ch other d k s => ?_, fun ch other k e s => ?_⟩
  · intro x after parts
    have hafter : after = countPulse ch other := by
      funext c
      cases ch <;> cases other <;> rfl
    clear_value after
    subst hafter
    refine ⟨fun hfail => exec_pulseArrival_failing hfail, fun hfail howned hbelow => ?_, fun hfail howned hcounts hagrees => ?_,
      fun hfail howned => ⟨_, exec_pulseArrival_owned hfail howned, ownedPulse_counted m ch other s⟩,
      fun hfail howned habove howners => ?_⟩
    · exact (exec_pulseArrival_unowned hfail howned).trans (congrArg _ (unownedPulse_below hbelow))
    · exact (exec_pulseArrival_owned hfail howned).trans
        (congrArg _ ((ownedPulse_agreeing hagrees).trans (if_pos hcounts)))
    · refine ⟨_, exec_pulseArrival_unowned hfail howned, ?_⟩
      cases m with
      | m1 =>
        obtain ⟨hstandby, hmeters, hbook, hlevel, htaken, hreceipt, hother, hctx⟩ :=
          leak_hose (h := .h1) howners howned habove
        simp only [totalise, satAdd, leakStandard, leakGross, standardOf] at hmeters hbook htaken
        refine ⟨hstandby, hmeters, hbook, hlevel, htaken, hreceipt, fun h hne => ?_, fun h heq => ?_⟩
        · cases h with
          | h1 => exact absurd rfl hne
          | h2 => exact hother
        · cases h with
          | h1 => exact hctx
          | h2 => exact absurd heq (by decide)
      | m2 =>
        obtain ⟨hstandby, hmeters, hbook, hlevel, htaken, hreceipt, hother, hctx⟩ :=
          leak_hose (h := .h2) howners howned habove
        simp only [totalise, satAdd, leakStandard, leakGross, standardOf] at hmeters hbook htaken
        refine ⟨hstandby, hmeters, hbook, hlevel, htaken, hreceipt, fun h hne => ?_, fun h heq => ?_⟩
        · cases h with
          | h1 => exact hother
          | h2 => exact absurd rfl hne
        · cases h with
          | h1 => exact absurd heq (by decide)
          | h2 => exact hctx
      | mi =>
        obtain ⟨hstandby, hmeters, hbook, hlevel, htaken, hreceipt, hhoses⟩ := leak_inlet howners howned habove
        simp only [totalise, satAdd, leakStandard, leakGross, standardOf] at hmeters hbook htaken
        refine ⟨hstandby, hmeters, ?_, hlevel, htaken, hreceipt, fun h _ => hhoses h,
          fun h heq => absurd heq (Holdings.hoseMeter_ne_mi h)⟩
        simp only [if_true]
        exact hbook
  · intro x counts c before hfail howned hagreed hk hwindow hcounts hd hst
    have hchannel : ownedPulse (hoseMeter h) ch other s =
        hoseFault h .channel none (channelled (hoseMeter h) ch other s) := by
      rw [ownedPulse_channel hcounts hagreed hk hwindow, sendChannel_hose]
      exact if_pos hst
    refine ⟨_, (exec_pulseArrival_owned hfail howned).trans (congrArg _ hchannel), ?_⟩
    have hctx : hoseCtx (channelled (hoseMeter h) ch other s) h = c := rfl
    have hquiet : Quiet s (channelled (hoseMeter h) ch other s) := .of_prt rfl
    refine ⟨(hoseFault_elsewhere h .channel none (channelled (hoseMeter h) ch other s)).ctx, fun hdem => ?_,
      fun hending hno => ?_, fun hending ho => ?_⟩
    · obtain ⟨hat, hpumps⟩ := hoseFault_flowing (s := channelled (hoseMeter h) ch other s) (kind := .channel)
        (volume := none) hdem hd
      exact ⟨hat.ctx, hpumps, hat.faults, hat.taken.before rfl rfl hquiet⟩
    · have hat := hoseFault_ending (s := channelled (hoseMeter h) ch other s) (kind := .channel) (volume := none)
        hending hd hno
      exact ⟨hat.ctx, hat.faults, hat.taken.before rfl rfl hquiet⟩
    · have hcloses := hoseFault_closes (s := channelled (hoseMeter h) ch other s) (kind := .channel) (volume := none)
        hending hd ho
      obtain ⟨hx, hother, hfaults, hraised, howned', hshadow, hrecord, hclosed, hkept⟩ := hcloses
      exact ⟨hx, hfaults, hraised.before hquiet, howned', hshadow, hrecord, hclosed, hkept⟩
  · intro x counts r hfail howned hagreed hk hwindow hcounts hd hx hst
    have hquiet : Quiet s (channelled .mi ch other s) := .of_prt rfl
    have hflows : Holdings.flows s.rcp.receipt.state = true := (Holdings.flows_of_runs hst).1
    have hchannel : ownedPulse .mi ch other s = inletFault .channel none (channelled .mi ch other s) := by
      rw [ownedPulse_channel (m := .mi) hcounts hagreed hk hwindow, sendChannel_inlet]
      exact if_pos hflows
    refine ⟨_, (exec_pulseArrival_owned (m := .mi) hfail howned).trans (congrArg _ hchannel), ?_, fun hruns => ?_,
      fun hsettling hno => ?_, fun hsettling ho => ?_⟩
    · have hhsc : (inletFault .channel none (channelled .mi ch other s)).hsc = (channelled .mi ch other s).hsc := by simp
      exact hhsc
    · obtain ⟨hreceipt, hlevel, htaken⟩ := inletFault_flowing (s := channelled .mi ch other s) .channel hruns
      exact ⟨hreceipt, hlevel, htaken.before rfl rfl hquiet⟩
    · obtain ⟨hreceipt, hlevel, htaken⟩ := inletFault_settling (s := channelled .mi ch other s) .channel hsettling hno
      exact ⟨hreceipt, hlevel, htaken.before rfl rfl hquiet⟩
    · obtain ⟨hreceipt, hlevel, hshadow, hraised, howned', hop, hrecord, hclosed, -⟩ :=
        inletFault_closes (s := channelled .mi ch other s) (kind := .channel) (volume := none) hsettling ho hd hx
      exact ⟨hreceipt, hlevel, hshadow, hraised.before hquiet, howned', hop, hrecord, hclosed⟩

end Sys2Proof.Machine
end

section
/-! PROOFS. What a count report makes of a dispense and of a receipt (R5, R14, R100, R101, R104, R108, R115, R116, R143). -/

namespace Sys2Proof.Machine

variable {s t u v w : State}

/-! ## Changes of one hose's context alone -/

/-- Nothing but a hose's context has changed, with its reader, its shadow and its change event. -/
structure HoseOnly (h : Hose) (x : HoseCtx) (s t : State) : Prop where
  ctx : hoseCtx t h = x
  other : hoseCtx t (otherHose h) = hoseCtx s (otherHose h)
  books : SameBooks s t
  jnl : t.jnl = s.jnl
  faults : t.hsc.faults = s.hsc.faults
  pumps : t.hsc.pumps = s.hsc.pumps
  params : t.hsc.params = s.hsc.params
  itu : t.itu = s.itu
  quiet : Quiet s t

section

variable {h : Hose} {x y : HoseCtx}

theorem HoseOnly.refl (h : Hose) (s : State) : HoseOnly h (hoseCtx s h) s s :=
  ⟨rfl, rfl, ⟨rfl, rfl, rfl, rfl, rfl⟩, rfl, rfl, rfl, rfl, rfl, .of_prt rfl⟩

theorem HoseOnly.trans (hs : HoseOnly h x s t) (ht : HoseOnly h y t u) : HoseOnly h y s u := by
  obtain ⟨-, hother, ⟨hmtr, hstk, hbil, hmtb, hrcp⟩, hjnl, hfaults, hpumps, hparams, hitu, hquiet⟩ := hs
  obtain ⟨hctx, hother', ⟨hmtr', hstk', hbil', hmtb', hrcp'⟩, hjnl', hfaults', hpumps', hparams', hitu', hquiet'⟩ := ht
  exact ⟨hctx, hother'.trans hother, ⟨hmtr'.trans hmtr, hstk'.trans hstk, hbil'.trans hbil, hmtb'.trans hmtb,
    hrcp'.trans hrcp⟩, hjnl'.trans hjnl, hfaults'.trans hfaults, hpumps'.trans hpumps, hparams'.trans hparams,
    hitu'.trans hitu, hquiet.trans hquiet'⟩

theorem hoseOnly_put (h : Hose) (y : HoseCtx) (s : State) : HoseOnly h y s (putHose h y s.hsc.pumps s) :=
  ⟨by simp, by simp [otherHose_ne], ⟨rfl, rfl, rfl, rfl, rfl⟩, rfl, rfl, rfl, rfl, rfl, .of_prt rfl⟩

theorem hoseOnly_enterState (h : Hose) (st : HoseState) (s : State) :
    HoseOnly h { hoseCtx s h with state := st } s (enterState h st s) := by
  have hmoves := hoseMoves_enterState h st (hoseCtx s h) s.hsc.pumps s
  rw [putHose_self] at hmoves
  obtain ⟨hbooks, hjnl, hfaults⟩ := hmoves.books
  exact ⟨by simp, hmoves.other, hbooks, hjnl, hfaults, by simp, by simp, by simp, hmoves.quiet⟩

theorem hoseOnly_startTimer (h : Hose) (ms : Nat) (s : State) :
    HoseOnly h { hoseCtx s h with timer := some (s.itu.mono + ms) } s (startTimer h ms s) := by
  rw [startTimer, modHose_eq_putHose]
  exact hoseOnly_put h _ s

theorem hoseOnly_shadowHundred (h : Hose) (pulses : Nat) (s : State) :
    HoseOnly h (hoseCtx s h) s (shadowHundred h pulses s) :=
  ⟨hoseCtx_of_hoses (by simp) h, hoseCtx_of_hoses (by simp) _, by simp [SameBooks], by simp, by simp, by simp, by simp,
    by simp, .of_prt (by simp)⟩

theorem hoseOnly_countTaken {d : Dispense} (pulses gross : Nat) (hd : (hoseCtx s h).dispense = some d) :
    HoseOnly h { hoseCtx s h with dispense := some (takeCount (currentTemp s (hoseMeter h)) pulses gross d) } s
      (countTaken h pulses gross s) := by
  have hput := hoseOnly_put h { hoseCtx s h with
    dispense := some (takeCount (currentTemp s (hoseMeter h)) pulses gross d) } s
  rw [countTaken, modDispense_eq_putHose, hd, Option.map_some]
  have hshadow := hoseOnly_shadowHundred h pulses (putHose h { hoseCtx s h with
    dispense := some (takeCount (currentTemp s (hoseMeter h)) pulses gross d) } s.hsc.pumps s)
  rw [hput.ctx] at hshadow
  exact hput.trans hshadow

/-- A fault after changes of the hose alone. -/
theorem FaultAt.after {kind : FaultKind} {locked : Bool} {volume : Option Nat} (hs : HoseOnly h x s t)
    (hf : FaultAt h kind locked volume y t u) : FaultAt h kind locked volume y s u := by
  obtain ⟨-, hother, ⟨hmtr, hstk, hbil, hmtb, hrcp⟩, hjnl, hfaults, -, -, hitu, hquiet⟩ := hs
  obtain ⟨hctx, hother', hfaults', htaken, ⟨hmtr', hstk', hbil', hmtb', hrcp'⟩⟩ := hf
  rw [hfaults] at hfaults' htaken
  exact ⟨hctx, hother'.trans hother, hfaults', htaken.before hjnl (by rw [hitu]) hquiet, hmtr'.trans hmtr,
    hstk'.trans hstk, hbil'.trans hbil, hmtb'.trans hmtb, hrcp'.trans hrcp⟩

end

/-! ## The tests (R101, R104, R108, R115) -/

/-- A dispense has run beyond preset and tolerance, for the first time. -/
def Overruns (s : State) (h : Hose) (d : Dispense) : Prop :=
  d.preset + (s.hsc.params.get h).overrun < d.gross ∧ d.overrunMet = false

section

variable {h : Hose} {d : Dispense} (hd : (hoseCtx s h).dispense = some d)
include hd

theorem overrunTest_within (hno : ¬Overruns s h d) : overrunTest h s = s := by
  have hcond : (hasDispense (hoseCtx s h).state && !d.overrunMet &&
      decide (d.preset + (s.hsc.params.get h).overrun < d.gross)) = false := by
    rw [Bool.eq_false_iff]
    intro htrue
    simp only [Bool.and_eq_true, Bool.not_eq_true', decide_eq_true_eq] at htrue
    exact hno ⟨htrue.2, htrue.1.2⟩
  simp only [overrunTest, hd, hcond]
  rfl

theorem overrunTest_beyond (hst : hasDispense (hoseCtx s h).state = true) (hover : Overruns s h d) :
    overrunTest h s = hoseFault h .overrun none
      (putHose h { hoseCtx s h with dispense := some { d with overrunMet := true } } s.hsc.pumps s) := by
  obtain ⟨hgross, hmet⟩ := hover
  simp only [overrunTest, hd, hst, hmet, hgross, modDispense_eq_putHose, Option.map_some]
  rfl

theorem presetTest_below (hlt : d.gross < d.preset) : presetTest h s = s := by
  simp [presetTest, hd, not_le.mpr hlt]

theorem presetTest_reached (hle : d.preset ≤ d.gross) : presetTest h s = endIf .preset h s := by
  simp [presetTest, hd, hle]

theorem slowTest_near (hst : (hoseCtx s h).state = .flowing)
    (hnear : d.preset - d.gross ≤ (s.hsc.params.get h).slowDown) : slowTest h s = enterState h .slowing s := by
  simp [slowTest, hst, hd, nearPreset, hnear]

theorem slowTest_far (hfar : ¬d.preset - d.gross ≤ (s.hsc.params.get h).slowDown) : slowTest h s = s := by
  unfold slowTest
  split
  next hst hd' =>
    rw [hd] at hd'
    obtain rfl := Option.some.inj hd'
    simp [nearPreset, hfar]
  next => rfl

end

theorem slowTest_of_ne {h : Hose} (hst : (hoseCtx s h).state ≠ .flowing) : slowTest h s = s := by
  unfold slowTest
  split
  next hflowing _ => exact absurd hflowing hst
  next => rfl

theorem presetTest_of_not_inDemand {h : Hose} (hst : inDemand (hoseCtx s h).state = false) : presetTest h s = s := by
  unfold presetTest endIf
  rw [hst]
  split
  · split <;> rfl
  · rfl

end Sys2Proof.Machine
end

section
/-! PROOFS. Count reports drive the dispense, and the receipt to its limit (R5, R14, R100, R101, R104, R108, R115, R116,
R143). -/

namespace Sys2Proof.Machine

variable {s t u v w : State}

/-! ## The tests after a count -/

/-- A dispense that flows has ended, with no fault. -/
structure FlowEnded (h : Hose) (d : Dispense) (x : HoseCtx) (s t : State) : Prop where
  ctx : hoseCtx t h = x
  other : hoseCtx t (otherHose h) = hoseCtx s (otherHose h)
  pumps : t.hsc.pumps = s.hsc.pumps.set d.comp (leftPump h (s.hsc.pumps.get d.comp))
  books : SameBooks s t
  jnl : t.jnl = s.jnl
  faults : t.hsc.faults = s.hsc.faults

section

variable {h : Hose} {d : Dispense} {x y : HoseCtx}

theorem FlowEnded.after (hs : HoseOnly h y s t) (he : FlowEnded h d x t u) : FlowEnded h d x s u := by
  obtain ⟨-, hother, ⟨hmtr, hstk, hbil, hmtb, hrcp⟩, hjnl, hfaults, hpumps, -, -, -⟩ := hs
  obtain ⟨hctx, hother', hpumps', ⟨hmtr', hstk', hbil', hmtb', hrcp'⟩, hjnl', hfaults'⟩ := he
  rw [hpumps] at hpumps'
  exact ⟨hctx, hother'.trans hother, hpumps', ⟨hmtr'.trans hmtr, hstk'.trans hstk, hbil'.trans hbil, hmtb'.trans hmtb,
    hrcp'.trans hrcp⟩, hjnl'.trans hjnl, hfaults'.trans hfaults⟩

theorem overruns_reaches {e : Dispense} (hover : Overruns s h e) : e.preset ≤ e.gross := by
  obtain ⟨hgross, -⟩ := hover
  omega

/-- At the preset the flow ends. -/
theorem tests_at_preset (hd : (hoseCtx s h).dispense = some d) (hdem : inDemand (hoseCtx s h).state = true)
    (hle : d.preset ≤ d.gross) (hno : ¬Overruns s h d) :
    FlowEnded h d (endingCtx .preset s.itu.mono d (hoseCtx s h)) s (presetTest h (overrunTest h s)) := by
  obtain ⟨hmoves, hctx, hpumps⟩ := enterEnding_moves .preset hd
  obtain ⟨hbooks, hjnl, hfaults⟩ := hmoves.books
  rw [overrunTest_within hd hno, presetTest_reached hd hle, endIf, if_pos hdem]
  exact ⟨hctx, hmoves.other, hpumps, hbooks, hjnl, hfaults⟩

/-- Beyond preset and tolerance the flow ends with the fault. -/
theorem tests_beyond (hd : (hoseCtx s h).dispense = some d) (hdem : inDemand (hoseCtx s h).state = true)
    (hover : Overruns s h d) :
    FaultAt h .overrun false none
      (endingCtx .fault s.itu.mono { d with overrunMet := true, faultKind := some .overrun } (hoseCtx s h)) s
      (presetTest h (overrunTest h s)) := by
  have hst : hasDispense (hoseCtx s h).state = true := by simp [hasDispense, hdem]
  rw [overrunTest_beyond hd hst hover]
  have hput := hoseOnly_put h { hoseCtx s h with dispense := some { d with overrunMet := true } } s
  obtain ⟨hat, -⟩ := hoseFault_flowing (h := h) (kind := .overrun) (volume := none) (d := { d with overrunMet := true })
    (s := putHose h { hoseCtx s h with dispense := some { d with overrunMet := true } } s.hsc.pumps s)
    (by rw [hput.ctx]; exact hdem) (by rw [hput.ctx])
  rw [hput.ctx] at hat
  have hended : inDemand (hoseCtx (hoseFault h .overrun none
      (putHose h { hoseCtx s h with dispense := some { d with overrunMet := true } } s.hsc.pumps s)) h).state = false := by
    rw [hat.ctx]
    rfl
  rw [presetTest_of_not_inDemand hended]
  exact hat.after hput

/-- Below the preset the tests change nothing. -/
theorem tests_below (hd : (hoseCtx s h).dispense = some d) (hlt : d.gross < d.preset) :
    presetTest h (overrunTest h s) = s := by
  have hno : ¬Overruns s h d := fun hover => absurd (overruns_reaches hover) (not_le.mpr hlt)
  rw [overrunTest_within hd hno, presetTest_below hd hlt]

/-! ## The whole count -/

/-- Whether a dispense flows (Table 6-1). -/
def Flows (st : HoseState) : Prop := st = .ready ∨ st = .flowing ∨ st = .slowing

/-- What the tests of a flowing dispense start from: FLOWING after the first count, and the no-flow timeout anew. -/
theorem countTests_flowing {st : HoseState} (hst : Flows st) (hstate : (hoseCtx s h).state = st) (noFlow : Nat) :
    ∃ z, HoseOnly h { hoseCtx s h with
        state := if st = .slowing then .slowing else .flowing, timer := some (s.itu.mono + noFlow) } s z ∧
      countTests h st noFlow s = slowTest h (presetTest h (overrunTest h z)) := by
  have htimer := hoseOnly_startTimer h noFlow s
  rcases hst with rfl | rfl | rfl
  · have hstate' := hoseOnly_enterState h .flowing (startTimer h noFlow s)
    rw [htimer.ctx] at hstate'
    exact ⟨_, htimer.trans hstate', rfl⟩
  · refine ⟨_, ?_, rfl⟩
    rw [if_neg (by decide), ← hstate]
    exact htimer
  · refine ⟨_, ?_, rfl⟩
    rw [if_pos rfl, ← hstate]
    exact htimer

/-- Below the preset a flowing dispense flows on, and slowly where the preset is near (R101). -/
theorem countTests_below {st : HoseState} (hst : Flows st) (hstate : (hoseCtx s h).state = st) (noFlow : Nat)
    (hd : (hoseCtx s h).dispense = some d) (hlt : d.gross < d.preset) :
    HoseOnly h { hoseCtx s h with
        state := if st = .slowing ∨ d.preset - d.gross ≤ (s.hsc.params.get h).slowDown then .slowing else .flowing
        timer := some (s.itu.mono + noFlow) } s (countTests h st noFlow s) := by
  obtain ⟨z, hz, heq⟩ := countTests_flowing hst hstate noFlow
  have hdz : (hoseCtx z h).dispense = some d := by rw [hz.ctx]; exact hd
  rw [heq, tests_below hdz hlt]
  by_cases hslow : st = .slowing
  · have hstz : (hoseCtx z h).state ≠ .flowing := by
      rw [hz.ctx, if_pos hslow]
      exact HoseState.noConfusion
    rw [slowTest_of_ne hstz, if_pos (.inl hslow)]
    rw [if_pos hslow] at hz
    exact hz
  · rw [if_neg hslow] at hz
    by_cases hnear : d.preset - d.gross ≤ (s.hsc.params.get h).slowDown
    · have henter := hoseOnly_enterState h .slowing z
      rw [hz.ctx] at henter
      rw [slowTest_near hdz (by rw [hz.ctx]) (by rw [hz.params]; exact hnear), if_pos (.inr hnear)]
      exact hz.trans henter
    · rw [slowTest_far hdz (by rw [hz.params]; exact hnear), if_neg (not_or.mpr ⟨hslow, hnear⟩)]
      exact hz

theorem inDemand_of_flows {st : HoseState} (hst : Flows st) : inDemand st = true := by
  rcases hst with rfl | rfl | rfl <;> rfl

theorem Overruns.of_params {d : Dispense} (hover : Overruns s h d) (hparams : t.hsc.params = s.hsc.params) :
    Overruns t h d := by
  rwa [Overruns, hparams]

/-- At the preset a flowing or paused dispense ends. -/
theorem countTests_at_preset {st : HoseState} (hst : Flows st ∨ st = .paused) (hstate : (hoseCtx s h).state = st)
    (noFlow : Nat) (hd : (hoseCtx s h).dispense = some d) (hle : d.preset ≤ d.gross) (hno : ¬Overruns s h d) :
    FlowEnded h d (endingCtx .preset s.itu.mono d (hoseCtx s h)) s (countTests h st noFlow s) := by
  rcases hst with hst | rfl
  · obtain ⟨z, hz, heq⟩ := countTests_flowing hst hstate noFlow
    have hdem : inDemand (hoseCtx z h).state = true := by
      rw [hz.ctx]
      dsimp only
      split <;> rfl
    have hended := tests_at_preset (s := z) (h := h) (d := d) (by rw [hz.ctx]; exact hd) hdem hle
      fun hover => hno (hover.of_params hz.params.symm)
    rw [heq, slowTest_of_ne (by rw [hended.ctx]; exact HoseState.noConfusion)]
    rw [hz.ctx, hz.itu] at hended
    exact hended.after hz
  · exact tests_at_preset hd (by rw [hstate]; rfl) hle hno

/-- Beyond preset and tolerance it ends with the fault. -/
theorem countTests_beyond {st : HoseState} (hst : Flows st ∨ st = .paused) (hstate : (hoseCtx s h).state = st)
    (noFlow : Nat) (hd : (hoseCtx s h).dispense = some d) (hover : Overruns s h d) :
    FaultAt h .overrun false none
      (endingCtx .fault s.itu.mono { d with overrunMet := true, faultKind := some .overrun } (hoseCtx s h)) s
      (countTests h st noFlow s) := by
  rcases hst with hst | rfl
  · obtain ⟨z, hz, heq⟩ := countTests_flowing hst hstate noFlow
    have hdem : inDemand (hoseCtx z h).state = true := by
      rw [hz.ctx]
      dsimp only
      split <;> rfl
    have hat := tests_beyond (s := z) (h := h) (d := d) (by rw [hz.ctx]; exact hd) hdem (hover.of_params hz.params)
    rw [heq, slowTest_of_ne (by rw [hat.ctx]; exact HoseState.noConfusion)]
    rw [hz.ctx, hz.itu] at hat
    exact hat.after hz
  · exact tests_beyond hd (by rw [hstate]; rfl) hover

/-- In ENDING a first fault makes the outcome FAULT. -/
theorem countTests_ending (hstate : (hoseCtx s h).state = .ending) (noFlow : Nat)
    (hd : (hoseCtx s h).dispense = some d) (hover : Overruns s h d) (ho : d.outcome ≠ some .fault) :
    FaultAt h .overrun false none
      { hoseCtx s h with
        dispense := some { d with
          overrunMet := true, outcome := some .fault, faultKind := some .overrun, endCause := none } } s
      (countTests h .ending noFlow s) := by
  have hput := hoseOnly_put h { hoseCtx s h with dispense := some { d with overrunMet := true } } s
  have hat := hoseFault_ending (h := h) (kind := .overrun) (volume := none) (d := { d with overrunMet := true })
    (s := putHose h { hoseCtx s h with dispense := some { d with overrunMet := true } } s.hsc.pumps s)
    (by rw [hput.ctx]; exact hstate) (by rw [hput.ctx]) ho
  rw [hput.ctx] at hat
  rw [countTests, overrunTest_beyond hd (by rw [hstate]; rfl) hover]
  exact hat.after hput

/-- In ENDING a further fault closes the dispense. -/
theorem countTests_ending_again (hstate : (hoseCtx s h).state = .ending) (noFlow : Nat)
    (hd : (hoseCtx s h).dispense = some d) (hover : Overruns s h d) (ho : d.outcome = some .fault) :
    ∃ z, HoseOnly h { hoseCtx s h with dispense := some { d with overrunMet := true } } s z ∧
      FaultCloses h .overrun none { d with overrunMet := true } z (countTests h .ending noFlow s) := by
  have hput := hoseOnly_put h { hoseCtx s h with dispense := some { d with overrunMet := true } } s
  refine ⟨_, hput, ?_⟩
  rw [countTests, overrunTest_beyond hd (by rw [hstate]; rfl) hover]
  exact hoseFault_closes (by rw [hput.ctx]; exact hstate) (by rw [hput.ctx]) ho

end

/-- The tests of one hose leave the other. -/
theorem countTests_other (h : Hose) (st : HoseState) (noFlow : Nat) (s : State) :
    hoseCtx (countTests h st noFlow s) (otherHose h) = hoseCtx s (otherHose h) := by
  have hoverrun (v : State) : hoseCtx (overrunTest h v) (otherHose h) = hoseCtx v (otherHose h) := by
    unfold overrunTest
    split
    · split
      · rw [(hoseFault_elsewhere h .overrun none _).ctx, modDispense_eq_putHose]
        exact (hoseOnly_put h _ v).other
      · rfl
    · rfl
  have hpreset (v : State) : hoseCtx (presetTest h v) (otherHose h) = hoseCtx v (otherHose h) := by
    unfold presetTest endIf
    split
    · split
      · split
        · exact enterEnding_other .preset h v
        · rfl
      · rfl
    · rfl
  have hslow (v : State) : hoseCtx (slowTest h v) (otherHose h) = hoseCtx v (otherHose h) := by
    unfold slowTest
    split
    · split
      · exact (hoseOnly_enterState h .slowing v).other
      · rfl
    · rfl
  have htimer := (hoseOnly_startTimer h noFlow s).other
  unfold countTests
  split
  · rw [hslow, hpreset, hoverrun, (hoseOnly_enterState h .flowing (startTimer h noFlow s)).other, htimer]
  · rw [hslow, hpreset, hoverrun, htimer]
  · rw [hslow, hpreset, hoverrun, htimer]
  · rw [hpreset, hoverrun]
  · rw [hoverrun]
  · rfl

/-- Unless a further fault closes the dispense, the books stay, and without a fault the journal and the levels. -/
theorem countTests_books {h : Hose} {d : Dispense} (noFlow : Nat) (hd : (hoseCtx s h).dispense = some d)
    (hdisp : hasDispense (hoseCtx s h).state = true)
    (hno : (hoseCtx s h).state ≠ .ending ∨ d.outcome ≠ some .fault ∨ ¬Overruns s h d) :
    SameBooks s (countTests h (hoseCtx s h).state noFlow s) ∧
      (¬Overruns s h d → (countTests h (hoseCtx s h).state noFlow s).jnl = s.jnl ∧
        (countTests h (hoseCtx s h).state noFlow s).hsc.faults = s.hsc.faults) := by
  have hsame : SameBooks s s := ⟨rfl, rfl, rfl, rfl, rfl⟩
  by_cases hover : Overruns s h d
  · refine ⟨?_, fun hnot => absurd hover hnot⟩
    cases hst : (hoseCtx s h).state with
    | ready => exact (countTests_beyond (.inl (.inl rfl)) hst noFlow hd hover).books
    | flowing => exact (countTests_beyond (.inl (.inr (.inl rfl))) hst noFlow hd hover).books
    | slowing => exact (countTests_beyond (.inl (.inr (.inr rfl))) hst noFlow hd hover).books
    | paused => exact (countTests_beyond (.inr rfl) hst noFlow hd hover).books
    | ending =>
      have ho : d.outcome ≠ some .fault := by
        rcases hno with hno | hno | hno
        · exact absurd hst hno
        · exact hno
        · exact absurd hover hno
      exact (countTests_ending hst noFlow hd hover ho).books
    | priming => exact hsame
    | idle | armed | halted | locked => simp [hst, hasDispense, inDemand] at hdisp
  · have hflows (hst : Flows (hoseCtx s h).state ∨ (hoseCtx s h).state = .paused) :
        SameBooks s (countTests h (hoseCtx s h).state noFlow s) ∧
          (countTests h (hoseCtx s h).state noFlow s).jnl = s.jnl ∧
          (countTests h (hoseCtx s h).state noFlow s).hsc.faults = s.hsc.faults := by
      by_cases hle : d.preset ≤ d.gross
      · have hended := countTests_at_preset hst rfl noFlow hd hle hover
        exact ⟨hended.books, hended.jnl, hended.faults⟩
      · rcases hst with hst | hst
        · have honly := countTests_below hst rfl noFlow hd (not_le.mp hle)
          exact ⟨honly.books, honly.jnl, honly.faults⟩
        · rw [hst, countTests, tests_below hd (not_le.mp hle)]
          exact ⟨hsame, rfl, rfl⟩
    have hall : SameBooks s (countTests h (hoseCtx s h).state noFlow s) ∧
        (countTests h (hoseCtx s h).state noFlow s).jnl = s.jnl ∧
        (countTests h (hoseCtx s h).state noFlow s).hsc.faults = s.hsc.faults := by
      cases hst : (hoseCtx s h).state with
      | ready => exact hst ▸ hflows (.inl (.inl hst))
      | flowing => exact hst ▸ hflows (.inl (.inr (.inl hst)))
      | slowing => exact hst ▸ hflows (.inl (.inr (.inr hst)))
      | paused => exact hst ▸ hflows (.inr hst)
      | ending =>
        rw [countTests, overrunTest_within hd hover]
        exact ⟨hsame, rfl, rfl⟩
      | priming => exact ⟨hsame, rfl, rfl⟩
      | idle | armed | halted | locked => simp [hst, hasDispense, inDemand] at hdisp
    exact ⟨hall.1, fun _ => hall.2⟩

/-! ## The receipt (R143) -/

theorem takeReceiptCount_fields (temp : Int × Bool) (pulses gross : Nat) (r : Receipt) :
    (takeReceiptCount temp pulses gross r).counted = pulses ∧ (takeReceiptCount temp pulses gross r).gross = gross ∧
      (takeReceiptCount temp pulses gross r).state = r.state ∧ (takeReceiptCount temp pulses gross r).started = r.started ∧
      (takesSample r.sampling pulses gross = true →
        (takeReceiptCount temp pulses gross r).tempFallback = (r.tempFallback || temp.2)) := by
  unfold takeReceiptCount
  dsimp only
  split
  · exact ⟨rfl, rfl, rfl, rfl, fun _ => rfl⟩
  next hno => exact ⟨rfl, rfl, rfl, rfl, fun hyes => absurd hyes hno⟩

theorem receiptCount_receipt {x : Started} (pulses gross : Nat) (hruns : receiptRuns s.rcp.receipt.state = true)
    (hx : s.rcp.receipt.started = some x) :
    (receiptCount pulses gross s).rcp.receipt =
      if x.limit ≤ gross then
        { takeReceiptCount (currentTemp s .mi) pulses gross s.rcp.receipt with
          state := .settling, timer := some (s.itu.mono + 20000), outcome := some .limit }
      else takeReceiptCount (currentTemp s .mi) pulses gross s.rcp.receipt := by
  obtain ⟨-, -, hstate, hstarted, -⟩ := takeReceiptCount_fields (currentTemp s .mi) pulses gross s.rcp.receipt
  generalize hv : modReceipt (takeReceiptCount (currentTemp s .mi) pulses gross) s = v
  have hreceipt : v.rcp.receipt = takeReceiptCount (currentTemp s .mi) pulses gross s.rcp.receipt := by rw [← hv]; rfl
  have hmono : v.itu.mono = s.itu.mono := by rw [← hv]; rfl
  generalize hw : (if v.rcp.shadow.opened && v.rcp.shadow.counted / 100 < pulses / 100 then touchReceiptShadow v else v) = w
  have hreceipt' : w.rcp.receipt = takeReceiptCount (currentTemp s .mi) pulses gross s.rcp.receipt := by
    rw [← hw]
    split <;> simp [hreceipt]
  have hmono' : w.itu.mono = s.itu.mono := by
    rw [← hw]
    split <;> simp [hmono]
  have hx' : w.rcp.receipt.started = some x := by rw [hreceipt', hstarted, hx]
  have hruns' : receiptRuns w.rcp.receipt.state = true := by rw [hreceipt', hstate, hruns]
  have heq : receiptCount pulses gross s = if x.limit ≤ gross then settleIf .limit w else w := by
    simp only [receiptCount, hv, hw, hx']
  rw [heq]
  split
  · rw [settleIf_receipt, if_pos hruns', hreceipt', hmono']
  · exact hreceipt'

/-! ## The count reports -/

theorem arrived_currentTemp (n m : MeterId) (ch : Channel) (other : Bool) (s : State) :
    currentTemp (arrived m ch other s) n = currentTemp s n := by
  have howned : ((arrived m ch other s).mtr.meters.get .mi).owned = (s.mtr.meters.get .mi).owned := by cases m <;> rfl
  have hinlet : (arrived m ch other s).mtr.inletComp = s.mtr.inletComp := rfl
  have hrcp : (arrived m ch other s).rcp = s.rcp := rfl
  have hcomp : meterComp (arrived m ch other s) n = meterComp s n := by
    cases n with
    | m1 | m2 => rfl
    | mi => simp only [meterComp, howned, hrcp, hinlet]
  simp only [currentTemp, hcomp]
  rfl

theorem takeCount_counted (temp : Int × Bool) (pulses gross : Nat) (d : Dispense) :
    (takeCount temp pulses gross d).counted = pulses ∧ (takeCount temp pulses gross d).gross = gross ∧
      (takeCount temp pulses gross d).preset = d.preset ∧ (takeCount temp pulses gross d).overrunMet = d.overrunMet ∧
      (takeCount temp pulses gross d).outcome = d.outcome ∧ (takeCount temp pulses gross d).comp = d.comp ∧
      (takeCount temp pulses gross d).seq = d.seq := by
  unfold takeCount
  dsimp only
  split <;> exact ⟨rfl, rfl, rfl, rfl, rfl, rfl, rfl⟩

theorem sendCount_hose (h : Hose) (pulses gross : Nat) (s : State) :
    sendCount (hoseMeter h) pulses gross s = hoseCount h pulses gross s := by
  cases h <;> rfl

/-- Settles O47: the count is taken in, and the tests that follow are those of the hose's state; the receipt's count ends at
its limit. -/
theorem countReportsDriveDispense : Obligations.CountReportsDriveDispense := by
  refine ⟨fun h ch other d s => ?_, fun ch other x s => ?_⟩
  · intro x counts pulses gross params taken c overrun flows hfail howned hd hchanged hagrees
    obtain ⟨hcounted, hgross, hpreset, hmet, houtcome, hcomp, hseq⟩ :=
      takeCount_counted (currentTemp s (hoseMeter h)) pulses gross d
    have hpulse : ownedPulse (hoseMeter h) ch other s = hoseCount h pulses gross (arrived (hoseMeter h) ch other s) := by
      rw [ownedPulse_agreeing hagrees, if_neg hchanged, sendCount_hose]
    refine ⟨hcounted, hgross, _, (exec_pulseArrival_owned hfail howned).trans (congrArg _ hpulse), ?_⟩
    have hstate : (hoseCtx (arrived (hoseMeter h) ch other s) h).state = c.state := rfl
    have hnoFlow : ((arrived (hoseMeter h) ch other s).hsc.params.get h).noFlow = params.noFlow := rfl
    have hw := hoseOnly_countTaken (s := arrived (hoseMeter h) ch other s) (h := h) pulses gross hd
    have hquiet : Quiet s (arrived (hoseMeter h) ch other s) := .of_prt rfl
    rw [arrived_currentTemp] at hw
    rw [hoseCount_eq, hstate, hnoFlow]
    obtain ⟨w, hweq⟩ : ∃ w, w = countTaken h pulses gross (arrived (hoseMeter h) ch other s) := ⟨_, rfl⟩
    rw [← hweq] at hw ⊢
    clear hweq
    have hctx : hoseCtx w h = { c with dispense := some taken } := hw.ctx
    have hstw : (hoseCtx w h).state = c.state := by rw [hctx]
    have hdw : (hoseCtx w h).dispense = some taken := by rw [hctx]
    have hmono : w.itu.mono = s.itu.mono := by rw [hw.itu]; rfl
    have hpumps : w.hsc.pumps = s.hsc.pumps := hw.pumps
    have hover : Overruns w h taken ↔ overrun := by
      rw [Overruns, hw.params, hpreset, hgross, hmet]
      rfl
    refine ⟨(countTests_other h c.state _ w).trans hw.other, fun hdisp hno => ?_, fun hflows hlt => ?_, fun hst => ?_,
      fun hst => ⟨fun hle hno => ?_, fun ho => ?_⟩, fun hst ho hout => ?_, fun hst ho hout => ?_⟩
    · have hbooks := countTests_books (params.noFlow * 1000) hdw (by rw [hstw]; exact hdisp)
        (by rw [hstw, houtcome, hover]; exact hno)
      rw [hstw, hover] at hbooks
      obtain ⟨⟨-, hstk, hbil, hmtb, -⟩, hrest⟩ := hbooks
      obtain ⟨-, hstk', hbil', hmtb', -⟩ := hw.books
      exact ⟨hstk.trans hstk', hbil.trans hbil', hmtb.trans hmtb',
        fun hnot => ⟨(hrest hnot).1.trans hw.jnl, (hrest hnot).2.trans hw.faults⟩⟩
    · have honly := countTests_below hflows hstw (params.noFlow * 1000) hdw (by rw [hgross, hpreset]; exact hlt)
      rw [honly.ctx, hctx, hmono, hw.params, hgross, hpreset]
      rfl
    · have hsame : countTests h c.state (params.noFlow * 1000) w = w := by
        rcases hst with hst | ⟨hst, hlt⟩ | ⟨hst, hno⟩
        · rw [hst]
          rfl
        · rw [hst, countTests, tests_below hdw (by rw [hgross, hpreset]; exact hlt)]
        · rw [hst, countTests, overrunTest_within hdw (fun ho => hno (hover.mp ho))]
      rw [hsame, hctx]
    · have hended := countTests_at_preset hst hstw (params.noFlow * 1000) hdw (by rw [hgross, hpreset]; exact hle)
        fun ho => hno (hover.mp ho)
      have hleft := hended.pumps
      rw [hpumps, hcomp] at hleft
      refine ⟨?_, hleft⟩
      rw [hended.ctx, hctx, hmono]
      rfl
    · have hat := countTests_beyond hst hstw (params.noFlow * 1000) hdw (hover.mpr ho)
      have hat' := hat.after hw
      refine ⟨?_, hat'.faults, hat'.taken.before rfl rfl hquiet⟩
      rw [hat'.ctx, hctx, hmono]
      rfl
    · have hat := countTests_ending (hstw.trans hst) (params.noFlow * 1000) hdw (hover.mpr ho)
        (by rw [houtcome]; exact hout)
      have hat' := hat.after hw
      rw [hst]
      refine ⟨?_, hat'.faults, hat'.taken.before rfl rfl hquiet⟩
      rw [hat'.ctx, hctx, hst]
    · obtain ⟨z, hz, hcloses⟩ := countTests_ending_again (hstw.trans hst) (params.noFlow * 1000) hdw (hover.mpr ho)
        (by rw [houtcome]; exact hout)
      have hz' := hw.trans hz
      obtain ⟨hx, -, hfaults, hraised, howned', -, -, hclosed, -⟩ := hcloses
      rw [hst]
      rw [hz'.ctx, hctx] at hx
      rw [hz'.faults] at hfaults hraised
      rw [hseq] at hclosed
      exact ⟨hx, hfaults, hraised.before (hquiet.trans hz'.quiet), howned', hclosed⟩
  · intro m counts pulses gross hfail howned hruns hx hchanged hagrees taken
    obtain ⟨hcounted, hgross, -, -, hfallback⟩ := takeReceiptCount_fields (currentTemp s .mi) pulses gross s.rcp.receipt
    have hpulse : ownedPulse .mi ch other s = receiptCount pulses gross (arrived .mi ch other s) := by
      rw [ownedPulse_agreeing (m := .mi) hagrees]
      exact if_neg hchanged
    have hreceipt := receiptCount_receipt (s := arrived .mi ch other s) pulses gross hruns hx
    rw [arrived_currentTemp] at hreceipt
    have hframe : (receiptCount pulses gross (arrived .mi ch other s)).hsc = (arrived .mi ch other s).hsc ∧
        (receiptCount pulses gross (arrived .mi ch other s)).jnl = (arrived .mi ch other s).jnl ∧
        (receiptCount pulses gross (arrived .mi ch other s)).stk = (arrived .mi ch other s).stk := by simp
    obtain ⟨hhsc, hjnl, hstk⟩ := hframe
    exact ⟨hcounted, hgross, hfallback, _, (exec_pulseArrival_owned (m := .mi) hfail howned).trans (congrArg _ hpulse),
      hhsc, hjnl, hstk, hreceipt⟩

end Sys2Proof.Machine
end

section
/-! PROOFS. The lengths of record images and of response frames (R204, R206). -/

namespace Sys2Proof.Machine

/-! ## Lengths of fields -/

@[simp] theorem bigEndian_length (w v : Nat) : (bigEndian w v).length = w := by
  induction w with
  | zero => rfl
  | succ w ih => simp [bigEndian, ih]

@[simp] theorem natBytes_length (w v : Nat) : (natBytes w v).length = w := by
  unfold natBytes
  split <;> simp

@[simp] theorem intBytes_length (w : Nat) (v : Int) : (intBytes w v).length = w := by
  unfold intBytes
  split <;> simp

@[simp] theorem zeros_length (w : Nat) : (zeros w).length = w := List.length_replicate ..

@[simp] theorem imageNat_length (w : Nat) (v : Option Nat) : (imageNat w v).length = w := by
  cases v with
  | none => exact zeros_length w
  | some n => exact natBytes_length w n

@[simp] theorem imageInt_length (w : Nat) (v : Option Int) : (imageInt w v).length = w := by
  cases v with
  | none => exact zeros_length w
  | some n => exact intBytes_length w n

@[simp] theorem docketBytes_length (number : List Byte) : (docketBytes number).length = 12 := by
  simp only [docketBytes, List.length_append, List.length_take, zeros_length]
  omega

/-! ## Record images -/

/-- The header that every image begins with has 16 bytes (Table 13-5). -/
theorem recordImage_length (r : Record) : (recordImage r).length = 16 + (bodyImage r.body).fields.length := by
  simp only [recordImage, List.length_append, natBytes_length, imageNat_length]

theorem dispenseImage_length (d : DispenseRecord) : (dispenseImage d).fields.length = 68 := by
  simp [dispenseImage]

theorem receiptImage_length (r : ReceiptRecord) : (receiptImage r).fields.length = 41 := by
  simp [receiptImage]

theorem reconcileImage_length (r : ReconcileRecord) : (reconcileImage r).fields.length = 28 := by
  simp [reconcileImage]

theorem adjustImage_length (a : AdjustRecord) : (adjustImage a).fields.length = 19 := by
  simp [adjustImage]

theorem faultImage_length (f : FaultRecord) : (faultImage f).fields.length = 9 := by
  simp [faultImage]

/-! ## Response frames -/

theorem beValue_natBytes_two {n : Nat} (hn : n < 65536) : beValue (natBytes 2 n) = n := by
  rw [natBytes, if_pos (by omega), bigEndian_two, beValue_pair]
  simp only [BitVec.toNat_ofNat]
  omega

theorem responseFrame_length (r : Response) : (responseFrame r).length = (payloadBytes r.payload).length + 5 := by
  simp [responseFrame, crcBytes_length]
  omega

/-- A response frame starts with its length and its status (R204). -/
theorem responseFrame_starts (r : Response) : ∃ rest,
    responseFrame r = natBytes 2 (responseFrame r).length ++ BitVec.ofNat 8 r.status.ctorIdx :: rest := by
  rw [responseFrame_length]
  exact ⟨payloadBytes r.payload ++ crcBytes (natBytes 2 ((payloadBytes r.payload).length + 5) ++
    [BitVec.ofNat 8 r.status.ctorIdx] ++ payloadBytes r.payload), by simp [responseFrame]⟩

/-- Settles O19. -/
theorem imagesAndFramesHaveTheirLengths : Obligations.ImagesAndFramesHaveTheirLengths := by
  refine ⟨fun r => ?_, fun r hlen => ?_⟩
  · rw [recordImage_length]
    cases r.body with
    | dispense d => rw [bodyImage, dispenseImage_length]
    | receipt x => rw [bodyImage, receiptImage_length]
    | reconcile x => rw [bodyImage, reconcileImage_length]
    | adjust a => rw [bodyImage, adjustImage_length]
    | fault f => rw [bodyImage, faultImage_length]
  · obtain ⟨rest, hstarts⟩ := responseFrame_starts r
    have htwo : (natBytes 2 (responseFrame r).length).length = 2 := natBytes_length ..
    have htake : (responseFrame r).take 2 = natBytes 2 (responseFrame r).length := by
      conv_lhs => rw [hstarts]
      exact List.take_left' htwo
    have hdrop : (responseFrame r).drop 2 = BitVec.ofNat 8 r.status.ctorIdx :: rest := by
      conv_lhs => rw [hstarts]
      exact List.drop_left' htwo
    exact ⟨by rw [htake, beValue_natBytes_two hlen], by rw [hdrop]; rfl⟩

end Sys2Proof.Machine
end

section
/-! PROOFS. The payload of a request decodes to the request (R204, R205, Table 13-10). -/

namespace Sys2Proof.Machine

/-! ## Big-endian numbers (R204) -/

theorem beValue_nil : beValue [] = 0 := rfl

theorem foldl_beValue (bytes : List Byte) (n : Nat) :
    bytes.foldl (fun acc b => acc * 256 + b.toNat) n = n * 256 ^ bytes.length + beValue bytes := by
  induction bytes generalizing n with
  | nil => simp [beValue_nil]
  | cons b rest ih =>
    have hrest : beValue (b :: rest) = b.toNat * 256 ^ rest.length + beValue rest := by
      rw [← ih]
      simp [beValue]
    rw [List.foldl_cons, ih, hrest, List.length_cons, pow_succ]
    ring

theorem beValue_cons (b : Byte) (rest : List Byte) :
    beValue (b :: rest) = b.toNat * 256 ^ rest.length + beValue rest := by
  rw [← foldl_beValue]
  simp [beValue]

theorem beValue_lt (bytes : List Byte) : beValue bytes < 256 ^ bytes.length := by
  induction bytes with
  | nil => simp [beValue_nil]
  | cons b rest ih =>
    have hb : b.toNat + 1 ≤ 256 := b.isLt
    have hmul := Nat.mul_le_mul_right (256 ^ rest.length) hb
    rw [beValue_cons, List.length_cons, pow_succ]
    linarith

theorem beValue_bigEndian {w v : Nat} (h : v < 256 ^ w) : beValue (bigEndian w v) = v := by
  have hmod : ∀ v : Nat, beValue (bigEndian w v) = v % 256 ^ w := by
    clear h
    intro v
    induction w with
    | zero => simp [bigEndian, beValue_nil, Nat.mod_one]
    | succ w ih =>
      rw [bigEndian, beValue_cons, ih, bigEndian_length, BitVec.toNat_ofNat, pow_succ 256 w,
        Nat.mod_mul, Nat.mul_comm (256 ^ w)]
      exact Nat.add_comm ..
  rw [hmod, Nat.mod_eq_of_lt h]

theorem bigEndian_add_mul (w v m : Nat) : bigEndian w (m * 256 ^ w + v) = bigEndian w v := by
  induction w generalizing m with
  | zero => rfl
  | succ w ih =>
    have hsplit : m * 256 ^ (w + 1) + v = m * 256 * 256 ^ w + v := by ring
    rw [bigEndian, bigEndian, hsplit, ih, Nat.add_comm, Nat.add_mul_div_right _ _ (by positivity)]
    congr 1
    apply BitVec.eq_of_toNat_eq
    simp [Nat.add_mul_mod_self_right]

theorem bigEndian_beValue (bytes : List Byte) : bigEndian bytes.length (beValue bytes) = bytes := by
  induction bytes with
  | nil => rfl
  | cons b rest ih =>
    have hhead : (b.toNat * 256 ^ rest.length + beValue rest) / 256 ^ rest.length = b.toNat := by
      rw [Nat.add_comm, Nat.add_mul_div_right _ _ (by positivity), Nat.div_eq_of_lt (beValue_lt rest), Nat.zero_add]
    rw [beValue_cons, List.length_cons, bigEndian, bigEndian_add_mul, ih, hhead, BitVec.ofNat_toNat, BitVec.setWidth_eq]

theorem beValue_singleton (b : Byte) : beValue [b] = b.toNat := by
  simp [beValue]

/-! ## Signed values, sets and docket numbers (R204) -/

theorem unsignedOf_lt (w : Nat) (v : Int) : fits w (unsignedOf w v) = true := by
  have hpos : 0 < 256 ^ w := by positivity
  rw [fits, decide_eq_true_eq, unsignedOf]
  omega

theorem signedOf_unsignedOf {w : Nat} {v : Int} (h : fitsInt w v = true) : signedOf w (unsignedOf w v) = v := by
  obtain ⟨hlow, hhigh⟩ : -((256 ^ w : Nat) : Int) ≤ 2 * v ∧ 2 * v < ((256 ^ w : Nat) : Int) := by
    simpa only [fitsInt, Bool.and_eq_true, decide_eq_true_eq] using h
  unfold signedOf unsignedOf
  generalize 256 ^ w = n at hlow hhigh ⊢
  rcases Int.lt_or_le v 0 with hneg | hnonneg
  · rw [show v % (n : Int) = v + n by rw [← Int.add_emod_right, Int.emod_eq_of_lt (by omega) (by omega)]]
    split <;> omega
  · rw [Int.emod_eq_of_lt hnonneg (by omega)]
    split <;> omega

theorem sortedLT_of_fitsSet {n : Nat} {members : List Nat} (h : fitsSet n members = true) :
    members.SortedLT ∧ ∀ x ∈ members, x < n := by
  induction members with
  | nil => simp [List.sortedLT_iff_pairwise]
  | cons x rest ih =>
    cases rest with
    | nil => simpa [fitsSet, List.sortedLT_iff_pairwise] using h
    | cons y rest =>
      obtain ⟨hxy, hrest⟩ : x < y ∧ fitsSet n (y :: rest) = true := by simpa [fitsSet] using h
      obtain ⟨hsorted, hlt⟩ := ih hrest
      refine ⟨?_, fun z hz => ?_⟩
      · rw [List.sortedLT_iff_pairwise] at hsorted ⊢
        refine List.pairwise_cons.mpr ⟨fun z hz => ?_, hsorted⟩
        rcases List.mem_cons.mp hz with rfl | hz
        · exact hxy
        · exact hxy.trans (List.rel_of_pairwise_cons hsorted hz)
      · rcases List.mem_cons.mp hz with rfl | hz
        · exact hxy.trans (hlt y (by simp))
        · exact hlt z hz

/-- The bits of the value of a set are its members. -/
theorem testBit_setValue {n : Nat} {members : List Nat} (h : fitsSet n members = true) (i : Nat) :
    (setValue members).testBit i = true ↔ i ∈ members := by
  rw [← Nat.mem_bitIndices, setValue, Nat.bitIndices_sum_map_two_pow (sortedLT_of_fitsSet h).1]

theorem setValue_lt {n : Nat} {members : List Nat} (h : fitsSet n members = true) : setValue members < 2 ^ n := by
  apply Nat.lt_pow_two_of_testBit
  intro i hi
  rw [Bool.eq_false_iff, ne_eq, testBit_setValue h]
  exact fun hmem => absurd ((sortedLT_of_fitsSet h).2 i hmem) (by omega)

theorem bitsOf_setValue {n : Nat} {members : List Nat} (h : fitsSet n members = true) :
    bitsOf n (setValue members) = members := by
  obtain ⟨hsorted, hlt⟩ := sortedLT_of_fitsSet h
  have hrange : ((List.range n).filter fun i => (setValue members).testBit i).Pairwise (· < ·) :=
    List.pairwise_lt_range.filter _
  refine List.Perm.eq_of_pairwise' hrange hsorted.pairwise ?_
  refine (List.perm_ext_iff_of_nodup (hrange.imp fun h => h.ne) (hsorted.pairwise.imp fun h => h.ne)).mpr fun i => ?_
  rw [List.mem_filter, testBit_setValue h, List.mem_range]
  exact ⟨fun hi => hi.2, fun hi => ⟨hlt i hi, hi⟩⟩

theorem docketValue_fits {number : List Byte} (h : fitsDocket number = true) : fits 12 (docketValue number) = true := by
  obtain ⟨hlen, -⟩ : number.length ≤ 12 ∧ number.getLast? ≠ some 0 := by simpa [fitsDocket] using h
  have hlt := beValue_lt (number ++ zeros (12 - number.length))
  rw [List.length_append, zeros_length, show number.length + (12 - number.length) = 12 by omega] at hlt
  exact decide_eq_true hlt

theorem rdropWhile_append_zeros (number : List Byte) (n : Nat) :
    (number ++ zeros n).rdropWhile (· == 0) = number.rdropWhile (· == 0) := by
  induction n with
  | zero => simp [zeros]
  | succ n ih =>
    rw [zeros, List.replicate_succ', ← List.append_assoc, List.rdropWhile_concat_pos _ _ _ (by simp)]
    exact ih

theorem docketOf_docketValue {number : List Byte} (h : fitsDocket number = true) :
    docketOf (docketValue number) = number := by
  obtain ⟨hlen, hlast⟩ : number.length ≤ 12 ∧ number.getLast? ≠ some 0 := by simpa [fitsDocket] using h
  have htwelve : (number ++ zeros (12 - number.length)).length = 12 := by
    rw [List.length_append, zeros_length]
    omega
  have hbytes := bigEndian_beValue (number ++ zeros (12 - number.length))
  rw [htwelve] at hbytes
  calc docketOf (docketValue number)
      = (number ++ zeros (12 - number.length)).rdropWhile (· == 0) := by rw [docketOf, docketValue, hbytes]; rfl
    _ = number.rdropWhile (· == 0) := rdropWhile_append_zeros ..
    _ = number := List.rdropWhile_eq_self_iff.mpr fun hne hzero =>
        hlast (by rw [List.getLast?_eq_getLast_of_ne_nil hne, eq_of_beq hzero])

end Sys2Proof.Machine
end

section
/-! PROOFS. Every well-formed request is read back from its payload (R198, R205, Table 13-10). -/

namespace Sys2Proof.Machine

/-! ## Presence bits (R205) -/

theorem testBit_bitsValue (bits : List Bool) (i : Nat) : (bitsValue bits).testBit i = bits.getD i false := by
  induction bits generalizing i with
  | nil => simp [bitsValue]
  | cons b rest ih =>
    have hbit : bitsValue (b :: rest) = Nat.bit b (bitsValue rest) := by
      cases b <;> simp [bitsValue, boolCode, Nat.bit, Nat.add_comm]
    rw [hbit]
    cases i with
    | zero => simp
    | succ i => simp [Nat.testBit_bit_succ, ih]

theorem bitsValue_lt (bits : List Bool) : bitsValue bits < 2 ^ bits.length := by
  apply Nat.lt_pow_two_of_testBit
  intro i hi
  rw [testBit_bitsValue, List.getD_eq_default _ _ hi]

/-! ## The fields of a payload (R205) -/

/-- Each field has a value that its width holds, and only an optional one is absent. -/
def slotsFit : List Slot → List (Option Nat) → Bool
  | [], [] => true
  | f :: slots, v :: values => (f.optional || v.isSome) && fitsOpt f.width v && slotsFit slots values
  | _, _ => false

theorem slotsFit_cons {f : Slot} {slots : List Slot} {v : Option Nat} {values : List (Option Nat)} :
    slotsFit (f :: slots) (v :: values) = true ↔
      (f.optional = false → v.isSome = true) ∧ v.getD 0 < 256 ^ f.width ∧ slotsFit slots values = true := by
  have hpos : 0 < 256 ^ f.width := by positivity
  cases v <;> cases hopt : f.optional <;> simp [slotsFit, fitsOpt, fits, hpos, hopt]

theorem slotBytes_length {slots : List Slot} {values : List (Option Nat)} (h : slotsFit slots values = true) :
    (slotBytes slots values).length = (slots.map (·.width)).sum := by
  induction slots generalizing values with
  | nil => rfl
  | cons f slots ih =>
    cases values with
    | nil => simp [slotsFit] at h
    | cons v values =>
      obtain ⟨-, -, hrest⟩ := slotsFit_cons.mp h
      simp [slotBytes, ih hrest]

theorem slotPresence_length {slots : List Slot} {values : List (Option Nat)} (h : slotsFit slots values = true) :
    (slotPresence slots values).length = slots.countP (·.optional) := by
  induction slots generalizing values with
  | nil => rfl
  | cons f slots ih =>
    cases values with
    | nil => simp [slotsFit] at h
    | cons v values =>
      obtain ⟨-, -, hrest⟩ := slotsFit_cons.mp h
      cases hopt : f.optional <;> simp [slotPresence, hopt, ih hrest]

/-- The fields are read back from their bytes, with the presence bits from one bit on. -/
theorem fieldValues_slotBytes {slots : List Slot} {values : List (Option Nat)} {present bit : Nat}
    (h : slotsFit slots values = true)
    (hpresent : ∀ i, present.testBit (bit + i) = (slotPresence slots values).getD i false) :
    fieldValues present bit slots (slotBytes slots values) = values := by
  induction slots generalizing values bit with
  | nil =>
    cases values with
    | nil => rfl
    | cons v values => simp [slotsFit] at h
  | cons f slots ih =>
    cases values with
    | nil => simp [slotsFit] at h
    | cons v values =>
      obtain ⟨hsome, hlt, hrest⟩ := slotsFit_cons.mp h
      have hwidth : (bigEndian f.width (v.getD 0)).length = f.width := bigEndian_length ..
      have hvalue : beValue ((slotBytes (f :: slots) (v :: values)).take f.width) = v.getD 0 := by
        rw [slotBytes, List.take_left' hwidth, beValue_bigEndian hlt]
      have hrestBytes : (slotBytes (f :: slots) (v :: values)).drop f.width = slotBytes slots values := by
        rw [slotBytes, List.drop_left' hwidth]
      unfold fieldValues
      simp only [hvalue, hrestBytes]
      cases hopt : f.optional with
      | false =>
        simp only [slotPresence, hopt, Bool.false_eq_true, if_false] at hpresent ⊢
        rw [ih hrest hpresent]
        obtain ⟨n, rfl⟩ := Option.isSome_iff_exists.mp (hsome hopt)
        rfl
      | true =>
        simp only [slotPresence, hopt, if_true] at hpresent ⊢
        have hfirst : present.testBit bit = v.isSome := by simpa using hpresent 0
        have hothers : ∀ i, present.testBit (bit + 1 + i) = (slotPresence slots values).getD i false := fun i => by
          simpa [Nat.add_assoc, Nat.add_comm 1 i] using hpresent (i + 1)
        rw [ih hrest hothers, hfirst]
        cases v <;> simp

/-- A payload sent for fitting values is read back as these values. -/
theorem payloadValues_payloadOf {k : ReqKind} {values : List (Option Nat)} (h : slotsFit (layout k) values = true) :
    payloadValues (layout k) (payloadOf k values) = some values := by
  have hwidth : (bigEndian (presenceWidth (layout k)) (bitsValue (slotPresence (layout k) values))).length =
      presenceWidth (layout k) := bigEndian_length ..
  have hbits : bitsValue (slotPresence (layout k) values) < 256 ^ presenceWidth (layout k) := by
    refine (bitsValue_lt _).trans_le ?_
    rw [slotPresence_length h, show (256 : Nat) = 2 ^ 8 from rfl, ← pow_mul]
    exact Nat.pow_le_pow_right (by omega) (by unfold presenceWidth; omega)
  have hlen : (payloadOf k values).length = presenceWidth (layout k) + ((layout k).map (·.width)).sum := by
    rw [payloadOf, List.length_append, hwidth, slotBytes_length h]
  unfold payloadValues
  simp only [hlen, if_true, Option.some.injEq]
  rw [payloadOf, List.take_left' hwidth, List.drop_left' hwidth, beValue_bigEndian hbits]
  exact fieldValues_slotBytes h fun i => by rw [Nat.zero_add, testBit_bitsValue]

/-- A payload of fitting values is decoded from these values. -/
theorem payloadCommand_payloadOf {k : ReqKind} {values : List (Option Nat)} (p : Port) (hk : k ≠ .strappingWrite)
    (h : slotsFit (layout k) values = true) : payloadCommand p k (payloadOf k values) = commandOf p k values := by
  have hplain : payloadCommand p k (payloadOf k values) =
      (payloadValues (layout k) (payloadOf k values)).bind (commandOf p k) := by
    cases k
    case strappingWrite => exact absurd rfl hk
    all_goals rfl
  rw [hplain, payloadValues_payloadOf h, Option.bind_some]

/-! ## Strapping tables -/

theorem strappingPoints_length (points : List (Nat × Nat)) :
    (points.flatMap fun p => natBytes 2 p.1 ++ natBytes 4 p.2).length = 6 * points.length := by
  induction points with
  | nil => rfl
  | cons p rest ih =>
    simp only [List.flatMap_cons, List.length_append, natBytes_length, ih, List.length_cons]
    omega

theorem beValue_natBytes {w v : Nat} (h : fits w v = true) : beValue (natBytes w v) = v := by
  have hlt : v < 256 ^ w := of_decide_eq_true h
  rw [natBytes, if_pos hlt, beValue_bigEndian hlt]

/-- The points of a strapping table are read back from their bytes (Table 13-10). -/
theorem pointsOf_strappingPoints {points : List (Nat × Nat)}
    (h : points.all (fun p => fits 2 p.1 && fits 4 p.2) = true) :
    pointsOf points.length (points.flatMap fun p => natBytes 2 p.1 ++ natBytes 4 p.2) = points := by
  induction points with
  | nil => rfl
  | cons p rest ih =>
    obtain ⟨⟨hlevel, hgross⟩, hrest⟩ :
        (fits 2 p.1 = true ∧ fits 4 p.2 = true) ∧ rest.all (fun p => fits 2 p.1 && fits 4 p.2) = true := by
      simpa only [List.all_cons, Bool.and_eq_true] using h
    have htwo : (natBytes 2 p.1).length = 2 := natBytes_length ..
    have hfour : (natBytes 4 p.2).length = 4 := natBytes_length ..
    have hsix : (natBytes 2 p.1 ++ natBytes 4 p.2).length = 6 := by rw [List.length_append, htwo, hfour]
    rw [List.flatMap_cons, List.length_cons, pointsOf, List.drop_left' hsix, ih hrest, List.append_assoc,
      List.take_left' htwo, List.drop_left' htwo, List.take_left' hfour, beValue_natBytes hlevel, beValue_natBytes hgross]

theorem natBytes_one (v : Nat) (h : fits 1 v = true) : natBytes 1 v = [BitVec.ofNat 8 v] := by
  rw [natBytes, if_pos (of_decide_eq_true h)]
  simp [bigEndian]

theorem payloadCommand_strappingWrite {c : Nat} {points : List (Nat × Nat)} (p : Port)
    (h : (Instr.strappingWrite p c points).wf = true) :
    payloadCommand p .strappingWrite (natBytes 1 c ++ strappingImage (points.map fun p => ⟨p.1, p.2⟩)) =
      some (.strappingWrite p c points) := by
  obtain ⟨⟨hc, hn⟩, hpoints⟩ : (fits 1 c = true ∧ fits 1 points.length = true) ∧
      points.all (fun p => fits 2 p.1 && fits 4 p.2) = true := by
    simpa only [Instr.wf, Bool.and_eq_true] using h
  have htoNat : ∀ v, fits 1 v = true → (BitVec.ofNat 8 v).toNat = v := fun v hv => by
    have hlt : v < 256 ^ 1 := of_decide_eq_true hv
    rw [BitVec.toNat_ofNat]
    omega
  rw [strappingImage, List.length_map, natBytes_one c hc, natBytes_one _ hn, List.flatMap_map]
  simp only [List.singleton_append]
  unfold payloadCommand
  simp only [htoNat _ hc, htoNat _ hn, strappingPoints_length, if_true, pointsOf_strappingPoints hpoints]

/-! ## Every request -/

@[simp] theorem fitsOpt_some (w v : Nat) : fitsOpt w (some v) = fits w v := rfl

theorem setValue_fits {offsets : List Nat} (h : fitsSet 64 offsets = true) : fits 8 (setValue offsets) = true :=
  decide_eq_true (setValue_lt h)

theorem payloadCommand_templatePut {p : Port} {i lo hi : Nat} {offsets : List Nat} {check o l : Nat} {hours : Option Nat}
    (hwf : (Instr.templatePut p i lo hi offsets check o l hours).wf = true) :
    payloadCommand p .templatePut (payloadOf .templatePut
      [some i, some lo, some hi, some (setValue offsets), some check, some o, some l, hours]) =
      some (.templatePut p i lo hi offsets check o l hours) := by
  have hset : fitsSet 64 offsets = true := by
    simp only [Instr.wf, Bool.and_eq_true] at hwf
    tauto
  rw [payloadCommand_payloadOf _ (by decide)
    (.trans (by simp [layout, slotsFit, need, may, Instr.wf, Bool.and_assoc, setValue_fits hset, hset]) hwf)]
  exact congrArg (fun x => some (Instr.templatePut p i lo hi x check o l hours)) (bitsOf_setValue hset)

theorem payloadCommand_contractorPut {p : Port} {i st : Nat} {adjustment : Int} {basis : Nat} {limit : Option Nat}
    (hwf : (Instr.contractorPut p i st adjustment basis limit).wf = true) :
    payloadCommand p .contractorPut (payloadOf .contractorPut
      [some i, some st, some (unsignedOf 2 adjustment), some basis, limit]) =
      some (.contractorPut p i st adjustment basis limit) := by
  have hint : fitsInt 2 adjustment = true := by
    simp only [Instr.wf, Bool.and_eq_true] at hwf
    tauto
  rw [payloadCommand_payloadOf _ (by decide)
    (.trans (by simp [layout, slotsFit, need, may, Instr.wf, Bool.and_assoc, unsignedOf_lt, hint]) hwf)]
  exact congrArg (fun x => some (Instr.contractorPut p i st x basis limit)) (signedOf_unsignedOf hint)

theorem payloadCommand_openReceipt {p : Port} {c supplier : Nat} {docket : List Byte} {expected : Nat}
    (hwf : (Instr.openReceipt p c supplier docket expected).wf = true) :
    payloadCommand p .openReceipt (payloadOf .openReceipt
      [some c, some supplier, some (docketValue docket), some expected]) =
      some (.openReceipt p c supplier docket expected) := by
  have hdocket : fitsDocket docket = true := by
    simp only [Instr.wf, Bool.and_eq_true] at hwf
    tauto
  rw [payloadCommand_payloadOf _ (by decide)
    (.trans (by simp [layout, slotsFit, need, Instr.wf, Bool.and_assoc, docketValue_fits hdocket, hdocket]) hwf)]
  exact congrArg (fun x => some (Instr.openReceipt p c supplier x expected)) (docketOf_docketValue hdocket)

theorem payloadCommand_calibrationWrite {p : Port} {i x : Nat} {v : Int}
    (hwf : (Instr.calibrationWrite p i x v).wf = true) :
    payloadCommand p .calibrationWrite (payloadOf .calibrationWrite [some i, some x, some (unsignedOf 8 v)]) =
      some (.calibrationWrite p i x v) := by
  have hint : fitsInt 8 v = true := by
    simp only [Instr.wf, Bool.and_eq_true] at hwf
    tauto
  rw [payloadCommand_payloadOf _ (by decide)
    (.trans (by simp [layout, slotsFit, need, Instr.wf, unsignedOf_lt, hint]) hwf)]
  exact congrArg (fun y => some (Instr.calibrationWrite p i x y)) (signedOf_unsignedOf hint)

/-- Settles O17. A payload of fitting values decodes to what `commandOf` makes of the values, and that is the request
itself but for the set, the signed values and the docket number that four requests carry, and the strapping table. -/
theorem payloadDecodesToCommand : Obligations.PayloadDecodesToCommand := by
  intro i p k payload hwf hi
  cases i <;> simp only [asRequest, Option.some.injEq, Prod.mk.injEq, reduceCtorEq] at hi
  all_goals obtain ⟨rfl, rfl, rfl⟩ := hi
  case strappingWrite => exact payloadCommand_strappingWrite _ hwf
  case templatePut => exact payloadCommand_templatePut hwf
  case contractorPut => exact payloadCommand_contractorPut hwf
  case openReceipt => exact payloadCommand_openReceipt hwf
  case calibrationWrite => exact payloadCommand_calibrationWrite hwf
  all_goals
    rw [payloadCommand_payloadOf _ (by decide)
      (.trans (by simp [layout, slotsFit, need, may, Instr.wf, Bool.and_assoc]) hwf)]
    rfl

end Sys2Proof.Machine
end

section
/-! PROOFS. A request sent as the bytes of its frame (Table 13-1, R196 to R198). -/

namespace Sys2Proof.Machine

variable {s : State} {i : Instr} {p : Port} {k : ReqKind} {payload : List Byte}

/-! ## The frame of a request -/

theorem kindOf_requestCode (k : ReqKind) : kindOf (requestCode k) = some k := by
  cases k <;> rfl

theorem requestCode_lt (k : ReqKind) : requestCode k < 256 := by
  cases k <;> decide

theorem slotBytes_length_le (slots : List Slot) (values : List (Option Nat)) :
    (slotBytes slots values).length ≤ (slots.map (·.width)).sum := by
  induction slots generalizing values with
  | nil => simp [slotBytes]
  | cons f slots ih =>
    cases values with
    | nil => simp [slotBytes]
    | cons v values => simpa [slotBytes] using ih values

theorem payloadOf_length_lt (k : ReqKind) (values : List (Option Nat)) : (payloadOf k values).length < 65531 := by
  have hlayout : presenceWidth (layout k) + ((layout k).map (·.width)).sum < 65531 := by cases k <;> decide
  have hslots := slotBytes_length_le (layout k) values
  rw [payloadOf, List.length_append, bigEndian_length]
  omega

/-- The payload of a request that can be sent fits into a frame. -/
theorem payload_length_lt (hwf : i.wf = true) (h : asRequest i = some (p, k, payload)) : payload.length < 65531 := by
  cases i <;> simp only [asRequest, Option.some.injEq, Prod.mk.injEq, reduceCtorEq] at h
  all_goals obtain ⟨-, -, rfl⟩ := h
  case strappingWrite comp points =>
    obtain ⟨⟨-, hn⟩, -⟩ : (fits 1 comp = true ∧ fits 1 points.length = true) ∧
        points.all (fun p => fits 2 p.1 && fits 4 p.2) = true := by
      simpa only [Instr.wf, Bool.and_eq_true] using hwf
    have hlt : points.length < 256 := of_decide_eq_true hn
    simp only [strappingImage, List.flatMap_map, List.length_append, natBytes_length, strappingPoints_length]
    omega
  all_goals exact payloadOf_length_lt _ _

/-- What stands before the check of a request's frame (Table 13-1). -/
def frameBody (k : ReqKind) (payload : List Byte) : List Byte :=
  bigEndian 2 (payload.length + 5) ++ [BitVec.ofNat 8 (requestCode k)] ++ payload

theorem requestFrame_eq (k : ReqKind) (payload : List Byte) :
    requestFrame k payload = frameBody k payload ++ crcBytes (frameBody k payload) := rfl

theorem frameBody_length (k : ReqKind) (payload : List Byte) : (frameBody k payload).length = payload.length + 3 := by
  simp only [frameBody, List.length_append, bigEndian_length, List.length_singleton]
  omega

theorem requestFrame_length (k : ReqKind) (payload : List Byte) :
    (requestFrame k payload).length = payload.length + 5 := by
  rw [requestFrame_eq, List.length_append, frameBody_length, crcBytes_length]

theorem requestFrame_take_two (k : ReqKind) (payload : List Byte) :
    (requestFrame k payload).take 2 = bigEndian 2 (payload.length + 5) := by
  rw [requestFrame_eq, frameBody, List.append_assoc, List.append_assoc]
  exact List.take_left' (bigEndian_length ..)

theorem requestFrame_drop_two (k : ReqKind) (payload : List Byte) :
    (requestFrame k payload).drop 2 =
      BitVec.ofNat 8 (requestCode k) :: (payload ++ crcBytes (frameBody k payload)) := by
  rw [requestFrame_eq]
  nth_rw 1 [frameBody]
  rw [List.append_assoc, List.append_assoc]
  exact List.drop_left' (bigEndian_length ..)

/-- A request's frame begins with its own length. -/
theorem requestFrame_says_length (hlen : payload.length < 65531) :
    beValue ((requestFrame k payload).take 2) = (requestFrame k payload).length := by
  rw [requestFrame_take_two, requestFrame_length, beValue_bigEndian (by omega)]

theorem frameOk_requestFrame (hlen : payload.length < 65531) : frameOk (requestFrame k payload) = true := by
  have hbody : (requestFrame k payload).length - 2 = (frameBody k payload).length := by
    rw [requestFrame_length, frameBody_length]
    omega
  have htake : (requestFrame k payload).take (frameBody k payload).length = frameBody k payload := List.take_left' rfl
  have hdrop : (requestFrame k payload).drop (frameBody k payload).length = crcBytes (frameBody k payload) :=
    List.drop_left' rfl
  have hcrc := (eq_crcBytes_iff (crcBytes_length _) (frameBody k payload)).mp rfl
  have hfive : 5 ≤ (requestFrame k payload).length := by
    rw [requestFrame_length]
    omega
  rw [frameOk, requestFrame_says_length hlen, hbody, htake, hdrop, ← hcrc]
  simp [hfive]

theorem frameKind_requestFrame (k : ReqKind) (payload : List Byte) : frameKind (requestFrame k payload) = some k := by
  rw [frameKind, requestFrame_drop_two, List.take_succ_cons, List.take_zero, beValue_singleton, BitVec.toNat_ofNat,
    Nat.mod_eq_of_lt (requestCode_lt k), kindOf_requestCode]

theorem framePayload_requestFrame (k : ReqKind) (payload : List Byte) :
    framePayload (requestFrame k payload) = payload := by
  have hdrop : (requestFrame k payload).drop 3 = payload ++ crcBytes (frameBody k payload) := by
    rw [show 3 = 2 + 1 from rfl, ← List.drop_drop, requestFrame_drop_two, List.drop_one, List.tail_cons]
  rw [framePayload, hdrop, requestFrame_length, Nat.add_sub_cancel]
  exact List.take_left' rfl

/-! ## The frame at its port -/

/-- A request's frame goes through the same checks as the request and reaches the same owner (R197, R198). -/
theorem takeFrame_requestFrame {owner : State → State × Response} (hlen : payload.length < 65531)
    (howner : payloadOwner p k payload = some owner) (s : State) :
    takeFrame p (requestFrame k payload) s = takeRequest k p owner s := by
  unfold takeFrame takeRequest takeGood
  simp only [frameOk_requestFrame hlen, frameKind_requestFrame, framePayload_requestFrame, howner, Bool.not_true,
    Bool.false_eq_true, if_false]

/-- A request's frame does what the request does. -/
theorem exec_takeFrame (hwf : i.wf = true) (h : asRequest i = some (p, k, payload)) (s : State) :
    exec i s = .next (takeFrame p (requestFrame k payload) s) := by
  obtain ⟨owner, howner⟩ := requestOf_of_asRequest h
  have hpayload : payloadOwner p k payload = some owner := by
    rw [payloadOwner, payloadDecodesToCommand i p k payload hwf h, Option.bind_some, howner, Option.map_some]
  rw [exec_request howner, takeFrame_requestFrame (payload_length_lt hwf h) hpayload]

/-! ## The frame byte by byte -/

/-- A frame cut short is not complete on the service line (R196). -/
theorem serviceComplete_prefix {frame pre : List Byte} (hlen : beValue (frame.take 2) = frame.length)
    (hpre : pre <+: frame) (hshort : pre.length < frame.length) : serviceComplete pre = false := by
  rw [Bool.eq_false_iff]
  intro hcomplete
  obtain ⟨htwo, hmax⟩ : 2 ≤ pre.length ∧ max 2 (beValue (pre.take 2)) ≤ pre.length := by
    simpa only [serviceComplete, Bool.and_eq_true, decide_eq_true_eq] using hcomplete
  obtain ⟨rest, rfl⟩ := hpre
  rw [List.take_append_of_le_length htwo] at hlen
  omega

/-- A service line with part of a frame received, the last byte of it now. -/
def begun (rx : List Byte) (s : State) : State := modPort .service (fun x => { x with rx := rx, rxTime := s.itu.mono }) s

theorem begun_begun (rx rx' : List Byte) (s : State) : begun rx' (begun rx s) = begun rx' s := rfl

/-- The bytes of a frame cut short are kept, with the time of the last one (R196). -/
theorem receive_prefix {frame pre : List Byte} (hlen : beValue (frame.take 2) = frame.length) (hpre : pre <+: frame)
    (hshort : pre.length < frame.length) (hne : pre ≠ []) (hrx : (s.prt.ports.get .service).rx = []) :
    pre.foldl (fun s b => serviceByte b s) s = begun pre s := by
  induction pre using List.reverseRecOn with
  | nil => exact absurd rfl hne
  | append_singleton pre b ih =>
    have hincomplete := serviceComplete_prefix hlen hpre hshort
    rw [List.foldl_append, List.foldl_cons, List.foldl_nil]
    rcases eq_or_ne pre [] with rfl | hpre_ne
    · rw [List.foldl_nil, serviceByte, hrx, hincomplete]
      rfl
    · have hshorter : pre.length < frame.length := by
        rw [List.length_append] at hshort
        omega
      have hrx' : ((begun pre s).prt.ports.get .service).rx = pre := by simp [begun, modPort]
      rw [ih ((List.prefix_append pre [b]).trans hpre) hshorter hpre_ne, serviceByte, hrx', hincomplete]
      exact begun_begun ..

/-- A whole frame on the service line is taken with its last byte (R196). -/
theorem receive_frame {frame : List Byte} (hlen : beValue (frame.take 2) = frame.length) (htwo : 2 ≤ frame.length)
    (hrx : (s.prt.ports.get .service).rx = []) :
    frame.foldl (fun s b => serviceByte b s) s =
      takeFrame .service frame (modPort .service (fun x => { x with rxTime := s.itu.mono }) s) := by
  have hframe_ne : frame ≠ [] := by
    rintro rfl
    simp at htwo
  obtain ⟨pre, b, rfl⟩ := (List.eq_nil_or_concat' frame).resolve_left hframe_ne
  have hpre_ne : pre ≠ [] := by
    rintro rfl
    simp at htwo
  have hcomplete : serviceComplete (pre ++ [b]) = true := by
    rw [serviceComplete, hlen]
    simpa using htwo
  have hrx' : ((begun pre s).prt.ports.get .service).rx = pre := by simp [begun, modPort]
  rw [List.foldl_append, List.foldl_cons, List.foldl_nil,
    receive_prefix hlen (List.prefix_append pre [b]) (by simp) hpre_ne hrx, serviceByte, hrx', hcomplete, if_pos rfl]
  exact congrArg (fun rx => takeFrame .service (pre ++ [b]) (begun rx s)) hrx.symm

/-- Settles O18. -/
theorem framesActAsTheirRequests : Obligations.FramesActAsTheirRequests := by
  refine ⟨fun i p k payload s hwf h hp => ?_, fun i k payload s hwf h hrx => ?_⟩
  · have hok : frameOk (requestFrame k payload) = true := frameOk_requestFrame (payload_length_lt hwf h)
    rw [exec_frame hp, if_neg (ne_nil_of_frameOk hok), exec_takeFrame hwf h]
  · have htwo : 2 ≤ (requestFrame k payload).length := by
      rw [requestFrame_length]
      omega
    rw [exec_takeFrame hwf h, ← receive_frame (requestFrame_says_length (payload_length_lt hwf h)) htwo hrx]
    rfl

end Sys2Proof.Machine
end

section
/-! PROOFS. The line changes that wait are read by the passing of time alone: no input event looks at them (log entry 35). -/

namespace Sys2Proof.Machine

/-- The part with other line changes waiting. -/
def withLines (l : List LineChange) (s : State) : State := { s with itu := { s.itu with lines := l } }

@[simp] theorem withLines_frame (l : List LineChange) (s : State) :
    (withLines l s).mtr = s.mtr ∧ (withLines l s).tpi = s.tpi ∧ (withLines l s).idu = s.idu ∧
    (withLines l s).mtb = s.mtb ∧ (withLines l s).bil = s.bil ∧ (withLines l s).hsc = s.hsc ∧
    (withLines l s).stk = s.stk ∧ (withLines l s).rcp = s.rcp ∧ (withLines l s).jnl = s.jnl ∧
    (withLines l s).cal = s.cal ∧ (withLines l s).prt = s.prt ∧ (withLines l s).pending = s.pending ∧
    (withLines l s).fresh = s.fresh :=
  ⟨rfl, rfl, rfl, rfl, rfl, rfl, rfl, rfl, rfl, rfl, rfl, rfl, rfl⟩

@[simp] theorem withLines_itu (l : List LineChange) (s : State) : (withLines l s).itu = { s.itu with lines := l } := rfl

variable (l : List LineChange) (s : State)

/-! ## What is read of the part -/

@[simp] theorem hoseCtx_withLines (h : Hose) : hoseCtx (withLines l s) h = hoseCtx s h := rfl

@[simp] theorem compartment_withLines (c : Comp) : compartment (withLines l s) c = compartment s c := rfl

@[simp] theorem inputActive_withLines (i : Input) : inputActive (withLines l s) i = inputActive s i := rfl

@[simp] theorem powerFail_withLines : powerFail (withLines l s) = powerFail s := rfl

@[simp] theorem priceRecord_withLines (c : Comp) : priceRecord (withLines l s) c = priceRecord s c := rfl

@[simp] theorem dueFor_withLines (c : Comp) : dueFor (withLines l s) c = dueFor s c := rfl

@[simp] theorem activationAllowed_withLines : activationAllowed (withLines l s) = activationAllowed s := rfl

@[simp] theorem meanTemp_withLines (m : MeterId) (sum : Int) (n : Nat) :
    meanTemp (withLines l s) m sum n = meanTemp s m sum n := rfl

@[simp] theorem ctlAt_withLines (c : Comp) (t : Int) : ctlAt (withLines l s) c t = ctlAt s c t := rfl

@[simp] theorem readerWanted_withLines (h : Hose) : readerWanted (withLines l s) h = readerWanted s h := rfl

@[simp] theorem nearPreset_withLines (h : Hose) (d : Dispense) : nearPreset (withLines l s) h d = nearPreset s h d := rfl

@[simp] theorem endLevel_withLines (c : Comp) : endLevel (withLines l s) c = endLevel s c := rfl

/-! ## Writes of one part of the state -/

@[simp] theorem raise_withLines (e : Event) :
    raise e (withLines l s) = withLines l (raise e s) := rfl

@[simp] theorem raiseIf_withLines (b : Bool) (e : Event) :
    raiseIf b e (withLines l s) = withLines l (raiseIf b e s) := by
  simp [raiseIf, apply_ite (withLines l)]

@[simp] theorem modMtb_withLines (f : Mtb → Mtb) :
    modMtb f (withLines l s) = withLines l (modMtb f s) := rfl

@[simp] theorem modHsc_withLines (f : Hsc → Hsc) :
    modHsc f (withLines l s) = withLines l (modHsc f s) := rfl

@[simp] theorem modRcp_withLines (f : Rcp → Rcp) :
    modRcp f (withLines l s) = withLines l (modRcp f s) := rfl

@[simp] theorem modJnl_withLines (f : Jnl → Jnl) :
    modJnl f (withLines l s) = withLines l (modJnl f s) := rfl

@[simp] theorem modCal_withLines (f : Cal → Cal) :
    modCal f (withLines l s) = withLines l (modCal f s) := rfl

@[simp] theorem modHose_withLines (h : Hose) (f : HoseCtx → HoseCtx) :
    modHose h f (withLines l s) = withLines l (modHose h f s) := rfl

@[simp] theorem modDispense_withLines (h : Hose) (f : Dispense → Dispense) :
    modDispense h f (withLines l s) = withLines l (modDispense h f s) := rfl

@[simp] theorem setShadow_withLines (h : Hose) (w : Shadow) :
    setShadow h w (withLines l s) = withLines l (setShadow h w s) := rfl

@[simp] theorem modPump_withLines (c : Comp) (f : Pump → Pump) :
    modPump c f (withLines l s) = withLines l (modPump c f s) := rfl

@[simp] theorem modReader_withLines (h : Hose) (f : Reader → Reader) :
    modReader h f (withLines l s) = withLines l (modReader h f s) := rfl

@[simp] theorem modMeter_withLines (m : MeterId) (f : MeterState → MeterState) :
    modMeter m f (withLines l s) = withLines l (modMeter m f s) := rfl

@[simp] theorem modComp_withLines (c : Comp) (f : Compartment → Compartment) :
    modComp c f (withLines l s) = withLines l (modComp c f s) := rfl

@[simp] theorem modReceipt_withLines (f : Receipt → Receipt) :
    modReceipt f (withLines l s) = withLines l (modReceipt f s) := rfl

@[simp] theorem spend_withLines :
    spend (withLines l s) = withLines l (spend s) := rfl

/-! ## The idle timer and the journal -/

@[simp] theorem modItu_withLines {f : Itu → Itu} (hf : ∀ x, f { x with lines := l } = { f x with lines := l }) :
    modItu f (withLines l s) = withLines l (modItu f s) := by
  simp [modItu, withLines, hf]

@[simp] theorem startIdle_withLines :
    startIdle (withLines l s) = withLines l (startIdle s) := rfl

@[simp] theorem reloadIdle_withLines (src : IdleSource) :
    reloadIdle src (withLines l s) = withLines l (reloadIdle src s) := by
  simp [reloadIdle, apply_ite (withLines l)]
  rfl

@[simp] theorem wake_withLines :
    wake (withLines l s) = withLines l (wake s) := by
  simp [wake, apply_ite (withLines l)]

@[simp] theorem takeSlot_withLines (body : Body) (openTime : Nat) (closeTime : Option Nat) :
    takeSlot body openTime closeTime (withLines l s) = withLines l (takeSlot body openTime closeTime s) := by
  simp [takeSlot]

@[simp] theorem writeClosed_withLines (body : Body) :
    writeClosed body (withLines l s) = withLines l (writeClosed body s) := by
  simp [writeClosed]

@[simp] theorem closeRecord_withLines (seq : Nat) (f : Body → Body) :
    closeRecord seq f (withLines l s) = withLines l (closeRecord seq f s) := rfl

@[simp] theorem recordAdjust_withLines (param : ParamId) (subject : Subject) (old : Option Int) (new : Int) (origin : Port) :
    recordAdjust param subject old new origin (withLines l s) =
      withLines l (recordAdjust param subject old new origin s) := by
  simp [recordAdjust]

/-! ## Prices, books and machines -/

@[simp] theorem billingClose_withLines (index amount committed : Nat) :
    billingClose index amount committed (withLines l s) = withLines l (billingClose index amount committed s) := rfl

@[simp] theorem modPrice_withLines (c : Comp) (f : PriceRecord → PriceRecord) :
    modPrice c f (withLines l s) = withLines l (modPrice c f s) := rfl

@[simp] theorem activatePrice_withLines (c : Comp) :
    activatePrice c (withLines l s) = withLines l (activatePrice c s) := by
  simp only [activatePrice, dueFor_withLines]
  cases dueFor s c with
  | none => rfl
  | some p => simp [apply_ite (withLines l)]

@[simp] theorem activatePrices_withLines :
    activatePrices (withLines l s) = withLines l (activatePrices s) := by
  simp [activatePrices]

@[simp] theorem stockClose_withLines (c : Comp) (standard committed : Nat) (proving : Bool) :
    stockClose c standard committed proving (withLines l s) =
      withLines l (stockClose c standard committed proving s) := by
  simp [stockClose, apply_ite (withLines l)]
  rfl

@[simp] theorem stockReceipt_withLines (c : Comp) (standard : Nat) :
    stockReceipt c standard (withLines l s) = withLines l (stockReceipt c standard s) := rfl

@[simp] theorem modEntry_withLines (number : Nat) (f : MachineEntry → MachineEntry) :
    modEntry number f (withLines l s) = withLines l (modEntry number f s) := rfl

@[simp] theorem watchClose_withLines (number time : Nat) :
    watchClose number time (withLines l s) = withLines l (watchClose number time s) := by
  simp [watchClose]

@[simp] theorem dropRemoved_withLines (number : Nat) :
    dropRemoved number (withLines l s) = withLines l (dropRemoved number s) := by
  simp only [dropRemoved, withLines_frame]
  split <;> simp [apply_ite (withLines l)]

@[simp] theorem machineClose_withLines (number : Nat) (c : Comp) (standard gross : Nat) (hours : Option Nat) :
    machineClose number c standard gross hours (withLines l s) =
      (withLines l (machineClose number c standard gross hours s).1, (machineClose number c standard gross hours s).2) := by
  simp [machineClose, ← apply_ite (withLines l)]

/-! ## Readers, hoses and pumps -/

@[simp] theorem refreshReader_withLines (h : Hose) :
    refreshReader h (withLines l s) = withLines l (refreshReader h s) := by
  simp [refreshReader, apply_ite (withLines l)]

@[simp] theorem saveShadow_withLines (powerFail : Bool) (h : Hose) :
    saveShadow powerFail h (withLines l s) = withLines l (saveShadow powerFail h s) := by
  simp only [saveShadow, hoseCtx_withLines]
  split <;> simp

@[simp] theorem touchShadow_withLines (h : Hose) :
    touchShadow h (withLines l s) = withLines l (touchShadow h s) := by
  simp [touchShadow, apply_ite (withLines l)]

@[simp] theorem enterState_withLines (h : Hose) (st : HoseState) :
    enterState h st (withLines l s) = withLines l (enterState h st s) := by
  simp [enterState]

@[simp] theorem startTimer_withLines (h : Hose) (ms : Nat) :
    startTimer h ms (withLines l s) = withLines l (startTimer h ms s) := rfl

@[simp] theorem stopTimer_withLines (h : Hose) :
    stopTimer h (withLines l s) = withLines l (stopTimer h s) := rfl

@[simp] theorem returnIdle_withLines (h : Hose) :
    returnIdle h (withLines l s) = withLines l (returnIdle h s) := by
  simp [returnIdle]

@[simp] theorem enterReady_withLines (h : Hose) :
    enterReady h (withLines l s) = withLines l (enterReady h s) := by
  simp [enterReady]

@[simp] theorem removeCause_withLines (f : Causes → Causes) (h : Hose) :
    removeCause f h (withLines l s) = withLines l (removeCause f h s) := by
  simp only [removeCause, hoseCtx_withLines, modDispense_withLines, withLines_frame, nearPreset_withLines]
  split
  · split
    · split
      · simp
        rfl
      · simp
    · rfl
  · rfl

@[simp] theorem addCause_withLines (f : Causes → Causes) (h : Hose) :
    addCause f h (withLines l s) = withLines l (addCause f h s) := by
  simp only [addCause, hoseCtx_withLines]
  split <;> simp

@[simp] theorem confirmHose_withLines (c : Comp) (h : Hose) :
    confirmHose c h (withLines l s) = withLines l (confirmHose c h s) := by
  simp only [confirmHose, hoseCtx_withLines, withLines_frame]
  split
  · split <;> simp
  · rfl

@[simp] theorem pumpRuns_withLines (c : Comp) :
    pumpRuns c (withLines l s) = withLines l (pumpRuns c s) := by
  simp [pumpRuns]

@[simp] theorem leaveDemand_withLines (c : Comp) (h : Hose) :
    leaveDemand c h (withLines l s) = withLines l (leaveDemand c h s) := rfl

@[simp] theorem enterEnding_withLines (o : DispenseOutcome) (h : Hose) :
    enterEnding o h (withLines l s) = withLines l (enterEnding o h s) := by
  simp only [enterEnding, hoseCtx_withLines]
  split <;> simp

@[simp] theorem endIf_withLines (o : DispenseOutcome) (h : Hose) :
    endIf o h (withLines l s) = withLines l (endIf o h s) := by
  simp [endIf, apply_ite (withLines l)]

/-! ## The ends of a dispense -/

@[simp] theorem bookDispense_withLines (k : Closing) :
    bookDispense k (withLines l s) = withLines l (bookDispense k s) := by
  simp only [bookDispense]
  rcases k.machine with _ | ⟨number, hours⟩ <;> rcases k.bill with _ | ⟨index, price, basis⟩ <;> simp

@[simp] theorem closeDispense_withLines (h : Hose) :
    closeDispense h (withLines l s) = withLines l (closeDispense h s) := by
  simp only [closeDispense, hoseCtx_withLines]
  split
  · rfl
  · simp [← apply_ite (withLines l)]
    split <;> simp

@[simp] theorem lostRunHose_withLines (c : Comp) (h : Hose) :
    lostRunHose c h (withLines l s) = withLines l (lostRunHose c h s) := by
  simp only [lostRunHose, hoseCtx_withLines, withLines_frame]
  split
  · split <;> simp
  · rfl

@[simp] theorem runConfirmed_withLines (c : Comp) :
    runConfirmed c (withLines l s) = withLines l (runConfirmed c s) := by
  simp only [runConfirmed, withLines_frame]
  split <;> simp

@[simp] theorem runLost_withLines (c : Comp) :
    runLost c (withLines l s) = withLines l (runLost c s) := by
  simp only [runLost, withLines_frame]
  split <;> simp

@[simp] theorem stowNozzle_withLines (h : Hose) :
    stowNozzle h (withLines l s) = withLines l (stowNozzle h s) := by
  simp only [stowNozzle, hoseCtx_withLines]
  split <;> simp

@[simp] theorem stopHoseNow_withLines (h : Hose) :
    stopHoseNow h (withLines l s) = withLines l (stopHoseNow h s) := by
  simp [stopHoseNow, apply_ite (withLines l)]

@[simp] theorem interruptHose_withLines (h : Hose) :
    interruptHose h (withLines l s) = withLines l (interruptHose h s) := by
  simp [interruptHose, apply_ite (withLines l)]

theorem forHoses_withLines {f : Hose → State → State} (hf : ∀ h s, f h (withLines l s) = withLines l (f h s))
    (both : Bool) : forHoses both f (withLines l s) = withLines l (forHoses both f s) := by
  simp [forHoses, spend_withLines, hf, apply_ite (withLines l)]

@[simp] theorem interruptHoses_withLines :
    interruptHoses (withLines l s) = withLines l (interruptHoses s) := by
  simp [interruptHoses, forHoses_withLines l _ fun h s => interruptHose_withLines l s h]

/-! ## The receipt, the reconciles and calibration mode -/

@[simp] theorem saveReceiptShadow_withLines (powerFail : Bool) :
    saveReceiptShadow powerFail (withLines l s) = withLines l (saveReceiptShadow powerFail s) := by
  simp only [saveReceiptShadow, withLines_frame]
  split <;> simp

@[simp] theorem touchReceiptShadow_withLines :
    touchReceiptShadow (withLines l s) = withLines l (touchReceiptShadow s) := by
  simp [touchReceiptShadow, apply_ite (withLines l)]

@[simp] theorem enterReceipt_withLines (st : ReceiptState) :
    enterReceipt st (withLines l s) = withLines l (enterReceipt st s) := by
  simp [enterReceipt]

@[simp] theorem receiptTimer_withLines (ms : Nat) :
    receiptTimer ms (withLines l s) = withLines l (receiptTimer ms s) := rfl

@[simp] theorem enterSettling_withLines (o : ReceiptOutcome) :
    enterSettling o (withLines l s) = withLines l (enterSettling o s) := by
  simp [enterSettling]

@[simp] theorem settleIf_withLines (o : ReceiptOutcome) :
    settleIf o (withLines l s) = withLines l (settleIf o s) := by
  simp [settleIf, apply_ite (withLines l)]

@[simp] theorem bookReceipt_withLines (seq : Nat) (c : Comp) (expected : Nat) (gross : Option Nat) (mean : Int) (endLevel : Option Nat)
    (o : ReceiptOutcome) :
    bookReceipt seq c expected gross mean endLevel o (withLines l s) =
      withLines l (bookReceipt seq c expected gross mean endLevel o s) := by
  simp [bookReceipt]
  rfl

@[simp] theorem closeReceiptNow_withLines (o : ReceiptOutcome) :
    closeReceiptNow o (withLines l s) = withLines l (closeReceiptNow o s) := by
  simp only [closeReceiptNow, withLines_frame]
  split
  · rfl
  · simp [← apply_ite (withLines l)]

@[simp] theorem loseBond_withLines :
    loseBond (withLines l s) = withLines l (loseBond s) := by
  simp [loseBond, apply_ite (withLines l)]

@[simp] theorem regainBond_withLines :
    regainBond (withLines l s) = withLines l (regainBond s) := by
  simp [regainBond, apply_ite (withLines l)]

@[simp] theorem interruptReceipt_withLines :
    interruptReceipt (withLines l s) = withLines l (interruptReceipt s) := by
  simp only [interruptReceipt, withLines_frame]
  split <;> simp

@[simp] theorem endReconcile_withLines (c : Comp) (k : ReconcileCtx)
    (o : ReconcileOutcome) (figures : Option DipFigures) (high : Bool) :
    endReconcile c k o figures high (withLines l s) = withLines l (endReconcile c k o figures high s) := rfl

@[simp] theorem abortReconcile_withLines (c : Comp) (o : ReconcileOutcome) :
    abortReconcile c o (withLines l s) = withLines l (abortReconcile c o s) := by
  simp only [abortReconcile, withLines_frame]
  split <;> simp

@[simp] theorem endCalibration_withLines :
    endCalibration (withLines l s) = withLines l (endCalibration s) := by
  simp [endCalibration, ← apply_ite (withLines l)]

@[simp] theorem clearLeaks_withLines :
    clearLeaks (withLines l s) = withLines l (clearLeaks s) := rfl

@[simp] theorem emergencyStop_withLines :
    emergencyStop (withLines l s) = withLines l (emergencyStop s) := by
  simp [emergencyStop, apply_ite (withLines l)]

@[simp] theorem powerFailStarts_withLines :
    powerFailStarts (withLines l s) = withLines l (powerFailStarts s) := by
  simp [powerFailStarts]

@[simp] theorem powerFailEnds_withLines :
    powerFailEnds (withLines l s) = withLines l (powerFailEnds s) := by
  simp [powerFailEnds, ← apply_ite (withLines l)]

@[simp] theorem switchOpens_withLines :
    switchOpens (withLines l s) = withLines l (switchOpens s) := by
  simp [switchOpens, apply_ite (withLines l)]

/-! ## The inputs -/

@[simp] theorem modInput_withLines (i : Input) (f : InputState → InputState) :
    modInput i f (withLines l s) = withLines l (modInput i f s) := rfl

@[simp] theorem inputEvent_withLines (i : Input) (active : Bool) :
    inputEvent i active (withLines l s) = withLines l (inputEvent i active s) := by
  cases i <;> cases active <;> simp [inputEvent]

/-- An input that changes its state does so whatever line changes wait. -/
theorem changeInput_withLines (i : Input) (active : Bool) :
    changeInput i active (withLines l s) = withLines l (changeInput i active s) := by
  simp [changeInput, apply_ite (withLines l)]

end Sys2Proof.Machine
end

section
/-! PROOFS. A step with no command waiting: a millisecond passes, and what falls due is enqueued (R186, R192; log
entries 1, 6 and 35). -/

namespace Sys2Proof.Machine

variable {s : State}

/-! ## The rows of the inputs among what falls due -/

/-- The input and the state whose row a command is. -/
def rowInput : Instr → Option (Input × Bool)
  | .estopActive => some (.estop, true)
  | .estopInactive => some (.estop, false)
  | .powerfailActive => some (.powerfail, true)
  | .powerfailInactive => some (.powerfail, false)
  | .earthBondActive => some (.earthBond, true)
  | .earthBondInactive => some (.earthBond, false)
  | .overfillActive => some (.overfill, true)
  | .overfillInactive => some (.overfill, false)
  | .ignitionActive => some (.ignition, true)
  | .ignitionInactive => some (.ignition, false)
  | .supplyLowActive => some (.supplyLow, true)
  | .supplyLowInactive => some (.supplyLow, false)
  | .tiltActive => some (.tilt, true)
  | .tiltInactive => some (.tilt, false)
  | .nozzleStowed .h1 => some (.stowed1, true)
  | .nozzleLifted .h1 => some (.stowed1, false)
  | .nozzleStowed .h2 => some (.stowed2, true)
  | .nozzleLifted .h2 => some (.stowed2, false)
  | .pumpRunActive .c1 => some (.pumpRun1, true)
  | .pumpRunInactive .c1 => some (.pumpRun1, false)
  | .pumpRunActive .c2 => some (.pumpRun2, true)
  | .pumpRunInactive .c2 => some (.pumpRun2, false)
  | .calSwitchActive => some (.calSwitch, true)
  | .calSwitchInactive => some (.calSwitch, false)
  | _ => none

@[simp] theorem rowInput_inputRow (i : Input) (active : Bool) : rowInput (inputRow i active) = some (i, active) := by
  cases i <;> cases active <;> rfl

theorem inputRow_inj {i j : Input} {a b : Bool} : inputRow i a = inputRow j b ↔ i = j ∧ a = b := by
  refine ⟨fun h => ?_, fun ⟨hi, ha⟩ => by rw [hi, ha]⟩
  simpa using congrArg rowInput h

/-- None of the commands is an input's row. -/
def NoRow (commands : List Instr) : Prop := ∀ c ∈ commands, rowInput c = none

theorem NoRow.nil : NoRow [] := by simp [NoRow]

theorem NoRow.append {a b : List Instr} (ha : NoRow a) (hb : NoRow b) : NoRow (a ++ b) := by
  intro c hc
  rcases List.mem_append.mp hc with hc | hc
  · exact ha c hc
  · exact hb c hc

theorem NoRow.dueIf {b : Bool} {c : Instr} (hc : rowInput c = none) : NoRow (dueIf b c) := by
  cases b <;> simp [NoRow, Machine.dueIf, hc]

theorem NoRow.flatMap {α : Type} {xs : List α} {f : α → List Instr} (hf : ∀ x, NoRow (f x)) : NoRow (xs.flatMap f) := by
  intro c hc
  obtain ⟨x, -, hcx⟩ := List.mem_flatMap.mp hc
  exact hf x c hcx

theorem noRow_readerDue (s : State) (h : Hose) : NoRow (readerDue s h) :=
  (((NoRow.dueIf rfl).append (.dueIf rfl)).append (.dueIf rfl)).append (.dueIf rfl)

theorem noRow_sensorDue (s : State) (m : MeterId) : NoRow (sensorDue s m) := (NoRow.dueIf rfl).append (.dueIf rfl)

theorem noRow_probeDue (s : State) (c : Comp) : NoRow (probeDue s c) := (NoRow.dueIf rfl).append (.dueIf rfl)

theorem rowInput_hoseExpiry {h : Hose} {st : HoseState} {c : Instr} (hc : hoseExpiry h st = some c) :
    rowInput c = none := by
  cases st <;> simp only [hoseExpiry, Option.some.injEq, reduceCtorEq] at hc
  all_goals rw [← hc]; rfl

theorem noRow_hoseDue (s : State) (h : Hose) : NoRow (hoseDue s h) := by
  unfold hoseDue
  split
  · exact .dueIf (rowInput_hoseExpiry (by assumption))
  · exact .nil

theorem noRow_pumpDue (s : State) (c : Comp) : NoRow (pumpDue s c) := by
  unfold pumpDue
  split
  · exact .dueIf rfl
  · exact .nil

theorem noRow_receiptDue (s : State) : NoRow (receiptDue s) := by
  unfold receiptDue
  split
  · exact .dueIf rfl
  · exact .dueIf rfl
  · exact .nil

theorem noRow_portDue (s : State) : NoRow (portDue s) := .dueIf rfl

theorem noRow_clockDue (s : State) : NoRow (clockDue s) :=
  (((((NoRow.dueIf rfl).append (.dueIf rfl)).append (.flatMap fun _ => .dueIf rfl)).append (.dueIf rfl)).append
    (.dueIf rfl)).append (.dueIf rfl)

/-- What falls due beside the inputs' rows. -/
def otherDue (s : State) : List Instr :=
  readerDue s .h1 ++ readerDue s .h2 ++ sensorDue s .m1 ++ sensorDue s .m2 ++ sensorDue s .mi ++ probeDue s .c1
    ++ probeDue s .c2 ++ hoseDue s .h1 ++ hoseDue s .h2 ++ pumpDue s .c1 ++ pumpDue s .c2 ++ receiptDue s ++ portDue s
    ++ clockDue s

theorem dueCommands_eq (s : State) : dueCommands s = allInputs.flatMap (inputDue s) ++ otherDue s := by
  simp only [dueCommands, otherDue, List.append_assoc]

theorem noRow_otherDue (s : State) : NoRow (otherDue s) :=
  .append (.append (.append (.append (.append (.append (.append (.append (.append (.append (.append (.append (.append
    (noRow_readerDue s .h1) (noRow_readerDue s .h2)) (noRow_sensorDue s .m1)) (noRow_sensorDue s .m2))
    (noRow_sensorDue s .mi)) (noRow_probeDue s .c1)) (noRow_probeDue s .c2)) (noRow_hoseDue s .h1))
    (noRow_hoseDue s .h2)) (noRow_pumpDue s .c1)) (noRow_pumpDue s .c2)) (noRow_receiptDue s)) (noRow_portDue s))
    (noRow_clockDue s)

theorem mem_inputDue {i j : Input} {active : Bool} : inputRow i active ∈ inputDue s j ↔
    j = i ∧ active ≠ (s.itu.inputs.get i).active ∧ ∃ d, (s.itu.inputs.get i).heldAt = some d ∧ d ≤ s.itu.mono := by
  have hdue : ∀ {b : Bool} {c c' : Instr}, c ∈ dueIf b c' ↔ b = true ∧ c = c' := by
    intro b c c'
    cases b <;> simp [dueIf]
  have hheld : ((s.itu.inputs.get j).heldAt.map fun d => decide (d ≤ s.itu.mono)).getD false = true ↔
      ∃ d, (s.itu.inputs.get j).heldAt = some d ∧ d ≤ s.itu.mono := by
    cases (s.itu.inputs.get j).heldAt <;> simp
  rw [inputDue, hdue, hheld, inputRow_inj]
  constructor
  · rintro ⟨hd, rfl, rfl⟩
    exact ⟨rfl, by simp, hd⟩
  · rintro ⟨rfl, hne, hd⟩
    exact ⟨hd, rfl, ne_eq_not hne.symm⟩

/-- An input's row falls due exactly when the level of the other state has been held for the debounce time (R186). -/
theorem mem_dueCommands {i : Input} {active : Bool} : inputRow i active ∈ dueCommands s ↔
    active ≠ (s.itu.inputs.get i).active ∧ ∃ d, (s.itu.inputs.get i).heldAt = some d ∧ d ≤ s.itu.mono := by
  have hother : inputRow i active ∉ otherDue s := fun hmem => by simpa using noRow_otherDue s _ hmem
  have hall : i ∈ allInputs := by cases i <;> decide
  rw [dueCommands_eq, List.mem_append, List.mem_flatMap]
  constructor
  · rintro (⟨j, -, hj⟩ | hmem)
    · exact (mem_inputDue.mp hj).2
    · exact absurd hmem hother
  · intro hdue
    exact .inl ⟨i, hall, mem_inputDue.mpr ⟨rfl, hdue⟩⟩

/-! ## The lines -/

/-- A line change that is not due yet comes a millisecond nearer (log entry 35). -/
theorem passLines_wait {c : LineChange} {rest : List LineChange} (hl : s.itu.lines = c :: rest) (hw : 1 < c.wait) :
    passLines s = withLines ({ c with wait := c.wait - 1 } :: rest) s := by
  have hne : c.wait - 1 ≠ 0 := by omega
  simp only [passLines, hl, runLines, if_neg hne]
  rfl

theorem runLines_of_head {lines : List LineChange} (hw : ∀ c ∈ lines.head?, c.wait ≠ 0) (s : State) :
    runLines lines s = withLines lines s := by
  cases lines with
  | nil => rfl
  | cons c rest =>
    rw [runLines, if_neg (hw c rfl)]
    rfl

/-- A line change that is due takes its line to the level, and the next one waits on. -/
theorem passLines_drive {c : LineChange} {rest : List LineChange} (hl : s.itu.lines = c :: rest) (hw : c.wait ≤ 1)
    (hrest : ∀ c' ∈ rest.head?, c'.wait ≠ 0) : passLines s = withLines rest (driveLine c.input c.level s) := by
  have hzero : c.wait - 1 = 0 := by omega
  simp only [passLines, hl, runLines, hzero, if_true]
  exact runLines_of_head hrest _

section
variable {i : Input} {level : Bool}

theorem driveLine_same (hlevel : (s.itu.inputs.get i).level = level) : driveLine i level s = s := by
  simp [driveLine, hlevel]

theorem driveLine_back (hlevel : (s.itu.inputs.get i).level ≠ level)
    (hactive : (level != (s.itu.inputs.get i).activeLow) = (s.itu.inputs.get i).active) :
    driveLine i level s = modInput i (fun x => { x with level := level, heldAt := none }) s := by
  simp [driveLine, levelState, hlevel, hactive]

theorem driveLine_starts (hlevel : (s.itu.inputs.get i).level ≠ level)
    (hactive : (level != (s.itu.inputs.get i).activeLow) ≠ (s.itu.inputs.get i).active)
    (hdebounce : (s.itu.inputs.get i).debounce ≠ 0) :
    driveLine i level s = modInput i (fun x =>
      { x with level := level, heldAt := some (s.itu.mono + (s.itu.inputs.get i).debounce) }) s := by
  simp only [driveLine, levelState, beq_iff_eq, hlevel, hactive, hdebounce, if_false]
  exact modInput_congr rfl

theorem driveLine_at_once (hlevel : (s.itu.inputs.get i).level ≠ level)
    (hactive : (level != (s.itu.inputs.get i).activeLow) ≠ (s.itu.inputs.get i).active)
    (hdebounce : (s.itu.inputs.get i).debounce = 0) :
    driveLine i level s = changeInput i (level != (s.itu.inputs.get i).activeLow) s := by
  simp [driveLine, levelState, hlevel, hactive, hdebounce]

end

/-! ## The step -/

/-- The part a millisecond later. -/
def oneMore (s : State) : State := modItu (fun x => { x with mono := x.mono + 1 }) s

theorem step_idle_due {d : Nat} (hp : s.pending = []) (hd : s.itu.idleDeadline = some d) (hle : d ≤ s.itu.mono) :
    step s = .next { s with pending := [.idleTimerExpiry] } := by
  simp [step, hp, idleStep, idleDue, hd, hle]

theorem dueCommands_withQueue (v : State) (queue : List Instr) :
    dueCommands { v with pending := queue } = dueCommands v := rfl

theorem withoutQueue_eq {v : State} (hv : v.pending = []) : { v with pending := [] } = v := by
  cases v
  obtain rfl := hv
  rfl

/-- A millisecond's step leaves what its lines leave, with what falls due in the queue. -/
theorem step_passes {v : State} (hp : s.pending = []) (hidle : ∀ d ∈ s.itu.idleDeadline, s.itu.mono < d)
    (hv : passLines (oneMore s) = v) (hvp : v.pending = []) :
    ∃ t, step s = .next t ∧ t.pending = dueCommands t ∧ { t with pending := [] } = v := by
  have hdue : idleDue s = false := by
    cases hd : s.itu.idleDeadline with
    | none => simp [idleDue, hd]
    | some d => simpa [idleDue, hd] using hidle d hd
  have hstep : step s = .next { v with pending := v.pending ++ dueCommands v } := by
    rw [step, hp, idleStep, hdue, ← hv]
    rfl
  refine ⟨_, hstep, ?_, withoutQueue_eq hvp⟩
  rw [hvp, List.nil_append]
  exact (dueCommands_withQueue v (dueCommands v)).symm

/-- Settles O2. -/
theorem idleStepPassesMillisecond : Obligations.IdleStepPassesMillisecond := by
  refine ⟨fun d s hp hd hle => step_idle_due hp hd hle, fun s hp hidle => ⟨fun hl => ⟨?_, fun t ht i active => ?_⟩,
    fun c rest hl => ⟨fun hw => ?_, fun hw hrest => ?_⟩⟩⟩
  · have hsame : oneMore s = withLines [] (oneMore s) := congrArg (fun l => withLines l (oneMore s)) hl
    exact step_passes hp hidle ((passLines_nil (oneMore s) hl).trans hsame) hp
  · obtain ⟨t', ht', hpending, hrest⟩ := step_passes hp hidle (passLines_nil (oneMore s) hl) hp
    obtain rfl := Host.Outcome.next.inj (ht.symm.trans ht')
    have hitu : t.itu = (oneMore s).itu := (congrArg State.itu hrest :)
    rw [hpending, mem_dueCommands, hitu]
    rfl
  · exact step_passes hp hidle (passLines_wait (s := oneMore s) hl hw) hp
  · have hpass := passLines_drive (s := oneMore s) hl hw hrest
    refine ⟨fun hlevel => ?_, fun hlevel hactive => ?_, fun hlevel hactive hdebounce => ?_,
      fun hlevel hactive hdebounce => ?_⟩
    · rw [driveLine_same (s := oneMore s) hlevel] at hpass
      exact step_passes hp hidle hpass hp
    · rw [driveLine_back (s := oneMore s) hlevel hactive] at hpass
      exact step_passes hp hidle hpass hp
    · rw [driveLine_starts (s := oneMore s) hlevel hactive hdebounce] at hpass
      exact step_passes hp hidle hpass hp
    · rw [driveLine_at_once (s := oneMore s) hlevel hactive hdebounce, ← changeInput_withLines] at hpass
      refine ⟨_, exec_inputRow _ _ _, step_passes hp hidle hpass ?_⟩
      obtain ⟨u, hu, hqueue⟩ := commandsCompleteAndKeepQueue
        (inputRow c.input (c.level != (s.itu.inputs.get c.input).activeLow)) (withLines rest (oneMore s))
      obtain rfl := Host.Outcome.next.inj ((exec_inputRow _ _ _).symm.trans hu)
      exact hqueue.trans hp

end Sys2Proof.Machine
end
